-- ==== Sys2Proof/Word.lean ====
section
/-! DEFINITION. The word types of the part: what its frames, its wrapping counters and its stored table
contents are made of. Every other quantity of the spec is a number (`Nat`, `Int`) or a name. -/

namespace Sys2Proof

/-- One byte of a frame (R172). -/
abbrev Byte := BitVec 8

/-- A two-byte field of a payload or of a table entry (R178); the passenger counters, modulo 65,536
(00_scope section 5.4); a set of sixteen event kinds (R182). -/
abbrev Half := BitVec 16

/-- A car odometer reading, modulo 2^24 (00_scope section 5.4, R39). -/
abbrev Odo := BitVec 24

/-- A four-byte field (R178); the line clock, modulo 2^32 (R188); a ticket serial (R155). -/
abbrev Long := BitVec 32

end Sys2Proof
end

