-- ==== Sys2Proof/Syntax.lean ====
section
/-! DEFINITION. The commands of the part: one constructor of `Instr` per row of spec/opcode_table.json, with
the row's operands, and the requests that a frame may carry (Table 10-3). The meaning of a command is in
Machine/; nothing here has one. -/

namespace Sys2Proof

/-- The five serial ports (00_scope section 2.2): P0 the console, P1 and P2 the cars, P3 and P4 the gates. -/
inductive PortId where
  | p0 | p1 | p2 | p3 | p4
  deriving DecidableEq, Repr

/-- The two cars. -/
inductive Car where
  | a | b
  deriving DecidableEq, Repr

/-- The two terminal stations (R157): LOWER on P3, UPPER on P4. -/
inductive Station where
  | lower | upper
  deriving DecidableEq, Repr

/-- The two brake lines (R91). -/
inductive Brake where
  | sbk | ebk
  deriving DecidableEq, Repr

/-- A debounced brake feedback reading (R91): line high reads LIFTED, line low reads DROPPED. -/
inductive Feedback where
  | lifted | dropped
  deriving DecidableEq, Repr

/-- One input sample of a channel's quadrature pair QnA, QnB (R18), true for a high level. -/
structure QuadPair where
  a : Bool
  b : Bool
  deriving DecidableEq, Repr

/-- The payload of a CAR_REPORT, field by field in the order and the widths of Table 10-4. -/
structure CarReport where
  odoNow        : Odo
  markerPresent : Byte
  markerId      : Byte
  odoAtMarker   : Odo
  leftClosed    : Byte
  leftLocked    : Byte
  rightClosed   : Byte
  rightLocked   : Byte
  inCounter     : Half
  outCounter    : Half
  haltButton    : Byte
  alarmHandle   : Byte
  faultFlag     : Byte
  deriving DecidableEq, Repr

/-- The payload of a TICKET request, field by field (Table 9-1, Table 10-4). -/
structure Ticket where
  gate       : Byte
  serial     : Long
  kindClass  : Byte
  product    : Half
  concession : Byte
  groupSize  : Byte
  rides      : Byte
  days       : Half
  bought     : Byte
  deriving DecidableEq, Repr

/-- A request of one of the 23 kinds of Table 10-3, its payload fields as sent. -/
inductive Request where
  | status (sect : Byte)
  | events
  | subscribe (kinds : Half)
  | start (direction : Byte)
  | resume
  | stop
  | emergency
  | acknowledge
  | mode (lineMode : Byte)
  | serviceOn
  | serviceOff
  | timeSet (minutes : Half)
  | haltCall (stopIndex : Byte)
  | haltCancel (stopIndex : Byte)
  | inspectMove (direction : Byte) (distance : Long)
  | channelService (channel action : Byte)
  | tableWrite (table index presence : Byte) (contents : List Byte)
  | tableRead (table index : Byte)
  | commit
  | carReport (report : CarReport)
  | ticket (tk : Ticket)
  | passage (gate reference persons : Byte)
  | stationStatus
  deriving DecidableEq, Repr

/-- A command sent to the part: one constructor per row of spec/opcode_table.json. The rows of field lines,
samples, timers and serial lines are the events the spec names. A row that is a request of Table 10-3 is
that request, sent as a valid frame on the port given, and taken (R175, R176). -/
inductive Instr where
  /-- POWER_ON_RESET (R187). -/
  | powerOnReset
  /-- ENCODER_EDGE (R18): two successive input samples of one channel's pair. -/
  | encoderEdge (channel : Fin 4) (before after : QuadPair)
  /-- MEASUREMENT_SAMPLE (R29): the 2 ms sample completes. -/
  | measurementSample
  /-- DEM_PERIOD (R67): a DEM period begins. -/
  | demPeriod
  /-- DIR_PENDING_CHANGE (R68). -/
  | dirPendingChange
  /-- WARN_TOGGLE (R69). -/
  | warnToggle
  /-- WARNING_END (R69). -/
  | warningEnd
  /-- SETTLE_EXPIRY (R147) of one terminal's settle timer. -/
  | settleExpiry (station : Station)
  /-- CLOSURE_TIMER_EXPIRY (R116). -/
  | closureTimerExpiry
  /-- APPLY_PROOF_TIMEOUT (R93) of one brake. -/
  | applyProofTimeout (brake : Brake)
  /-- LIFT_PROOF_TIMEOUT (R94) of one brake. -/
  | liftProofTimeout (brake : Brake)
  /-- BRAKE_FEEDBACK_CHANGE (R95): the debounced reading of one brake becomes the one given. -/
  | brakeFeedbackChange (brake : Brake) (reading : Feedback)
  /-- PFAIL_CHANGE (R85): the debounced PFAIL reading becomes ACTIVE (true) or INACTIVE. -/
  | pfailChange (active : Bool)
  /-- CALL_LINE_CHANGE (R110): the debounced reading of one call line becomes ACTIVE (true) or INACTIVE. -/
  | callLineChange (line : Fin 8) (active : Bool)
  /-- TIME_OF_DAY_ADVANCE (R188). -/
  | timeOfDayAdvance
  /-- CONSOLE_TIMEOUT (R123). -/
  | consoleTimeout
  /-- CAR_LINK_TIMEOUT (R184) of one car's link timer. -/
  | carLinkTimeout (car : Car)
  /-- GATE_LINK_TIMEOUT (R186) of one gate's link timer. -/
  | gateLinkTimeout (station : Station)
  /-- FRAME_COMPLETE (R175): the byte that ends a frame on one port arrives. -/
  | frameComplete (port : PortId) (lastCheck : Byte)
  /-- FRAME_GAP (R173). -/
  | frameGap (port : PortId)
  /-- FRAMING_ERROR (R172). -/
  | framingError (port : PortId)
  /-- BREAK (R174). -/
  | breakDetected (port : PortId)
  /-- REPLY_END (R177). -/
  | replyEnd (port : PortId)
  /-- STATUS (R180). -/
  | status (port : PortId) (sect : Byte)
  /-- EVENTS (R183). -/
  | events (port : PortId)
  /-- SUBSCRIBE (R183). -/
  | subscribe (port : PortId) (kinds : Half)
  /-- START (R105). -/
  | start (port : PortId) (direction : Byte)
  /-- RESUME (R106). -/
  | resume (port : PortId)
  /-- STOP (R113). -/
  | stop (port : PortId)
  /-- EMERGENCY (R113). -/
  | emergency (port : PortId)
  /-- ACKNOWLEDGE (R97). -/
  | acknowledge (port : PortId)
  /-- MODE (R101). -/
  | mode (port : PortId) (lineMode : Byte)
  /-- MODE_CONFIG (R189): the MODE request that names CONFIG. -/
  | modeConfig (port : PortId)
  /-- SERVICE_ON (R102). -/
  | serviceOn (port : PortId)
  /-- SERVICE_OFF (R103). -/
  | serviceOff (port : PortId)
  /-- TIME_SET (R188). -/
  | timeSet (port : PortId) (minutes : Half)
  /-- HALT_CALL (R109). -/
  | haltCall (port : PortId) (stopIndex : Byte)
  /-- HALT_CANCEL (R112). -/
  | haltCancel (port : PortId) (stopIndex : Byte)
  /-- INSPECT_MOVE (R121). -/
  | inspectMove (port : PortId) (direction : Byte) (distance : Long)
  /-- CHANNEL_SERVICE_REMOVE (R25): CHANNEL_SERVICE with action REMOVE. -/
  | channelServiceRemove (port : PortId) (channel : Byte)
  /-- CHANNEL_SERVICE_RESTORE (R25): CHANNEL_SERVICE with action RESTORE. -/
  | channelServiceRestore (port : PortId) (channel : Byte)
  /-- TABLE_WRITE (R190). -/
  | tableWrite (port : PortId) (table index presence : Byte) (contents : List Byte)
  /-- TABLE_READ (R190). -/
  | tableRead (port : PortId) (table index : Byte)
  /-- COMMIT (R191). -/
  | commit (port : PortId)
  /-- CAR_REPORT (R179). -/
  | carReport (port : PortId) (report : CarReport)
  /-- TICKET (R156). -/
  | ticket (port : PortId) (tk : Ticket)
  /-- PASSAGE (R149). -/
  | passage (port : PortId) (gate reference persons : Byte)
  /-- STATION_STATUS (R154). -/
  | stationStatus (port : PortId)
  /-- RECEIVED_BYTE (R173). -/
  | receivedByte (port : PortId) (data : Byte)
  /-- LINE_RETURNED_HIGH (R174). -/
  | lineReturnedHigh (port : PortId)
  deriving DecidableEq, Repr

end Sys2Proof
end

