-- ==== Sys2Proof/Decode.lean ====
section
/-! DEFINITION. The commands spelled by words of the opcode table. No row of spec/opcode_table.json gives bits
(98_reader.md: n_rows_with_fixed 0, n_rows_with_fields 0), so no word spells a command. The byte-level frames
of Table 10-1 are commands of their own (RECEIVED_BYTE, FRAME_COMPLETE); their reading is in Machine/. -/

namespace Sys2Proof

/-- The command that a word spells by the table's bits: none, since no row gives bits. -/
def decodeTableWord (_nbits _w : Nat) : Option Instr := none

end Sys2Proof
end

