-- ==== Sys2Proof/Config.lean ====
section
/-! DEFINITION. What the part fixes (timings, capacities) and the free values: the two choices the spec leaves
open. A free value has no body, so nothing proved of the model can rest on what it is. -/

namespace Sys2Proof.Config

/-- The measurement sample, in ms (00_scope section 5.5, R29). -/
def sampleMs : Nat := 2

/-- The largest edge count taken at a sample (R19). -/
def maxCount : Int := 4095

/-- The largest channel speed, in mm/s (R21). -/
def maxSpeed : Int := 32767

/-- The speed above which a channel counts as moving in the stall test, in mm/s (R31). -/
def stallSpeed : Int := 200

/-- The ceiling of the standstill count, in samples (R81). -/
def standstillCeiling : Nat := 1000

/-- Entries of a port's receive queue (R175). -/
def queueDepth : Nat := 2

/-- Entries of a pending admission list (R141). -/
def pendingDepth : Nat := 16

/-- Entries of a recent-serial list (R142). -/
def recentDepth : Nat := 64

/-- The largest car load (R137). -/
def maxLoad : Int := 255

/-- Saturation of a rule's hit counter (R162). -/
def maxHits : Nat := 65535

/-- Saturation of a door side's order sequence (R124). -/
def maxOrders : Nat := 255

/-- Longest inspection move, in mm (R121). -/
def maxMove : Int := 50000

/-- Milliseconds of one minute (R188). -/
def minuteMs : Nat := 60000

/-- Minutes of one day (R188). -/
def dayMinutes : Nat := 1440

/-- FREE VALUE (assumption 8). R32 marks, at equal speed magnitudes, 'the channel whose stall count reached
the limit'; where both counts reached it at the same sample the rule names no channel. True: MAIN1 is marked.
The argument is the model's own counter, so that one occasion need not choose as another. -/
opaque bothStalledMarksMain1 : Nat → Bool

/-- FREE VALUE (assumption 9). The stage-1 link of a ticket taken in CONFIGURING while the stored link default
is none of ZERO, GATE and STATION (R159 names no other; R190 lets the store hold it). The arguments are the
stored value and the gate. -/
opaque linkOfUndefinedDefault : Long → Byte → Byte

end Sys2Proof.Config
end

