-- ==== Sys2Proof/Machine/State.lean ====
section
/-! DEFINITION. Every piece of state the spec gives the UL4280, block by block (00_scope Figure 3-1), as plain
data, and the machine right after reset. Each structure's docstring cites the table that lists its fields. -/

namespace Sys2Proof.Machine

/-! ### Names the spec lists (Table 10-5) -/

/-- Trip state (Table 6-2). -/
inductive TripState where
  | configuring | outOfService | stopped | departing | running | arriving | stranded | tripped | inspecting
  deriving DecidableEq, Repr

/-- Step within DEPARTING, ARRIVING or INSPECTING (Table 6-1). -/
inductive Step where
  | warning | doors | closure | brakeRelease | standstill | apply | lifting | moving | holding
  deriving DecidableEq, Repr

/-- Phase of the reference (R64). -/
inductive Phase where
  | accel | cruise | decel | creep
  deriving DecidableEq, Repr

/-- Line mode (Table 11-1). -/
inductive LineMode where
  | normal | reduced | inspection | config
  deriving DecidableEq, Repr

/-- Direction of travel (R2): UP is x_s increasing. -/
inductive Direction where
  | up | down
  deriving DecidableEq, Repr

/-- State of a counting channel (02_rope_measurement section 2). -/
inductive ChannelState where
  | inService | outOfService | failed | unmapped
  deriving DecidableEq, Repr

/-- Result of a marker record (Table 3-1). -/
inductive MarkerResult where
  | accepted | clamped | mismatch | homed
  deriving DecidableEq, Repr

/-- Result of the arrival test (R51). -/
inductive ArrivalResult where
  | aligned | misaligned | noPlatform
  deriving DecidableEq, Repr

/-- Cause kinds, in the order of Table 5-2. -/
inductive CauseKind where
  | overspeed | overspeedSevere | rollback | overrun | encoderDisagree | ropeSlip | positionMismatch
  | linkLostA | linkLostB | doorUnlockedRunning | serviceBrakeFault | emergencyBrakeFault
  | stopDemand | emergencyDemand | powerFail | carFault
  deriving DecidableEq, Repr

/-- Source recorded with a cause (Table 10-5). -/
inductive CauseSource where
  | internal
  | port (p : PortId)
  | car (c : Car)
  | lineSbkf | lineEbkf | linePfail
  deriving DecidableEq, Repr

/-- Braking in force (R86); the severities of the causes are its last three values. -/
inductive Braking where
  | none | stop | service | emergency
  deriving DecidableEq, Repr

/-- Event kinds, in the order of Table 10-6. -/
inductive EventKind where
  | tripStateChanged | targetChanged | causeAdded | causesCleared | doorsReleased | doorsProvenClosed
  | departureFailed | overload | batchStateChanged | linkDown | linkUp | haltRequestAdded
  | haltRequestServed | misalignedStop | overspeedWarning | configCommitted
  deriving DecidableEq, Repr

/-- What a car is told to do with a door side (Table 7-1). -/
inductive DoorCommand where
  | holdClosed | released | closeOrdered
  deriving DecidableEq, Repr

/-- A car's own sides, seen facing uphill (R5). -/
inductive Side where
  | left | right
  deriving DecidableEq, Repr

/-- State of a boarding batch (Table 8-2). -/
inductive BatchState where
  | opened | closing | closed | suspended
  deriving DecidableEq, Repr

/-- Command of a brake (R91). -/
inductive BrakeCommand where
  | applied | lifted
  deriving DecidableEq, Repr

/-- Proof state of a brake (R93, R94). -/
inductive Proof where
  | proving | proven | failed
  deriving DecidableEq, Repr

/-- Reply status codes of Table 10-2 that carry no detail bytes, and the two that do. -/
inductive Status where
  | ok
  | refusedState
  | notClear (condition : Nat)
  | badArgument
  | wrongPort
  | unknownKind
  | badStop
  | overload
  | stale
  | validationFailed (table index : Nat)
  deriving DecidableEq, Repr

/-! ### Fixed numbers of like things -/

/-- One thing per car. -/
structure PerCar (α : Type) where
  a : α
  b : α
  deriving DecidableEq, Repr

/-- One thing per door side of a car. -/
structure PerSide (α : Type) where
  left  : α
  right : α
  deriving DecidableEq, Repr

/-- One thing per terminal station. -/
structure PerStation (α : Type) where
  lower : α
  upper : α
  deriving DecidableEq, Repr

/-- One thing per brake. -/
structure PerBrake (α : Type) where
  sbk : α
  ebk : α
  deriving DecidableEq, Repr

/-- One thing per counting channel Q0 to Q3. -/
structure PerChannel (α : Type) where
  q0 : α
  q1 : α
  q2 : α
  q3 : α
  deriving DecidableEq, Repr

/-- One thing per serial port. -/
structure PerPort (α : Type) where
  p0 : α
  p1 : α
  p2 : α
  p3 : α
  p4 : α
  deriving DecidableEq, Repr

/-- A running timer, in line clock milliseconds. It keeps the duration it was started with (R190). An idle
timer is `none`. -/
structure Timer where
  elapsed : Nat
  limit   : Nat
  deriving DecidableEq, Repr

/-! ### Line Table Store (R3) -/

/-- A table entry, valid or empty, with the contents last stored in it (R3, R181). -/
structure Slot (α : Type) where
  valid : Bool
  val   : α
  deriving DecidableEq, Repr

/-- Stop table entry (Table 1-2), as stored. -/
structure StopEntry where
  markA   : Long
  markB   : Long
  sideA   : Byte
  sideB   : Byte
  service : Byte
  deriving DecidableEq, Repr

/-- Profile segment (R6), as stored. -/
structure SegmentEntry where
  start : Long
  cap   : Half
  deriving DecidableEq, Repr

/-- Marker (R7), as stored. -/
structure MarkerEntry where
  id       : Byte
  position : Long
  deriving DecidableEq, Repr

/-- Load band (R8), as stored; `bound` is signed. -/
structure BandEntry where
  bound : Half
  aAcc  : Half
  aDec  : Half
  aSup  : Half
  deriving DecidableEq, Repr

/-- Channel role map entry (R9), as stored. -/
structure ChannelEntry where
  role  : Byte
  pitch : Half
  sense : Byte
  deriving DecidableEq, Repr

/-- Call map entry (R10), as stored. -/
structure CallEntry where
  stopIndex : Byte
  car       : Byte
  deriving DecidableEq, Repr

/-- Range checker (R160), as stored. -/
structure RangeEntry where
  source : Byte
  low    : Half
  high   : Half
  deriving DecidableEq, Repr

/-- A masked byte field of a rule (R162). -/
structure Masked where
  value : Byte
  mask  : Byte
  deriving DecidableEq, Repr

/-- A masked two-byte field of a rule (R162). -/
structure MaskedHalf where
  value : Half
  mask  : Half
  deriving DecidableEq, Repr

/-- An enumerated field of a rule with its care flag (R162). -/
structure Cared where
  value : Byte
  care  : Byte
  deriving DecidableEq, Repr

/-- Rule entry contents (Table 9-3), as stored. -/
structure RuleEntry where
  stage          : Byte
  link           : Masked
  gate           : Masked
  kindClass      : Masked
  product        : MaskedHalf
  concession     : Masked
  groupSize      : Masked
  range          : Masked
  station        : Cared
  ridesFlag      : Cared
  directionMatch : Cared
  lineMode       : Cared
  batchState     : Cared
  fillLevel      : Cared
  actionKind     : Byte
  linkValue      : Byte
  outcome        : Byte
  persons        : Byte
  reasonCode     : Byte
  deductRide     : Byte
  passbackExempt : Byte
  displayCode    : Byte
  deriving DecidableEq, Repr

/-- A rule entry with its hit counter (R162, R165). -/
structure RuleSlot where
  slot : Slot RuleEntry
  hits : Nat
  deriving DecidableEq, Repr

/-- The four parameters that come into force at a successful COMMIT (R190). -/
structure InForce where
  window   : Nat
  modulus  : Nat
  capacity : Nat
  maxCorr  : Nat
  deriving DecidableEq, Repr

/-- The tables, the committed flag (R3) and the parameter values in force (R190). -/
structure Lts where
  params    : Vector Long 34
  stops     : Vector (Slot StopEntry) 8
  segments  : Vector (Slot SegmentEntry) 32
  markers   : Vector (Slot MarkerEntry) 32
  bands     : Vector (Slot BandEntry) 4
  channels  : Vector (Slot ChannelEntry) 4
  calls     : Vector (Slot CallEntry) 8
  rules     : Vector RuleSlot 128
  ranges    : Vector (Slot RangeEntry) 8
  committed : Bool
  inForce   : InForce
  deriving DecidableEq, Repr

/-! ### Rope Measurement Unit (02_rope_measurement section 1, Table 2-1) -/

/-- A counting channel. The window sum S and the fill k are computed from `window` (R20). -/
structure Channel where
  state       : ChannelState
  edges       : Int
  c           : Int
  d           : Int
  window      : List Int
  partialMark : Bool
  vch         : Int
  deriving DecidableEq, Repr

/-- State of the RMU. `x2` is the two-times accumulator X2 in µm (R27); x_s is computed from it. -/
structure Rmu where
  channels   : PerChannel Channel
  x2         : Int
  dx2        : Int
  vSup       : Int
  vAvg       : Int
  known      : Bool
  twoChannel : Bool
  pA         : Nat
  p1         : Nat
  p2         : Nat
  dM2        : Int
  dSL        : Int
  slipActive : Bool
  deriving DecidableEq, Repr

/-! ### Car Position Tracker (Table 3-1, R47) -/

/-- A car's last marker. -/
structure MarkerRecord where
  id     : Byte
  odo    : Odo
  error  : Int
  result : MarkerResult
  time   : Long
  deriving DecidableEq, Repr

/-- A car's arrival result (R51). -/
structure ArrivalRecord where
  result    : ArrivalResult
  stopIndex : Nat
  error     : Int
  deriving DecidableEq, Repr

/-- A car's record of the CPT (Table 3-1). -/
structure CarRecord where
  offset     : Int
  lastOdo    : Option Odo
  lastMarker : Option MarkerRecord
  arrival    : Option ArrivalRecord
  deriving DecidableEq, Repr

/-- The stop target record, when present (R47). -/
structure StopTarget where
  stopIndex : Nat
  position  : Int
  frozen    : Bool
  deriving DecidableEq, Repr

/-- State of the CPT. -/
structure Cpt where
  cars   : PerCar CarRecord
  target : Option StopTarget
  deriving DecidableEq, Repr

/-! ### Trip Sequencer (Table 6-1, R108, R119, R123) -/

/-- The inspection move in progress (R121, R122). `remaining` is in two-times µm. -/
structure Move where
  direction  : Direction
  distance   : Int
  startKnown : Bool
  endpoint   : Option Int
  remaining  : Int
  deriving DecidableEq, Repr

/-- A source of a halt request (R108). -/
inductive HaltSource where
  | call (line : Fin 8) (car : Car)
  | button (car : Car)
  | console
  deriving DecidableEq, Repr

/-- An entry of the halt request list (R108). -/
structure HaltEntry where
  stopIndex : Nat
  sources   : List HaltSource
  time      : Long
  deriving DecidableEq, Repr

/-- State of the TSQ: the trip record, the halt request list, the drive request and its timers. The stop target
position of Table 6-1 is the CPT's (R99: 'a copy'), and is computed. `warningEnded` is the SRG's report of R69
within step WARNING. `callLines` holds the debounced call-line readings, true for ACTIVE (R110). -/
structure Tsq where
  state        : TripState
  step         : Option Step
  resume       : Bool
  phase        : Option Phase
  direction    : Direction
  origin       : Option Nat
  target       : Option Nat
  mode         : LineMode
  lastChange   : Long
  silent       : Bool
  move         : Option Move
  halts        : List HaltEntry
  driveRequest : Bool
  warningEnded : Bool
  closureTimer : Option Timer
  consoleTimer : Option Timer
  callLines    : Vector Bool 8
  deriving DecidableEq, Repr

/-! ### Speed Reference Generator (Table 4-1) -/

/-- State of the SRG. `vRef` is in µm/s. `frozen` says that a frozen factor is in force (R55). `dirPending` is
the direction held by R68. `period` is the length in ticks of the running DEM period (R67). -/
structure Srg where
  vRef       : Nat
  vTgt       : Nat
  band       : Option (Fin 4)
  fRef       : Nat
  insp       : Bool
  phase      : Option Phase
  ctlTarget  : Option Int
  holding    : Nat
  active     : Nat
  period     : Nat
  dir        : Direction
  dirPending : Option Direction
  warning    : Option Timer
  warn       : Bool
  frozen     : Bool
  deriving DecidableEq, Repr

/-! ### Overspeed and Brake Supervisor (Table 5-1) -/

/-- The rollback measure (R78, R79), in two-times µm. -/
inductive Rollback where
  | inactive
  | running (rb2 : Int)
  | standing (st2 : Int)
  deriving DecidableEq, Repr

/-- An entry of the cause list (R83). `position` absent is UNKNOWN. -/
structure CauseEntry where
  kind     : CauseKind
  source   : CauseSource
  position : Option Int
  speed    : Nat
  time     : Long
  deriving DecidableEq, Repr

/-- A brake's command, proof, proof timer and debounced feedback reading (R91, R93, R94). -/
structure BrakeRecord where
  command : BrakeCommand
  proof   : Proof
  timer   : Option Timer
  reading : Feedback
  deriving DecidableEq, Repr

/-- State of the OBS. `still` is the standstill indication formed at the last sample (R81). `liftPending` and
`applyPending` say that a request of R92 awaits its report. -/
structure Obs where
  envelope     : Bool
  fSup         : Nat
  inspSup      : Bool
  aSup         : Option Nat
  direction    : Direction
  endpoint     : Option Int
  eFrom        : Option Int
  rE2          : Int
  ctlStop      : Bool
  vPerm2       : Option Nat
  excursion    : Bool
  pS           : Nat
  still        : Bool
  rollback     : Rollback
  causes       : List CauseEntry
  trippedFrom  : Option TripState
  stopLatch    : Bool
  brakes       : PerBrake BrakeRecord
  railBrake    : Bool
  pfail        : Bool
  carFault     : PerCar Bool
  liftPending  : Bool
  applyPending : Bool
  deriving DecidableEq, Repr

/-! ### Door Release Unit (Table 7-1) -/

/-- A door-side record. -/
structure DoorRecord where
  command    : DoorCommand
  closed     : Option Bool
  locked     : Option Bool
  reportTime : Option Long
  orders     : Nat
  deriving DecidableEq, Repr

/-! ### Boarding Count Unit (R137, Table 8-1) -/

/-- The two counter snapshots of a car, set and made absent together (R138, R139). -/
structure Snapshot where
  inC  : Half
  outC : Half
  deriving DecidableEq, Repr

/-- A car's load record (R137). -/
structure LoadRecord where
  load : Nat
  snap : Option Snapshot
  deriving DecidableEq, Repr

/-- A pending admission (R141). -/
structure Admission where
  reference : Nat
  gate      : Nat
  persons   : Nat
  serial    : Long
  time      : Long
  deriving DecidableEq, Repr

/-- A recent serial (R142). -/
structure RecentSerial where
  serial : Long
  time   : Long
  deriving DecidableEq, Repr

/-- A terminal's batch record (Table 8-1). -/
structure Batch where
  state   : BatchState
  passed  : Nat
  pending : List Admission
  lastRef : Nat
  recent  : List RecentSerial
  settle  : Option Timer
  carried : Nat
  boarded : Nat
  deriving DecidableEq, Repr

/-- State of the BCU. -/
structure Bcu where
  loads   : PerCar LoadRecord
  batches : PerStation Batch
  deriving DecidableEq, Repr

/-! ### Link Port Unit (R173, R175, R177, R182, R184, R186) -/

/-- A port's receiver (R173): HUNTING, waiting for LEN, or collecting the bytes after LEN. -/
inductive Receiver where
  | hunting
  | awaitLen
  | collecting (len : Nat) (bytes : List Byte)
  deriving DecidableEq, Repr

/-- The reply to a taken request: its payload, or a CAR_ORDER, which is formed when it is sent (R176, R135). -/
inductive ReplyBody where
  | fixed (payload : List Byte)
  | carOrder (c : Car)
  deriving DecidableEq, Repr

/-- An entry of a receive queue: a valid frame, with its reply once it has been taken (R175). -/
structure QueueEntry where
  kind    : Byte
  payload : List Byte
  reply   : Option ReplyBody
  deriving DecidableEq, Repr

/-- A reply frame being sent: its KIND and payload (R177). The bytes on the wire are computed from it. -/
structure ReplyFrame where
  kind    : Byte
  payload : List Byte
  deriving DecidableEq, Repr

/-- One port: its receiver, whether a break holds its line low, its queue, its transmitter, its event set and
subscription (bit k for the event kind of code k). -/
structure PortRecord where
  rx      : Receiver
  lineLow : Bool
  queue   : List QueueEntry
  tx      : Option ReplyFrame
  events  : Half
  subs    : Half
  deriving DecidableEq, Repr

/-- A supervised link and its timer (R184, R186). -/
structure Link where
  up    : Bool
  timer : Option Timer
  deriving DecidableEq, Repr

/-- State of the LPU. -/
structure Lpu where
  ports     : PerPort PortRecord
  carLinks  : PerCar Link
  gateLinks : PerStation Link
  deriving DecidableEq, Repr

/-! ### The whole part -/

/-- The state of the part, and the queue of commands that wait, oldest first. `clock` is the line clock;
`timeOfDay` is absent while unset, with the milliseconds of its running minute (R188). `freeIndex` is the
model's own counter for a free value (assumption 8). -/
structure State where
  lts        : Lts
  rmu        : Rmu
  cpt        : Cpt
  tsq        : Tsq
  srg        : Srg
  obs        : Obs
  dru        : PerCar (PerSide DoorRecord)
  bcu        : Bcu
  lpu        : Lpu
  clock      : Long
  timeOfDay  : Option Nat
  minuteMs   : Nat
  freeIndex  : Nat
  pending    : List Instr
  deriving DecidableEq, Repr

/-- Reasons to stop with a fault. The spec names none: every command of the table has an effect, a reply or no
effect. -/
inductive Fault where
  /-- Raised by nothing: kept so that the type is not empty. Safe. -/
  | none
  deriving DecidableEq, Repr

/-- Reasons to refuse a command. -/
inductive Refusal where
  /-- Raised by an arm whose command has no meaning yet; no arm of this model is so. Safe. -/
  | notModelled (mnemonic : String)
  deriving DecidableEq, Repr

/-! ### Power-on reset -/

/-- The parameter values after power-on reset, in index order (Table 1-1). -/
def resetParams : List Long :=
  [0, 0, 300, 2000, 500, 800, 200, 30, 500, 51, 102, 154, 150, 1000, 600, 3000, 250, 100, 16, 160, 500, 180, 80,
   5, 10, 30, 400, 600, 300, 10, 10, 1024, 0, 0]

/-- Stored contents after power-on reset: 0 in every byte (R181). -/
def blankRule : RuleEntry :=
  { stage := 0, link := ⟨0, 0⟩, gate := ⟨0, 0⟩, kindClass := ⟨0, 0⟩, product := ⟨0, 0⟩, concession := ⟨0, 0⟩,
    groupSize := ⟨0, 0⟩, range := ⟨0, 0⟩, station := ⟨0, 0⟩, ridesFlag := ⟨0, 0⟩, directionMatch := ⟨0, 0⟩,
    lineMode := ⟨0, 0⟩, batchState := ⟨0, 0⟩, fillLevel := ⟨0, 0⟩, actionKind := 0, linkValue := 0, outcome := 0,
    persons := 0, reasonCode := 0, deductRide := 0, passbackExempt := 0, displayCode := 0 }

/-- The table store after power-on reset (R3, R9, R181); the role of an empty channel entry reads NONE (3). -/
def resetLts : Lts :=
  { params := ⟨⟨resetParams⟩, rfl⟩
    stops := Vector.replicate 8 ⟨false, 0, 0, 0, 0, 0⟩
    segments := Vector.replicate 32 ⟨false, 0, 0⟩
    markers := Vector.replicate 32 ⟨false, 0, 0⟩
    bands := Vector.replicate 4 ⟨false, 0, 0, 0, 0⟩
    channels := Vector.replicate 4 ⟨false, 3, 0, 0⟩
    calls := Vector.replicate 8 ⟨false, 0, 0⟩
    rules := Vector.replicate 128 ⟨⟨false, blankRule⟩, 0⟩
    ranges := Vector.replicate 8 ⟨false, 0, 0, 0⟩
    committed := false
    inForce := { window := 16, modulus := 1024, capacity := 180, maxCorr := 3000 } }

/-- A channel after power-on reset (Table 2-1). The partial mark: DESIGN CHOICE, clear (assumption 10). -/
def resetChannel : Channel :=
  { state := .unmapped, edges := 0, c := 0, d := 0, window := [], partialMark := false, vch := 0 }

/-- The RMU after power-on reset (Table 2-1). -/
def resetRmu : Rmu :=
  { channels := ⟨resetChannel, resetChannel, resetChannel, resetChannel⟩, x2 := 0, dx2 := 0, vSup := 0, vAvg := 0,
    known := false, twoChannel := false, pA := 0, p1 := 0, p2 := 0, dM2 := 0, dSL := 0, slipActive := false }

/-- A car's CPT record after power-on reset and after COMMIT (Table 3-1), but for last_odo (R39). -/
def resetCarRecord : CarRecord := { offset := 0, lastOdo := none, lastMarker := none, arrival := none }

/-- The TSQ after power-on reset (Table 6-1); the console timer runs for console_to, 10 s (R123); every call line
reads INACTIVE (R110). -/
def resetTsq : Tsq :=
  { state := .configuring, step := none, resume := false, phase := none, direction := .up, origin := none,
    target := none, mode := .config, lastChange := 0, silent := false, move := none, halts := [],
    driveRequest := false, warningEnded := false, closureTimer := none,
    consoleTimer := some { elapsed := 0, limit := 10000 }, callLines := Vector.replicate 8 false }

/-- The SRG after power-on reset (Table 4-1). -/
def resetSrg : Srg :=
  { vRef := 0, vTgt := 0, band := none, fRef := 256, insp := false, phase := none, ctlTarget := none, holding := 0,
    active := 0, period := 1024, dir := .down, dirPending := none, warning := none, warn := false, frozen := false }

/-- A brake after power-on reset: APPLIED, PROVEN, the reading DROPPED (Table 5-1, R187). -/
def resetBrake : BrakeRecord := { command := .applied, proof := .proven, timer := none, reading := .dropped }

/-- The OBS after power-on reset (Table 5-1). The standstill indication: DEDUCED, false (assumption 24). -/
def resetObs : Obs :=
  { envelope := false, fSup := 256, inspSup := false, aSup := none, direction := .up, endpoint := none,
    eFrom := none, rE2 := 0, ctlStop := false, vPerm2 := none, excursion := false, pS := 0, still := false,
    rollback := .inactive, causes := [], trippedFrom := none, stopLatch := false, brakes := ⟨resetBrake, resetBrake⟩,
    railBrake := true, pfail := false, carFault := ⟨false, false⟩, liftPending := false, applyPending := false }

/-- A door side after power-on reset (Table 7-1). -/
def resetDoor : DoorRecord :=
  { command := .holdClosed, closed := none, locked := none, reportTime := none, orders := 0 }

/-- A batch after power-on reset (Table 8-1). -/
def resetBatch : Batch :=
  { state := .suspended, passed := 0, pending := [], lastRef := 0, recent := [], settle := none, carried := 0,
    boarded := 0 }

/-- A port after power-on reset: HUNTING, its queue, event set and subscription empty (R173, R175, R182). -/
def resetPort : PortRecord :=
  { rx := .hunting, lineLow := false, queue := [], tx := none, events := 0, subs := 0 }

/-- The LPU after power-on reset: car links DOWN, gate links UP with their timers running for console_to, 10 s
(R184, R186). -/
def resetLpu : Lpu :=
  { ports := ⟨resetPort, resetPort, resetPort, resetPort, resetPort⟩
    carLinks := ⟨{ up := false, timer := none }, { up := false, timer := none }⟩
    gateLinks := ⟨{ up := true, timer := some { elapsed := 0, limit := 10000 } },
                  { up := true, timer := some { elapsed := 0, limit := 10000 } }⟩ }

/-- The part right after power-on reset (R187), with no command waiting. -/
def State.reset : State :=
  { lts := resetLts, rmu := resetRmu, cpt := { cars := ⟨resetCarRecord, resetCarRecord⟩, target := none },
    tsq := resetTsq, srg := resetSrg, obs := resetObs,
    dru := ⟨⟨resetDoor, resetDoor⟩, ⟨resetDoor, resetDoor⟩⟩,
    bcu := { loads := ⟨{ load := 0, snap := none }, { load := 0, snap := none }⟩,
             batches := ⟨resetBatch, resetBatch⟩ },
    lpu := resetLpu, clock := 0, timeOfDay := none, minuteMs := 0, freeIndex := 0, pending := [] }

end Sys2Proof.Machine
end

