-- ==== Sys2Proof/Machine/Operands.lean ====
section
/-! DEFINITION. The operand forms of the commands and of the replies: the accessors of things kept per car, side,
station, brake, channel and port; the codes of Table 10-5; the byte encodings of R178; and the reading of a
request's payload (Table 10-4) with the LPU's own tests of it (R176, R181). -/

namespace Sys2Proof

/-! ### Ports and what they serve -/

/-- The terminal of a gate port (R155). -/
def PortId.station : PortId → Option Station
  | .p3 => some .lower
  | .p4 => some .upper
  | _ => none

/-- The car of a car port (R40). -/
def PortId.car : PortId → Option Car
  | .p1 => some .a
  | .p2 => some .b
  | _ => none

def Car.port : Car → PortId
  | .a => .p1
  | .b => .p2

def Station.port : Station → PortId
  | .lower => .p3
  | .upper => .p4

/-! ### Codes of the commands' own operands -/

def PortId.number : PortId → Nat
  | .p0 => 0 | .p1 => 1 | .p2 => 2 | .p3 => 3 | .p4 => 4

def Station.code : Station → Nat
  | .lower => 0 | .upper => 1

def Car.code : Car → Nat
  | .a => 0 | .b => 1

/-- STATUS lists a feedback reading without naming a code (R180): DEDUCED 1 for LIFTED, 0 for DROPPED. -/
def Feedback.code : Feedback → Nat
  | .lifted => 1 | .dropped => 0

/-- KIND of a request (Table 10-3). -/
def Request.kind : Request → Nat
  | .status _ => 1 | .events => 2 | .subscribe _ => 3 | .start _ => 4 | .resume => 5 | .stop => 6
  | .emergency => 7 | .acknowledge => 8 | .mode _ => 9 | .serviceOn => 10 | .serviceOff => 11
  | .timeSet _ => 12 | .haltCall _ => 13 | .haltCancel _ => 14 | .inspectMove _ _ => 15
  | .channelService _ _ => 16 | .tableWrite _ _ _ _ => 17 | .tableRead _ _ => 18 | .commit => 19
  | .carReport _ => 20 | .ticket _ => 21 | .passage _ _ _ => 22 | .stationStatus => 23

end Sys2Proof

namespace Sys2Proof.Machine

/-! ### Accessors -/

def PerCar.get {α : Type} (v : PerCar α) : Car → α
  | .a => v.a
  | .b => v.b

def PerCar.set {α : Type} (v : PerCar α) (c : Car) (x : α) : PerCar α :=
  match c with
  | .a => { v with a := x }
  | .b => { v with b := x }

def PerSide.get {α : Type} (v : PerSide α) : Side → α
  | .left => v.left
  | .right => v.right

def PerSide.map {α β : Type} (f : α → β) (v : PerSide α) : PerSide β := ⟨f v.left, f v.right⟩

def PerStation.get {α : Type} (v : PerStation α) : Station → α
  | .lower => v.lower
  | .upper => v.upper

def PerStation.set {α : Type} (v : PerStation α) (s : Station) (x : α) : PerStation α :=
  match s with
  | .lower => { v with lower := x }
  | .upper => { v with upper := x }

def PerBrake.get {α : Type} (v : PerBrake α) : Brake → α
  | .sbk => v.sbk
  | .ebk => v.ebk

def PerBrake.set {α : Type} (v : PerBrake α) (b : Brake) (x : α) : PerBrake α :=
  match b with
  | .sbk => { v with sbk := x }
  | .ebk => { v with ebk := x }

def PerChannel.get {α : Type} (v : PerChannel α) (i : Fin 4) : α :=
  match i with
  | 0 => v.q0
  | 1 => v.q1
  | 2 => v.q2
  | 3 => v.q3

def PerChannel.set {α : Type} (v : PerChannel α) (i : Fin 4) (x : α) : PerChannel α :=
  match i with
  | 0 => { v with q0 := x }
  | 1 => { v with q1 := x }
  | 2 => { v with q2 := x }
  | 3 => { v with q3 := x }

/-- Apply a function of the channel number and the channel to each channel. -/
def PerChannel.mapIdx {α β : Type} (f : Fin 4 → α → β) (v : PerChannel α) : PerChannel β :=
  ⟨f 0 v.q0, f 1 v.q1, f 2 v.q2, f 3 v.q3⟩

def PerPort.get {α : Type} (v : PerPort α) : PortId → α
  | .p0 => v.p0
  | .p1 => v.p1
  | .p2 => v.p2
  | .p3 => v.p3
  | .p4 => v.p4

def PerPort.set {α : Type} (v : PerPort α) (p : PortId) (x : α) : PerPort α :=
  match p with
  | .p0 => { v with p0 := x }
  | .p1 => { v with p1 := x }
  | .p2 => { v with p2 := x }
  | .p3 => { v with p3 := x }
  | .p4 => { v with p4 := x }

/-- Apply a function of the port and its record to each port. -/
def PerPort.mapPort {α β : Type} (f : PortId → α → β) (v : PerPort α) : PerPort β :=
  ⟨f .p0 v.p0, f .p1 v.p1, f .p2 v.p2, f .p3 v.p3, f .p4 v.p4⟩

def PerCar.mapCar {α β : Type} (f : Car → α → β) (v : PerCar α) : PerCar β := ⟨f .a v.a, f .b v.b⟩

def PerStation.mapStation {α β : Type} (f : Station → α → β) (v : PerStation α) : PerStation β :=
  ⟨f .lower v.lower, f .upper v.upper⟩

/-! ### Codes of Table 10-5 and the other lists it refers to -/

def TripState.code : TripState → Nat
  | .configuring => 0 | .outOfService => 1 | .stopped => 2 | .departing => 3 | .running => 4
  | .arriving => 5 | .stranded => 6 | .tripped => 7 | .inspecting => 8

def Step.code : Step → Nat
  | .warning => 0 | .doors => 1 | .closure => 2 | .brakeRelease => 3 | .standstill => 4
  | .apply => 5 | .lifting => 6 | .moving => 7 | .holding => 8

def Phase.code : Phase → Nat
  | .accel => 0 | .cruise => 1 | .decel => 2 | .creep => 3

def LineMode.code : LineMode → Nat
  | .normal => 0 | .reduced => 1 | .inspection => 2 | .config => 3

/-- The line mode a MODE request names; none for a code beyond the list (Table 6-3, order 1). -/
def LineMode.ofCode (b : Byte) : Option LineMode :=
  match b.toNat with
  | 0 => some .normal
  | 1 => some .reduced
  | 2 => some .inspection
  | 3 => some .config
  | _ => none

def Direction.code : Direction → Nat
  | .up => 0 | .down => 1

/-- The direction a START or an INSPECT_MOVE names; none for a code beyond the list. -/
def Direction.ofCode (b : Byte) : Option Direction :=
  match b.toNat with
  | 0 => some .up
  | 1 => some .down
  | _ => none

def ChannelState.code : ChannelState → Nat
  | .inService => 0 | .outOfService => 1 | .failed => 2 | .unmapped => 3

def MarkerResult.code : MarkerResult → Nat
  | .accepted => 0 | .clamped => 1 | .mismatch => 2 | .homed => 3

def ArrivalResult.code : ArrivalResult → Nat
  | .aligned => 0 | .misaligned => 1 | .noPlatform => 2

def CauseKind.code : CauseKind → Nat
  | .overspeed => 0 | .overspeedSevere => 1 | .rollback => 2 | .overrun => 3 | .encoderDisagree => 4
  | .ropeSlip => 5 | .positionMismatch => 6 | .linkLostA => 7 | .linkLostB => 8 | .doorUnlockedRunning => 9
  | .serviceBrakeFault => 10 | .emergencyBrakeFault => 11 | .stopDemand => 12 | .emergencyDemand => 13
  | .powerFail => 14 | .carFault => 15

def CauseSource.code : CauseSource → Nat
  | .internal => 0
  | .port p => 1 + p.number
  | .car .a => 6
  | .car .b => 7
  | .lineSbkf => 8 | .lineEbkf => 9 | .linePfail => 10

def EventKind.code : EventKind → Nat
  | .tripStateChanged => 0 | .targetChanged => 1 | .causeAdded => 2 | .causesCleared => 3 | .doorsReleased => 4
  | .doorsProvenClosed => 5 | .departureFailed => 6 | .overload => 7 | .batchStateChanged => 8 | .linkDown => 9
  | .linkUp => 10 | .haltRequestAdded => 11 | .haltRequestServed => 12 | .misalignedStop => 13
  | .overspeedWarning => 14 | .configCommitted => 15

def DoorCommand.code : DoorCommand → Nat
  | .holdClosed => 0 | .released => 1 | .closeOrdered => 2

def BatchState.code : BatchState → Nat
  | .opened => 0 | .closing => 1 | .closed => 2 | .suspended => 3

def BrakeCommand.code : BrakeCommand → Nat
  | .applied => 0 | .lifted => 1

def Proof.code : Proof → Nat
  | .proving => 0 | .proven => 1 | .failed => 2

def Rollback.code : Rollback → Nat
  | .inactive => 0 | .running _ => 1 | .standing _ => 2

def Braking.code : Braking → Nat
  | .none => 0 | .stop => 1 | .service => 2 | .emergency => 3

/-- Codes of the NOT_CLEAR conditions (Table 10-5). -/
def condMode : Nat := 0
def condPosition : Nat := 1
def condNotAtStop : Nat := 2
def condLinkA : Nat := 3
def condLinkB : Nat := 4
def condSingleChannel : Nat := 5
def condCauses : Nat := 6
def condDirection : Nat := 7
def condNoTarget : Nat := 8
def condMoving : Nat := 9
def condDoorA : Nat := 10
def condDoorB : Nat := 11
def condPowerFail : Nat := 12
def condFaultA : Nat := 13
def condFaultB : Nat := 14
def condSbkLifted : Nat := 15
def condEbkLifted : Nat := 16

/-- Codes of the tables (Table 10-5). -/
def tabParameters : Nat := 0
def tabStops : Nat := 1
def tabSegments : Nat := 2
def tabMarkers : Nat := 3
def tabBands : Nat := 4
def tabChannels : Nat := 5
def tabCalls : Nat := 6
def tabRules : Nat := 7
def tabRanges : Nat := 8

/-! ### Byte encodings (R178) -/

/-- One byte. -/
def enc1 (n : Nat) : List Byte := [BitVec.ofNat 8 n]

/-- Two bytes, high byte first; a negative value in two's complement. -/
def enc2 (v : Int) : List Byte :=
  let w := BitVec.ofInt 16 v
  [w.extractLsb' 8 8, w.extractLsb' 0 8]

/-- Three bytes, high byte first. -/
def enc3 (w : BitVec 24) : List Byte := [w.extractLsb' 16 8, w.extractLsb' 8 8, w.extractLsb' 0 8]

/-- Four bytes of a word, high byte first. -/
def encLong (w : Long) : List Byte :=
  [w.extractLsb' 24 8, w.extractLsb' 16 8, w.extractLsb' 8 8, w.extractLsb' 0 8]

/-- Two bytes of a word, high byte first. -/
def encHalf (w : Half) : List Byte := [w.extractLsb' 8 8, w.extractLsb' 0 8]

/-- Four bytes, high byte first; a negative value in two's complement. -/
def enc4 (v : Int) : List Byte := encLong (BitVec.ofInt 32 v)

/-- A yes/no field: 0 for no, 1 for yes. -/
def encBool (b : Bool) : List Byte := [if b then 1 else 0]

/-- An optional field of `width` value bytes: a presence byte, then the value, or zeros when absent. -/
def encOpt (width : Nat) : Option (List Byte) → List Byte
  | none => 0 :: List.replicate width 0
  | some bytes => 1 :: bytes

/-- A two-byte field, high byte first. -/
def half (hi lo : Byte) : Half := hi ++ lo

/-- A three-byte field, high byte first. -/
def odo (b2 b1 b0 : Byte) : Odo := b2 ++ b1 ++ b0

/-- A four-byte field, high byte first. -/
def long (b3 b2 b1 b0 : Byte) : Long := b3 ++ b2 ++ b1 ++ b0

/-- The status code and its detail bytes (Table 10-2). -/
def Status.encode : Status → List Byte
  | .ok => enc1 0
  | .refusedState => enc1 1
  | .notClear c => enc1 2 ++ enc1 c
  | .badArgument => enc1 3
  | .wrongPort => enc1 4
  | .unknownKind => enc1 5
  | .badStop => enc1 6
  | .overload => enc1 7
  | .stale => enc1 8
  | .validationFailed t i => enc1 9 ++ enc1 t ++ enc1 i

/-! ### Requests (Table 10-3, Table 10-4) -/

/-- KIND is one of the 23 request kinds (R176, test 1). -/
def knownKind (kind : Nat) : Bool := decide (1 ≤ kind ∧ kind ≤ 23)

/-- The kind is permitted on the port (Table 10-3; R176, test 2). -/
def permitted (p : PortId) (kind : Nat) : Bool :=
  match p with
  | .p0 => decide (1 ≤ kind ∧ kind ≤ 19)
  | .p1 | .p2 => decide (kind = 2 ∨ kind = 3 ∨ kind = 20)
  | .p3 | .p4 => decide (kind = 2 ∨ kind = 3 ∨ kind = 6 ∨ kind = 7 ∨ kind = 21 ∨ kind = 22 ∨ kind = 23)

/-- The request that a payload of the right length spells; none for another length (R176, test 3). The contents
of a TABLE_WRITE are of the length its table gives (R181), which `encodingOk` tests. -/
def parseRequest (kind : Nat) (payload : List Byte) : Option Request :=
  match kind, payload with
  | 1, [s] => some (.status s)
  | 2, [] => some .events
  | 3, [h, l] => some (.subscribe (half h l))
  | 4, [d] => some (.start d)
  | 5, [] => some .resume
  | 6, [] => some .stop
  | 7, [] => some .emergency
  | 8, [] => some .acknowledge
  | 9, [m] => some (.mode m)
  | 10, [] => some .serviceOn
  | 11, [] => some .serviceOff
  | 12, [h, l] => some (.timeSet (half h l))
  | 13, [k] => some (.haltCall k)
  | 14, [k] => some (.haltCancel k)
  | 15, [d, a, b, c, e] => some (.inspectMove d (long a b c e))
  | 16, [c, a] => some (.channelService c a)
  | 17, t :: i :: pr :: contents => some (.tableWrite t i pr contents)
  | 18, [t, i] => some (.tableRead t i)
  | 19, [] => some .commit
  | 20, [o2, o1, o0, mp, mid, m2, m1, m0, lc, ll, rc, rl, i1, i0, u1, u0, hb, ah, ff] =>
    some (.carReport
      { odoNow := odo o2 o1 o0, markerPresent := mp, markerId := mid, odoAtMarker := odo m2 m1 m0,
        leftClosed := lc, leftLocked := ll, rightClosed := rc, rightLocked := rl, inCounter := half i1 i0,
        outCounter := half u1 u0, haltButton := hb, alarmHandle := ah, faultFlag := ff })
  | 21, [g, s3, s2, s1, s0, kc, p1, p0, co, gs, ri, d1, d0, bo] =>
    some (.ticket
      { gate := g, serial := long s3 s2 s1 s0, kindClass := kc, product := half p1 p0, concession := co,
        groupSize := gs, rides := ri, days := half d1 d0, bought := bo })
  | 22, [g, r, n] => some (.passage g r n)
  | 23, [] => some .stationStatus
  | _, _ => none

/-- Number of entries of a table, 0 for a code beyond the list (R181). -/
def tableSize (table : Byte) : Nat :=
  match table.toNat with
  | 0 => 34 | 1 => 8 | 2 => 32 | 3 => 32 | 4 => 4 | 5 => 4 | 6 => 8 | 7 => 128 | 8 => 8 | _ => 0

/-- Length of the contents of a table's entries (R181). -/
def contentsLength (table : Byte) : Nat :=
  match table.toNat with
  | 0 => 4 | 1 => 11 | 2 => 6 | 3 => 5 | 4 => 8 | 5 => 4 | 6 => 2 | 7 => 37 | 8 => 5 | _ => 0

/-- A byte is a yes/no or presence code. -/
def isFlag (b : Byte) : Bool := decide (b.toNat ≤ 1)

/-- Every field holds a value that its encoding defines (R176, test 3; R178, R181). The bytes of an absent marker
record are not tested: DESIGN CHOICE (assumption 33). -/
def encodingOk : Request → Bool
  | .status s => decide (s.toNat ≤ 5)
  | .start d => decide (d.toNat ≤ 1)
  | .mode m => decide (m.toNat ≤ 3)
  | .inspectMove d _ => decide (d.toNat ≤ 1)
  | .channelService _ a => decide (a.toNat ≤ 1)
  | .tableWrite t i pr contents =>
    decide (i.toNat < tableSize t) && isFlag pr && decide (t.toNat = tabParameters → pr = 1) &&
      decide (contents.length = contentsLength t)
  | .tableRead t i => decide (i.toNat < tableSize t)
  | .carReport r =>
    isFlag r.markerPresent && isFlag r.leftClosed && isFlag r.leftLocked && isFlag r.rightClosed &&
      isFlag r.rightLocked && isFlag r.haltButton && isFlag r.alarmHandle && isFlag r.faultFlag
  | .ticket t => decide (t.bought.toNat ≤ 2)
  | .events | .subscribe _ | .resume | .stop | .emergency | .acknowledge | .serviceOn | .serviceOff => true
  | .timeSet _ | .haltCall _ | .haltCancel _ | .commit | .passage _ _ _ | .stationStatus => true

/-- A yes/no field that has passed the LPU's tests, as a Bool. -/
def yes (b : Byte) : Bool := decide (b.toNat = 1)

/-! ### The check sequence of a frame (Table 10-1) -/

/-- One bit of the CRC-16 with polynomial 0x1021, not reflected. -/
def crcBit (crc : Half) : Half :=
  if crc.getLsbD 15 then (crc <<< 1) ^^^ 0x1021 else crc <<< 1

/-- One byte taken into the CRC, most significant bit first. -/
def crcByte (crc : Half) (b : Byte) : Half :=
  crcBit (crcBit (crcBit (crcBit (crcBit (crcBit (crcBit (crcBit (crc ^^^ (half b 0)))))))))

/-- The CRC over LEN, KIND and payload, initial value 0xFFFF, no final inversion (Table 10-1). -/
def crc16 (bytes : List Byte) : Half := bytes.foldl crcByte 0xFFFF

/-- The bytes of a reply frame on the wire (Table 10-1, R177). -/
def ReplyFrame.bytes (f : ReplyFrame) : List Byte :=
  let body := BitVec.ofNat 8 (f.payload.length + 1) :: f.kind :: f.payload
  0xC3 :: (body ++ encHalf (crc16 body))

end Sys2Proof.Machine
end

