-- ==== Sys2Proof/Machine/Tables.lean ====
section
/-! DEFINITION. The Line Table Store (chapter 1): what its entries read as, the contents of TABLE_WRITE and
TABLE_READ (R181, R190), and the commit checks of Table 1-3 (R11 to R17). -/

namespace Sys2Proof.Machine

/-! ### Parameters (R4) -/

/-- The stored value of a parameter: four bytes, signed (R181). -/
def Lts.param (t : Lts) (i : Fin 34) : Int := (t.params.get i).toInt

/-- L, mm (Table 1-1, index 0). -/
def Lts.lineLength (t : Lts) : Int := t.param 0

/-- v_line_max, mm/s (Table 1-1, index 1). -/
def Lts.vLineMax (t : Lts) : Int := t.param 1

/-- v_creep, mm/s (Table 1-1, index 2). -/
def Lts.vCreep (t : Lts) : Int := t.param 2

/-- creep_dist, mm (Table 1-1, index 3). -/
def Lts.creepDist (t : Lts) : Int := t.param 3

/-- v_creep_sup, mm/s (Table 1-1, index 4). -/
def Lts.vCreepSup (t : Lts) : Int := t.param 4

/-- overrun_allow, mm (Table 1-1, index 5). -/
def Lts.overrunAllow (t : Lts) : Int := t.param 5

/-- w, mm (Table 1-1, index 6). -/
def Lts.platformWindow (t : Lts) : Int := t.param 6

/-- v_still, mm/s (Table 1-1, index 7). -/
def Lts.vStill (t : Lts) : Int := t.param 7

/-- t_still, ms (Table 1-1, index 8). -/
def Lts.tStill (t : Lts) : Int := t.param 8

/-- m1, 1/1024 (Table 1-1, index 9). -/
def Lts.margin1 (t : Lts) : Int := t.param 9

/-- m2, 1/1024 (Table 1-1, index 10). -/
def Lts.margin2 (t : Lts) : Int := t.param 10

/-- m3, 1/1024 (Table 1-1, index 11). -/
def Lts.margin3 (t : Lts) : Int := t.param 11

/-- rollback_limit, mm (Table 1-1, index 12). -/
def Lts.rollbackLimit (t : Lts) : Int := t.param 12

/-- slip_limit, mm (Table 1-1, index 13). -/
def Lts.slipLimit (t : Lts) : Int := t.param 13

/-- marker_tol, mm (Table 1-1, index 14). -/
def Lts.markerTol (t : Lts) : Int := t.param 14

/-- max_corr as stored, mm (Table 1-1, index 15). -/
def Lts.maxCorr (t : Lts) : Int := t.param 15

/-- disc_limit, mm/s (Table 1-1, index 16). -/
def Lts.discLimit (t : Lts) : Int := t.param 16

/-- disc_time, ms (Table 1-1, index 17). -/
def Lts.discTime (t : Lts) : Int := t.param 17

/-- N as stored, samples (Table 1-1, index 18). -/
def Lts.windowLength (t : Lts) : Int := t.param 18

/-- f_r, 1/256 (Table 1-1, index 19). -/
def Lts.fReduced (t : Lts) : Int := t.param 19

/-- v_insp, mm/s (Table 1-1, index 20). -/
def Lts.vInsp (t : Lts) : Int := t.param 20

/-- capacity as stored, persons (Table 1-1, index 21). -/
def Lts.capacityStored (t : Lts) : Int := t.param 21

/-- m_avg, kg (Table 1-1, index 22). -/
def Lts.mAvg (t : Lts) : Int := t.param 22

/-- warn_time, s (Table 1-1, index 23). -/
def Lts.warnTime (t : Lts) : Int := t.param 23

/-- settle_time, s (Table 1-1, index 24). -/
def Lts.settleTime (t : Lts) : Int := t.param 24

/-- close_time, s (Table 1-1, index 25). -/
def Lts.closeTime (t : Lts) : Int := t.param 25

/-- t_apply, ms (Table 1-1, index 26). -/
def Lts.tApply (t : Lts) : Int := t.param 26

/-- t_lift, ms (Table 1-1, index 27). -/
def Lts.tLift (t : Lts) : Int := t.param 27

/-- car_link_to, ms (Table 1-1, index 28). -/
def Lts.carLinkTo (t : Lts) : Int := t.param 28

/-- console_to, s (Table 1-1, index 29). -/
def Lts.consoleTo (t : Lts) : Int := t.param 29

/-- passback_time, min (Table 1-1, index 30). -/
def Lts.passbackTime (t : Lts) : Int := t.param 30

/-- M as stored, ticks (Table 1-1, index 31). -/
def Lts.modulusStored (t : Lts) : Int := t.param 31

/-- The stage-1 link default of a station as stored (Table 1-1, indices 32 and 33). -/
def Lts.linkDefault (t : Lts) : Station → Long
  | .lower => t.params.get 32
  | .upper => t.params.get 33

/-! ### Stops (R5) -/

/-- The number of stops n: the number of valid entries. -/
def Lts.stopCount (t : Lts) : Nat := (t.stops.toList.filter (·.valid)).length

/-- The contents of stop k. -/
def Lts.stop (t : Lts) (k : Nat) : StopEntry := ((t.stops[k]?).map Slot.val).getD ⟨0, 0, 0, 0, 0⟩

/-- The side field of a car at stop k: 0 NONE, 1 LEFT, 2 RIGHT, 3 BOTH. -/
def Lts.sideCode (t : Lts) (c : Car) (k : Nat) : Byte :=
  match c with
  | .a => (t.stop k).sideA
  | .b => (t.stop k).sideB

/-- 'A car has a platform at k' (R5). -/
def Lts.hasPlatform (t : Lts) (c : Car) (k : Nat) : Bool := decide ((t.sideCode c k).toNat ≠ 0)

/-- The car has a platform at k on that side: its side field is the side itself or BOTH (R126, condition 2). -/
def Lts.covers (t : Lts) (c : Car) (k : Nat) : Side → Bool
  | .left => decide ((t.sideCode c k).toNat = 1 ∨ (t.sideCode c k).toNat = 3)
  | .right => decide ((t.sideCode c k).toNat = 2 ∨ (t.sideCode c k).toNat = 3)

/-- A car's own stop mark at k, in mm. -/
def Lts.stopMark (t : Lts) (c : Car) (k : Nat) : Int :=
  match c with
  | .a => (t.stop k).markA.toNat
  | .b => (t.stop k).markB.toNat

/-- Service ALWAYS (code 0). -/
def Lts.always (t : Lts) (k : Nat) : Bool := decide ((t.stop k).service.toNat = 0)

/-- Service ON_REQUEST (code 1). -/
def Lts.onRequest (t : Lts) (k : Nat) : Bool := decide ((t.stop k).service.toNat = 1)

/-- Stop k is a terminal: index 0 or n−1. -/
def Lts.isTerminal (t : Lts) (k : Nat) : Bool := decide (k = 0 ∨ k + 1 = t.stopCount)

/-! ### Segments (R6) -/

/-- The number of segments s: the number of valid entries. -/
def Lts.segmentCount (t : Lts) : Nat := (t.segments.toList.filter (·.valid)).length

/-- start_j, in mm. -/
def Lts.segmentStart (t : Lts) (j : Nat) : Int := ((t.segments[j]?).map (·.val.start.toNat)).getD 0

/-- cap_j, in mm/s. -/
def Lts.segmentCap (t : Lts) (j : Nat) : Nat := ((t.segments[j]?).map (·.val.cap.toNat)).getD 0

/-- The segment in which a position lies (R6). -/
def Lts.segmentOf (t : Lts) (p : Int) : Nat :=
  if p < 0 then 0
  else if p > t.lineLength then t.segmentCount - 1
  else (List.range t.segmentCount).foldl (fun best j => if t.segmentStart j ≤ p then j else best) 0

/-- The entry point of a segment in a direction (R2); the last segment has none for DOWN. -/
def Lts.entryPoint (t : Lts) (d : Direction) (j : Nat) : Option Int :=
  match d with
  | .up => some (t.segmentStart j)
  | .down => if j + 1 < t.segmentCount then some (t.segmentStart (j + 1)) else none

/-! ### Markers, bands, channels, calls -/

/-- The position of the valid marker entry with an id (R7). -/
def Lts.markerPosition (t : Lts) (id : Byte) : Option Int :=
  (t.markers.toList.find? (fun m => m.valid && decide (m.val.id = id) && decide (id ≠ 0))).map
    (fun m => (m.val.position.toNat : Int))

/-- The contents of a load band. -/
def Lts.band (t : Lts) (b : Fin 4) : BandEntry := (t.bands.get b).val

/-- The band that an imbalance selects: the lowest index whose bound is at least I, else 3 (R8, R54). -/
def Lts.selectBand (t : Lts) (imbalance : Int) : Fin 4 :=
  if imbalance ≤ (t.band 0).bound.toInt then 0
  else if imbalance ≤ (t.band 1).bound.toInt then 1
  else if imbalance ≤ (t.band 2).bound.toInt then 2
  else 3

/-- The role code of a channel: 0 MAIN1, 1 MAIN2, 2 SLIP, 3 NONE; an empty entry is NONE (R9). -/
def Lts.role (t : Lts) (i : Fin 4) : Nat :=
  if (t.channels.get i).valid then (t.channels.get i).val.role.toNat else 3

/-- The pitch of a channel, in µm per count. -/
def Lts.pitch (t : Lts) (i : Fin 4) : Int := (t.channels.get i).val.pitch.toNat

/-- The sense of a channel is INVERTED (code 1). -/
def Lts.inverted (t : Lts) (i : Fin 4) : Bool := decide ((t.channels.get i).val.sense.toNat = 1)

/-- The channel that holds a role, the lowest where several do. -/
def Lts.channelWithRole (t : Lts) (role : Nat) : Option (Fin 4) :=
  if t.role 0 = role then some 0
  else if t.role 1 = role then some 1
  else if t.role 2 = role then some 2
  else if t.role 3 = role then some 3
  else none

/-- The stop and the car of a call line that is mapped; none for UNUSED (R10). Car code 0 is A. -/
def Lts.call (t : Lts) (line : Fin 8) : Option (Nat × Car) :=
  let e := t.calls.get line
  if e.valid then some (e.val.stopIndex.toNat, if e.val.car.toNat = 0 then .a else .b) else none

/-! ### TABLE_WRITE and TABLE_READ (R181, R190) -/

/-- The contents of a rule entry, from the 37 bytes of R181. -/
def readRule (bytes : List Byte) : Option RuleEntry :=
  let b (i : Nat) : Byte := bytes.getD i 0
  if bytes.length = 37 then
    some
      { stage := b 0, link := ⟨b 1, b 2⟩, gate := ⟨b 3, b 4⟩, kindClass := ⟨b 5, b 6⟩,
        product := ⟨half (b 7) (b 8), half (b 9) (b 10)⟩, concession := ⟨b 11, b 12⟩, groupSize := ⟨b 13, b 14⟩,
        range := ⟨b 15, b 16⟩, station := ⟨b 17, b 18⟩, ridesFlag := ⟨b 19, b 20⟩, directionMatch := ⟨b 21, b 22⟩,
        lineMode := ⟨b 23, b 24⟩, batchState := ⟨b 25, b 26⟩, fillLevel := ⟨b 27, b 28⟩, actionKind := b 29,
        linkValue := b 30, outcome := b 31, persons := b 32, reasonCode := b 33, deductRide := b 34,
        passbackExempt := b 35, displayCode := b 36 }
  else none

/-- The 37 bytes of a rule entry's contents (R181). -/
def RuleEntry.bytes (r : RuleEntry) : List Byte :=
  [r.stage, r.link.value, r.link.mask, r.gate.value, r.gate.mask, r.kindClass.value, r.kindClass.mask] ++
  encHalf r.product.value ++ encHalf r.product.mask ++
  [r.concession.value, r.concession.mask, r.groupSize.value, r.groupSize.mask, r.range.value, r.range.mask,
   r.station.value, r.station.care, r.ridesFlag.value, r.ridesFlag.care, r.directionMatch.value,
   r.directionMatch.care, r.lineMode.value, r.lineMode.care, r.batchState.value, r.batchState.care,
   r.fillLevel.value, r.fillLevel.care, r.actionKind, r.linkValue, r.outcome, r.persons, r.reasonCode,
   r.deductRide, r.passbackExempt, r.displayCode]

/-- Store the contents of one entry exactly as sent, valid or empty; a rule's hit counter becomes 0 (R190, R162).
A table, an index or a length that R181 does not allow, which the LPU has refused before, stores nothing. -/
def Lts.write (t : Lts) (table index : Nat) (valid : Bool) (bytes : List Byte) : Lts :=
  match table, bytes with
  | 0, [a, b, c, d] => { t with params := t.params.setIfInBounds index (long a b c d) }
  | 1, [a3, a2, a1, a0, b3, b2, b1, b0, sa, sb, sv] =>
    { t with stops := t.stops.setIfInBounds index ⟨valid, ⟨long a3 a2 a1 a0, long b3 b2 b1 b0, sa, sb, sv⟩⟩ }
  | 2, [s3, s2, s1, s0, c1, c0] =>
    { t with segments := t.segments.setIfInBounds index ⟨valid, ⟨long s3 s2 s1 s0, half c1 c0⟩⟩ }
  | 3, [id, m3, m2, m1, m0] =>
    { t with markers := t.markers.setIfInBounds index ⟨valid, ⟨id, long m3 m2 m1 m0⟩⟩ }
  | 4, [b1, b0, a1, a0, d1, d0, s1, s0] =>
    { t with bands := t.bands.setIfInBounds index ⟨valid, ⟨half b1 b0, half a1 a0, half d1 d0, half s1 s0⟩⟩ }
  | 5, [r, p1, p0, se] => { t with channels := t.channels.setIfInBounds index ⟨valid, ⟨r, half p1 p0, se⟩⟩ }
  | 6, [k, c] => { t with calls := t.calls.setIfInBounds index ⟨valid, ⟨k, c⟩⟩ }
  | 7, bs =>
    match readRule bs with
    | some r => { t with rules := t.rules.setIfInBounds index ⟨⟨valid, r⟩, 0⟩ }
    | none => t
  | 8, [s, l1, l0, h1, h0] =>
    { t with ranges := t.ranges.setIfInBounds index ⟨valid, ⟨s, half l1 l0, half h1 h0⟩⟩ }
  | _, _ => t

/-- The presence byte, the contents as last stored and, for RULES, the hit counter (R190, Table 10-4). -/
def Lts.read (t : Lts) (table index : Nat) : List Byte :=
  match table with
  | 0 => ((t.params[index]?).map (fun v => encBool true ++ encLong v)).getD []
  | 1 => ((t.stops[index]?).map (fun e =>
      encBool e.valid ++ encLong e.val.markA ++ encLong e.val.markB ++ [e.val.sideA, e.val.sideB, e.val.service])).getD []
  | 2 => ((t.segments[index]?).map (fun e => encBool e.valid ++ encLong e.val.start ++ encHalf e.val.cap)).getD []
  | 3 => ((t.markers[index]?).map (fun e => encBool e.valid ++ [e.val.id] ++ encLong e.val.position)).getD []
  | 4 => ((t.bands[index]?).map (fun e =>
      encBool e.valid ++ encHalf e.val.bound ++ encHalf e.val.aAcc ++ encHalf e.val.aDec ++ encHalf e.val.aSup)).getD []
  | 5 => ((t.channels[index]?).map (fun e =>
      encBool e.valid ++ [e.val.role] ++ encHalf e.val.pitch ++ [e.val.sense])).getD []
  | 6 => ((t.calls[index]?).map (fun e => encBool e.valid ++ [e.val.stopIndex, e.val.car])).getD []
  | 7 => ((t.rules[index]?).map (fun e =>
      encBool e.slot.valid ++ e.slot.val.bytes ++ encHalf (BitVec.ofNat 16 e.hits))).getD []
  | 8 => ((t.ranges[index]?).map (fun e =>
      encBool e.valid ++ [e.val.source] ++ encHalf e.val.low ++ encHalf e.val.high)).getD []
  | _ => []

/-! ### The commit checks (Table 1-3) -/

/-- The lowest index below `n` at which a check fails. -/
def firstFailing (n : Nat) (fails : Nat → Bool) : Option Nat := (List.range n).find? fails

/-- A value lies in a range, bounds included. -/
def inRange (v low high : Int) : Bool := decide (low ≤ v ∧ v ≤ high)

/-- The parameter of an index lies in its range of Table 1-1, the dependent bounds tested with the values
written (R12). -/
def Lts.paramOk (t : Lts) (i : Nat) : Bool :=
  let v := ((t.params[i]?).map BitVec.toInt).getD 0
  match i with
  | 0 => inRange v 100000 4000000
  | 1 => inRange v 500 12000
  | 2 => inRange v 100 1000
  | 3 => inRange v 500 10000
  | 4 => inRange v t.vCreep 2000
  | 5 => inRange v 100 5000
  | 6 => inRange v 10 500
  | 7 => inRange v 10 200
  | 8 => inRange v 100 2000
  | 9 => inRange v 0 512
  | 10 => inRange v 0 512
  | 11 => inRange v 0 512
  | 12 => inRange v 50 1000
  | 13 => inRange v 100 5000
  | 14 => inRange v 50 5000
  | 15 => inRange v 0 10000
  | 16 => inRange v 50 2000
  | 17 => inRange v 10 500
  | 18 => decide (v = 8 ∨ v = 16 ∨ v = 32 ∨ v = 64)
  | 19 => inRange v 64 255
  | 20 => inRange v 100 1000 && decide (v ≤ t.vLineMax)
  | 21 => inRange v 1 250
  | 22 => inRange v 40 120
  | 23 => inRange v 0 20
  | 24 => inRange v 1 60
  | 25 => inRange v 5 120
  | 26 => inRange v 100 2000
  | 27 => inRange v 100 2000
  | 28 => inRange v 100 1000
  | 29 => inRange v 1 60
  | 30 => inRange v 0 60
  | 31 => decide (v = 256 ∨ v = 1024 ∨ v = 4096)
  | 32 => inRange v 0 2
  | 33 => inRange v 0 2
  | _ => true

/-- Check 2: the margins strictly ascend (R12). -/
def Lts.marginsFail (t : Lts) : Option Nat :=
  if t.margin2 ≤ t.margin1 then some 10 else if t.margin3 ≤ t.margin2 then some 11 else none

/-- Entry k of the stop table is valid. -/
def Lts.stopValid (t : Lts) (k : Nat) : Bool := ((t.stops[k]?).map Slot.valid).getD false

/-- Entry j of the segment table is valid. -/
def Lts.segmentValid (t : Lts) (j : Nat) : Bool := ((t.segments[j]?).map Slot.valid).getD false

/-- The index of the first empty entry among `size`, or `size`. -/
def firstEmpty (size : Nat) (valid : Nat → Bool) : Nat :=
  (firstFailing size (fun k => !valid k)).getD size

/-- Check 3: the shape of the stop table (R13). -/
def Lts.stopShapeFail (t : Lts) : Option Nat :=
  if !t.stopValid 0 then some 0
  else if !t.stopValid 1 then some 1
  else firstFailing 8 (fun k => decide (firstEmpty 8 t.stopValid ≤ k) && t.stopValid k)

/-- Check 4: the terminal stop marks (R13). -/
def Lts.terminalMarksFail (t : Lts) : Option Nat :=
  if t.stopMark .a 0 ≠ 0 then some 0
  else if t.stopMark .a (t.stopCount - 1) ≠ t.lineLength then some (t.stopCount - 1)
  else none

/-- Check 5: the stop marks ordered and on the line, sides and service defined (R13). -/
def Lts.stopMarksFail (t : Lts) : Option Nat :=
  firstFailing t.stopCount (fun k =>
    !(inRange (t.stopMark .b k) 0 t.lineLength &&
      decide (1 ≤ k → t.stopMark .a (k - 1) < t.stopMark .a k) &&
      decide (1 ≤ k → t.stopMark .b k < t.stopMark .b (k - 1)) &&
      decide ((t.stop k).sideA.toNat ≤ 3) && decide ((t.stop k).sideB.toNat ≤ 3) &&
      decide ((t.stop k).service.toNat ≤ 2)))

/-- Check 6: the sum check (R14). -/
def Lts.stopSumFail (t : Lts) : Option Nat :=
  firstFailing t.stopCount (fun k =>
    decide (((t.stopMark .a k + t.stopMark .b k - t.lineLength).natAbs : Int) > 2 * t.maxCorr))

/-- A terminal entry is ALWAYS, with a platform for each car. -/
def Lts.terminalOk (t : Lts) (k : Nat) : Bool := t.always k && t.hasPlatform .a k && t.hasPlatform .b k

/-- Check 7: the terminal entries (R14). -/
def Lts.terminalsFail (t : Lts) : Option Nat :=
  if !t.terminalOk 0 then some 0
  else if !t.terminalOk (t.stopCount - 1) then some (t.stopCount - 1)
  else none

/-- The start and the cap of segment j pass (R15). -/
def Lts.segmentOk (t : Lts) (j : Nat) : Bool :=
  decide (j = 0 → t.segmentStart 0 = 0) && decide (1 ≤ j → t.segmentStart (j - 1) < t.segmentStart j) &&
    decide (t.segmentStart j < t.lineLength) &&
    decide (t.vCreepSup ≤ (t.segmentCap j : Int)) && decide ((t.segmentCap j : Int) ≤ t.vLineMax)

/-- Check 8: the profile segment table (R15); the lowest entry that fails, by its own test below s or by being valid
beyond it. -/
def Lts.segmentsFail (t : Lts) : Option Nat :=
  let s := firstEmpty 32 t.segmentValid
  if s = 0 then some 0
  else firstFailing 32 (fun j => if j < s then !t.segmentOk j else t.segmentValid j)

/-- The bound of band i, signed. -/
def Lts.bandBound (t : Lts) (i : Nat) : Int := ((t.bands[i]?).map (·.val.bound.toInt)).getD 0

/-- Check 9: the load band table (R15). -/
def Lts.bandsFail (t : Lts) : Option Nat :=
  firstFailing 4 (fun i =>
    match t.bands[i]? with
    | none => true
    | some e =>
      !(e.valid && inRange e.val.bound.toInt (-32767) 32767 &&
        decide (1 ≤ i → t.bandBound (i - 1) < e.val.bound.toInt) &&
        inRange e.val.aAcc.toNat 100 2000 && inRange e.val.aDec.toNat 100 2000 &&
        inRange e.val.aSup.toNat 100 2000 && decide (e.val.aDec.toNat ≤ e.val.aSup.toNat)))

/-- The channels that hold a role, in ascending order. -/
def Lts.holders (t : Lts) (role : Nat) : List (Fin 4) :=
  [(0 : Fin 4), 1, 2, 3].filter (fun i => decide (t.role i = role))

/-- The second channel that holds a role. -/
def Lts.secondHolder (t : Lts) (role : Nat) : Option Nat := ((t.holders role)[1]?).map Fin.val

/-- A valid entry of the channel role map whose code or pitch fails (R16). -/
def Lts.channelBad (t : Lts) (i : Fin 4) : Bool :=
  let e := t.channels.get i
  e.valid && !(decide (e.val.role.toNat ≤ 3) && decide (e.val.sense.toNat ≤ 1) &&
    decide (e.val.role.toNat ≠ 3 → 1 ≤ e.val.pitch.toNat ∧ e.val.pitch.toNat ≤ 10000))

/-- Check 10: the channel role map (R16). A second MAIN1 is reported before a second MAIN2 or SLIP: DEDUCED
(assumption 26). -/
def Lts.channelsFail (t : Lts) : Option Nat :=
  match [(0 : Fin 4), 1, 2, 3].find? t.channelBad with
  | some i => some i.val
  | none =>
    if t.holders 0 = [] then some 0
    else
      match t.secondHolder 0, t.secondHolder 1, t.secondHolder 2 with
      | some i, _, _ => some i
      | none, some i, some j => some (min i j)
      | none, some i, none => some i
      | none, none, some j => some j
      | none, none, none => none

/-- The id of marker entry i, when it is valid. -/
def Lts.validMarkerId (t : Lts) (i : Nat) : Option Byte :=
  match t.markers[i]? with
  | some e => if e.valid then some e.val.id else none
  | none => none

/-- Check 11: the marker table (R16). -/
def Lts.markersFail (t : Lts) : Option Nat :=
  firstFailing 32 (fun i =>
    match t.markers[i]? with
    | none => false
    | some e =>
      e.valid && !(decide (1 ≤ e.val.id.toNat) && decide ((e.val.position.toNat : Int) ≤ t.lineLength) &&
        !((List.range i).any (fun j => decide (t.validMarkerId j = some e.val.id)))))

/-- Check 12: the call map (R16). -/
def Lts.callsFail (t : Lts) : Option Nat :=
  firstFailing 8 (fun i =>
    match t.calls[i]? with
    | none => false
    | some e =>
      let k := e.val.stopIndex.toNat
      e.valid && !(decide (e.val.car.toNat ≤ 1) && decide (1 ≤ k ∧ k + 2 ≤ t.stopCount) &&
        t.hasPlatform (if e.val.car.toNat = 0 then .a else .b) k))

/-- A rule holds a code that check 13 refuses (R17). -/
def RuleEntry.bad (r : RuleEntry) : Bool :=
  !(decide (r.actionKind.toNat ≤ 1) && decide (r.outcome.toNat ≤ 2) && decide (r.persons.toNat ≤ 15) &&
    isFlag r.deductRide && isFlag r.passbackExempt && isFlag r.station.care && isFlag r.ridesFlag.care &&
    isFlag r.directionMatch.care && isFlag r.lineMode.care && isFlag r.batchState.care && isFlag r.fillLevel.care) ||
  decide (r.stage.toNat = 2 ∧ r.actionKind.toNat = 1)

/-- Check 13: the rule table, over the valid entries of stage 1 or 2 (R17). -/
def Lts.rulesFail (t : Lts) : Option Nat :=
  firstFailing 128 (fun i =>
    match t.rules[i]? with
    | none => false
    | some e =>
      e.slot.valid && decide (e.slot.val.stage.toNat = 1 ∨ e.slot.val.stage.toNat = 2) && e.slot.val.bad)

/-- Check 14: the range checkers (R17); an empty one passes (R160). -/
def Lts.rangesFail (t : Lts) : Option Nat :=
  firstFailing 8 (fun i =>
    match t.ranges[i]? with
    | none => false
    | some e => e.valid && decide (e.val.high.toNat < e.val.low.toNat))

/-- The fourteen checks in the order applied, each with the table it reports (Table 1-3). -/
def Lts.checks (t : Lts) : List (Nat × Option Nat) :=
  [(tabParameters, firstFailing 34 (fun i => !t.paramOk i)),
   (tabParameters, t.marginsFail),
   (tabStops, t.stopShapeFail),
   (tabStops, t.terminalMarksFail),
   (tabStops, t.stopMarksFail),
   (tabStops, t.stopSumFail),
   (tabStops, t.terminalsFail),
   (tabSegments, t.segmentsFail),
   (tabBands, t.bandsFail),
   (tabChannels, t.channelsFail),
   (tabMarkers, t.markersFail),
   (tabCalls, t.callsFail),
   (tabRules, t.rulesFail),
   (tabRanges, t.rangesFail)]

/-- The first check that fails: the table and the index reported (R11). -/
def Lts.validate (t : Lts) : Option (Nat × Nat) :=
  t.checks.findSome? (fun c => c.2.map (fun i => (c.1, i)))

/-- Every hit counter at 0, the contents as written (R162). -/
def Lts.clearHits (t : Lts) : Lts :=
  { t with rules := ⟨⟨t.rules.toList.map (fun e => { e with hits := 0 })⟩, by simp⟩ }

/-- The values that come into force at a successful COMMIT (R190). -/
def Lts.valuesAtCommit (t : Lts) : InForce :=
  { window := t.windowLength.toNat, modulus := t.modulusStored.toNat, capacity := t.capacityStored.toNat,
    maxCorr := t.maxCorr.toNat }

end Sys2Proof.Machine
end

