-- ==== Sys2Proof/Machine/Flags.lean ====
section
/-! DEFINITION. Every condition and quantity the spec derives from the state without keeping it: positions and
estimates, alignment, severities and the braking in force, drive permission and drive enable, standstill, proven
door sides, platform counts, the stops ahead, and the reference's distances. -/

namespace Sys2Proof.Machine

/-! ### Arithmetic of the spec (00_scope section 5.4) -/

/-- clamp(v, ±a). -/
def clampTo (a v : Int) : Int := if v > a then a else if v < -a then -a else v

/-- The integer square root of `n` on its lowest `bits` result bits, from the highest bit down. -/
def isqrtBits (n : Nat) : Nat → Nat → Nat
  | 0, acc => acc
  | k + 1, acc =>
    let next := acc + 2 ^ k
    isqrtBits n k (if next * next ≤ n then next else acc)

/-- isqrt: the integer square root rounded down. -/
def isqrt (n : Nat) : Nat := isqrtBits n (Nat.log2 n / 2 + 1) 0

/-- The distance from p to q in a direction, signed (R2). -/
def distance (d : Direction) (p q : Int) : Int :=
  match d with
  | .up => q - p
  | .down => p - q

/-- The position a distance ahead of p in a direction. -/
def ahead (d : Direction) (p dist : Int) : Int :=
  match d with
  | .up => p + dist
  | .down => p - dist

/-- Travel in a direction of a signed travel along the line (R72, R122). -/
def travel (d : Direction) (dx : Int) : Int :=
  match d with
  | .up => dx
  | .down => -dx

/-! ### Measurement -/

/-- The window sum S and the fill k of a channel (R20). -/
def Channel.sum (c : Channel) : Int := c.window.sum

def Channel.fill (c : Channel) : Nat := c.window.length

/-- The sheave position in µm: X2 / 2 rounded down (R27). -/
def Rmu.xsUm (r : Rmu) : Int := r.x2 / 2

/-- The sheave position in mm: x_s in µm divided by 1,000 and rounded down (R27). -/
def Rmu.xsMm (r : Rmu) : Int := r.xsUm / 1000

def State.xs (s : State) : Int := s.rmu.xsMm

/-- s = |v_sup| (R28). -/
def State.speed (s : State) : Nat := s.rmu.vSup.natAbs

/-- Both main channels are mapped and IN_SERVICE (R26). -/
def bothMainsInService (t : Lts) (r : Rmu) : Bool :=
  match t.channelWithRole 0, t.channelWithRole 1 with
  | some i, some j =>
    decide ((r.channels.get i).state = .inService) && decide ((r.channels.get j).state = .inService)
  | _, _ => false

/-! ### Positions of the cars (R42, R46, R49, R50) -/

/-- x_A or y_B (R42), with L as it stands in the store: DEDUCED (assumption 27). -/
def State.estimate (s : State) : Car → Int
  | .a => s.xs + s.cpt.cars.a.offset
  | .b => s.lts.lineLength - s.xs + s.cpt.cars.b.offset

/-- t_A or t_B at stop k (R46). -/
def State.carTarget (s : State) (c : Car) (k : Nat) : Int :=
  match c with
  | .a => s.lts.stopMark .a k - s.cpt.cars.a.offset
  | .b => s.lts.lineLength + s.cpt.cars.b.offset - s.lts.stopMark .b k

/-- The stop target of stop k with the offsets as they stand (R46). -/
def State.stopTarget (s : State) (k : Nat) : Int :=
  if s.lts.hasPlatform .a k = s.lts.hasPlatform .b k then (s.carTarget .a k + s.carTarget .b k) / 2
  else if s.lts.hasPlatform .a k then s.carTarget .a k
  else s.carTarget .b k

/-- A car's error at stop k: its estimate less its mark (R51). -/
def State.stopError (s : State) (c : Car) (k : Nat) : Int := s.estimate c - s.lts.stopMark c k

/-- A car is aligned at stop k (R49). -/
def State.aligned (s : State) (c : Car) (k : Nat) : Bool :=
  s.rmu.known && s.lts.hasPlatform c k && decide (((s.stopError c k).natAbs : Int) ≤ s.lts.platformWindow)

/-- The line stands at stop k (R50). -/
def State.standsAt (s : State) (k : Nat) : Bool :=
  (s.lts.hasPlatform .a k || s.lts.hasPlatform .b k) &&
    (!s.lts.hasPlatform .a k || s.aligned .a k) && (!s.lts.hasPlatform .b k || s.aligned .b k)

/-- The stop at which the line stands: the lowest index, if there is one (R50). -/
def State.standingStop (s : State) : Option Nat := (List.range s.lts.stopCount).find? s.standsAt

/-! ### Causes, braking, drive enable (R82, R86, R119) -/

/-- The fixed severity of a cause kind (Table 5-2). -/
def CauseKind.severity : CauseKind → Braking
  | .stopDemand => .stop
  | .overspeed | .encoderDisagree | .positionMismatch | .linkLostA | .linkLostB | .doorUnlockedRunning
  | .powerFail | .carFault => .service
  | .overspeedSevere | .rollback | .overrun | .ropeSlip | .serviceBrakeFault | .emergencyBrakeFault
  | .emergencyDemand => .emergency

/-- The more severe of two. -/
def Braking.max (x y : Braking) : Braking := if x.code < y.code then y else x

/-- The braking that a cause list puts in force: its most severe severity (R86). -/
def brakingOf (causes : List CauseEntry) : Braking :=
  causes.foldl (fun b e => b.max e.kind.severity) .none

/-- The braking in force (R86). -/
def State.braking (s : State) : Braking := brakingOf s.obs.causes

/-- A cause kind is present in the list. -/
def State.hasCause (s : State) (k : CauseKind) : Bool := s.obs.causes.any (fun e => decide (e.kind = k))

/-- The drive permission (R86). -/
def State.permission (s : State) : Bool :=
  match s.braking with
  | .none => true
  | .stop => !s.obs.stopLatch
  | .service | .emergency => false

/-- DEN: the drive request raised and the permission given (R119). -/
def State.den (s : State) : Bool := s.tsq.driveRequest && s.permission

/-- The standstill indication: at any moment the one formed at the last sample (R81). -/
def State.standstill (s : State) : Bool := s.obs.still

/-- A brake is commanded as given and its proof is PROVEN. -/
def State.provenAs (s : State) (b : Brake) (c : BrakeCommand) : Bool :=
  decide ((s.obs.brakes.get b).command = c) && decide ((s.obs.brakes.get b).proof = .proven)

/-- SBK and EBK line levels: high holds the brake lifted (R91). -/
def State.brakeLine (s : State) (b : Brake) : Bool := decide ((s.obs.brakes.get b).command = .lifted)

/-! ### Doors (R124, R126) -/

/-- A side is proven: HOLD_CLOSED, last reported closed and locked (R124). -/
def DoorRecord.proven (d : DoorRecord) : Bool :=
  decide (d.command = .holdClosed) && decide (d.closed = some true) && decide (d.locked = some true)

/-- All four sides are proven (R131). -/
def allProven (d : PerCar (PerSide DoorRecord)) : Bool :=
  d.a.left.proven && d.a.right.proven && d.b.left.proven && d.b.right.proven

/-- A car link is up. -/
def State.carLinkUp (s : State) (c : Car) : Bool := (s.lpu.carLinks.get c).up

/-- The five release conditions of a side (R126). -/
def State.mayRelease (s : State) (c : Car) (side : Side) : Bool :=
  decide (s.tsq.state = .stopped) &&
    (match s.tsq.target with
     | some k => s.lts.covers c k side && s.aligned c k
     | none => false) &&
    s.provenAs .sbk .applied && s.carLinkUp c

/-! ### Loads and batches (R137, R140, R151) -/

def State.load (s : State) (c : Car) : Nat := (s.bcu.loads.get c).load

/-- Persons of all pending entries. -/
def Batch.pendingPersons (b : Batch) : Nat := (b.pending.map (·.persons)).sum

/-- The platform count: passed plus the persons of all pending entries (R140). -/
def Batch.platformCount (b : Batch) : Nat := b.passed + b.pendingPersons

/-- Both batches are CLOSED (R148). -/
def State.bothClosed (s : State) : Bool :=
  decide (s.bcu.batches.lower.state = .closed) && decide (s.bcu.batches.upper.state = .closed)

/-- The capacity in force (R190). -/
def State.capacity (s : State) : Nat := s.lts.inForce.capacity

/-- Either load exceeds capacity (Table 6-4, condition 9; R115). -/
def State.overloaded (s : State) : Bool :=
  decide (s.capacity < s.load .a) || decide (s.capacity < s.load .b)

/-- The car standing at a terminal when the line is at stop k (R151). -/
def Lts.carAtTerminal (t : Lts) (k : Nat) (st : Station) : Option Car :=
  if k = 0 then some (match st with | .lower => .a | .upper => .b)
  else if k + 1 = t.stopCount then some (match st with | .lower => .b | .upper => .a)
  else none

/-! ### The trip (R107) -/

/-- The trip's origin is a terminal. -/
def State.originIsTerminal (s : State) : Bool :=
  match s.tsq.origin with
  | some k => s.lts.isTerminal k
  | none => false

/-- The stop indices in the order met in the trip direction. -/
def State.stopsInOrder (s : State) : List Nat :=
  match s.tsq.direction with
  | .up => List.range s.lts.stopCount
  | .down => (List.range s.lts.stopCount).reverse

/-- Index j lies beyond index k in the trip direction. -/
def beyond (d : Direction) (k j : Nat) : Bool :=
  match d with
  | .up => decide (k < j)
  | .down => decide (j < k)

/-- The stop the stops ahead are counted from by index: the stop at which the line stands STOPPED, or the origin
of a departure begun by START (R107, R112). -/
def State.countsFrom (s : State) : Option Nat :=
  match s.tsq.state with
  | .stopped => s.tsq.target
  | .departing => if s.tsq.resume then none else s.tsq.origin
  | _ => none

/-- Stop j is a stop ahead (R107). -/
def State.isAhead (s : State) (j : Nat) : Bool :=
  match s.countsFrom with
  | some k => beyond s.tsq.direction k j
  | none => decide (distance s.tsq.direction s.xs (s.stopTarget j) > 0)

/-- The halt request list holds an entry for stop k. -/
def State.listed (s : State) (k : Nat) : Bool := s.tsq.halts.any (fun e => decide (e.stopIndex = k))

/-- Stop k is served (R107). -/
def State.served (s : State) (k : Nat) : Bool := s.lts.always k || (s.lts.onRequest k && s.listed k)

/-- The nearest served stop ahead (R107). -/
def State.nearestServed (s : State) : Option Nat :=
  s.stopsInOrder.find? (fun j => s.isAhead j && s.served j)

/-- The nearest stop ahead that is ON_REQUEST and at which a car has a platform (R110). -/
def State.nearestForButton (s : State) (c : Car) : Option Nat :=
  s.stopsInOrder.find? (fun j => s.isAhead j && s.lts.onRequest j && s.lts.hasPlatform c j)

/-- The direction is possible from stop k (Table 6-4, condition 8). -/
def State.directionPossible (s : State) (d : Direction) (k : Nat) : Bool :=
  if k = 0 then decide (d = .up)
  else if k + 1 = s.lts.stopCount then decide (d = .down)
  else decide (d = s.tsq.direction)

/-- DEPARTING before its step reaches BRAKE_RELEASE. -/
def State.earlyDeparture (s : State) : Bool :=
  decide (s.tsq.state = .departing) && decide (s.tsq.step ≠ some .brakeRelease)

/-- DEPARTING in step BRAKE_RELEASE. -/
def State.releasing (s : State) : Bool :=
  decide (s.tsq.state = .departing) && decide (s.tsq.step = some .brakeRelease)

/-! ### The frozen band and the reference (R54, R57 to R59) -/

/-- a_acc, a_dec and a_sup of the frozen band; 0 while it is absent, when nothing uses them. -/
def State.aAcc (s : State) : Nat := (s.srg.band.map (fun b => (s.lts.band b).aAcc.toNat)).getD 0

def State.aDec (s : State) : Nat := (s.srg.band.map (fun b => (s.lts.band b).aDec.toNat)).getD 0

def State.aSupOfBand (s : State) : Nat := (s.srg.band.map (fun b => (s.lts.band b).aSup.toNat)).getD 0

/-- v_ref in mm/s, rounded down. -/
def Srg.vRefMm (r : Srg) : Nat := r.vRef / 1000

/-- The braking distance v² / (2 × a_dec) in mm, truncated (R88, R111). -/
def State.brakingDistance (s : State) : Nat := s.srg.vRefMm * s.srg.vRefMm / (2 * s.aDec)

/-- The direction of the trip, or of the move while one is present (R134). -/
def State.travelDirection (s : State) : Direction :=
  match s.tsq.move with
  | some m => m.direction
  | none => s.tsq.direction

/-- The reference is computed by R58 to R64 (R57, the first three conditions; DEDUCED for HOLDING, assumption 25). -/
def State.computesReference (s : State) : Bool :=
  match s.tsq.state with
  | .running => true
  | .inspecting => decide (s.tsq.step = some .moving ∨ s.tsq.step = some .holding)
  | .tripped => s.srg.ctlTarget.isSome && s.den
  | _ => false

/-- The reference ramps down after a STOP taken in an inspection move (R57, the fourth condition). -/
def State.rampsDown (s : State) : Bool :=
  decide (s.tsq.state = .tripped) && decide (s.obs.trippedFrom = some .inspecting) &&
    decide (s.braking = .stop) && s.den

/-- d_t, the distance to the target of the reference (R59); none where there is no target. STATUS forms it at its taking:
DESIGN CHOICE (assumption 35). -/
def State.targetDistance (s : State) : Option Int :=
  match s.srg.ctlTarget with
  | some t => some (distance s.travelDirection s.xs t)
  | none =>
    match s.tsq.state with
    | .running | .arriving => s.cpt.target.map (fun t => distance s.travelDirection s.xs t.position)
    | .inspecting =>
      s.tsq.move.map (fun m =>
        match m.startKnown, m.endpoint with
        | true, some e => distance m.direction s.xs e
        | _, _ => Int.tdiv m.remaining 2000)
    | _ => none

/-! ### Links and attention lines (R183, R180) -/

/-- The ATT line of a port is driven low: its event set is not empty (R183). -/
def PortRecord.att (r : PortRecord) : Bool := decide (r.events ≠ 0)

/-- The link state of a port, as STATUS shows it (R186). -/
def State.linkUp (s : State) : PortId → Bool
  | .p0 => !s.tsq.silent
  | .p1 => s.lpu.carLinks.a.up
  | .p2 => s.lpu.carLinks.b.up
  | .p3 => s.lpu.gateLinks.lower.up
  | .p4 => s.lpu.gateLinks.upper.up

/-- A port waits for nothing: its transmitter is idle and its queue empty (R175, R177). -/
def State.portAtRest (s : State) (p : PortId) : Bool :=
  decide ((s.lpu.ports.get p).tx = none) && decide ((s.lpu.ports.get p).queue = [])

end Sys2Proof.Machine
end

