-- ==== Sys2Proof/Machine/Ops.lean ====
section
/-! DEFINITION. The operations that several commands share: raising events, commanding and proving the brakes,
testing the door releases, changing the trip state and handing it to the blocks, giving a cause, and the steps of
a departure, an arrival and an inspection move. -/

namespace Sys2Proof.Machine

/-! ### Updates of one block -/

def State.updLts (s : State) (f : Lts → Lts) : State := { s with lts := f s.lts }
def State.updRmu (s : State) (f : Rmu → Rmu) : State := { s with rmu := f s.rmu }
def State.updCpt (s : State) (f : Cpt → Cpt) : State := { s with cpt := f s.cpt }
def State.updTsq (s : State) (f : Tsq → Tsq) : State := { s with tsq := f s.tsq }
def State.updSrg (s : State) (f : Srg → Srg) : State := { s with srg := f s.srg }
def State.updObs (s : State) (f : Obs → Obs) : State := { s with obs := f s.obs }
def State.updDru (s : State) (f : PerCar (PerSide DoorRecord) → PerCar (PerSide DoorRecord)) : State :=
  { s with dru := f s.dru }
def State.updBcu (s : State) (f : Bcu → Bcu) : State := { s with bcu := f s.bcu }
def State.updLpu (s : State) (f : Lpu → Lpu) : State := { s with lpu := f s.lpu }

/-- Change the record of one port. -/
def State.updPort (s : State) (p : PortId) (f : PortRecord → PortRecord) : State :=
  s.updLpu (fun l => { l with ports := l.ports.set p (f (l.ports.get p)) })

/-! ### Events (R182) -/

/-- The bit of an event kind in a set sent as two bytes (R182). -/
def EventKind.bit (e : EventKind) : Half := 1#16 <<< e.code

/-- Record an event kind in a port's event set, if the port is subscribed to it. -/
def PortRecord.record (e : EventKind) (r : PortRecord) : PortRecord :=
  if r.subs.getLsbD e.code then { r with events := r.events ||| e.bit } else r

/-- Raise an event on the ports of a scope. -/
def raiseOn (scope : PortId → Bool) (e : EventKind) (s : State) : State :=
  s.updLpu (fun l => { l with ports := l.ports.mapPort (fun p r => if scope p then r.record e else r) })

/-- Raise an event on every port. -/
def raise (e : EventKind) (s : State) : State := raiseOn (fun _ => true) e s

/-- Raise LINK_DOWN or LINK_UP of a port's link: on every other port (R182). -/
def raiseLink (e : EventKind) (changed : PortId) (s : State) : State :=
  raiseOn (fun p => decide (p ≠ changed)) e s

/-! ### Door releases (R126 to R128, R132) -/

/-- One side at a test moment: granted when its conditions all hold, withdrawn when RELEASED and they do not. -/
def testSide (ok : Bool) (d : DoorRecord) : DoorRecord :=
  if ok then
    if d.command = .released then d else { d with command := .released, orders := 0 }
  else
    if d.command = .released then { d with command := .closeOrdered, orders := 0 } else d

/-- The four sides after a test moment. -/
def testedDoors (s : State) : PerCar (PerSide DoorRecord) :=
  s.dru.mapCar (fun c v => ⟨testSide (s.mayRelease c .left) v.left, testSide (s.mayRelease c .right) v.right⟩)

/-- A test moment releases this side. -/
def newlyReleased (ok : Bool) (d : DoorRecord) : Bool := ok && decide (d.command ≠ .released)

/-- A test moment releases one or more sides (R132). -/
def releasesSome (s : State) : Bool :=
  newlyReleased (s.mayRelease .a .left) s.dru.a.left || newlyReleased (s.mayRelease .a .right) s.dru.a.right ||
    newlyReleased (s.mayRelease .b .left) s.dru.b.left || newlyReleased (s.mayRelease .b .right) s.dru.b.right

/-- A test moment (R127): the releases granted and withdrawn, and DOORS_RELEASED where one is granted. -/
def testDoors (s : State) : State :=
  let t := s.updDru (fun _ => testedDoors s)
  if releasesSome s then raise .doorsReleased t else t

/-! ### Batches (R144, R145, R153) -/

/-- Replace a batch record; BATCH_STATE_CHANGED is raised when its state changes (R153). -/
def setBatch (st : Station) (b : Batch) (s : State) : State :=
  let t := s.updBcu (fun u => { u with batches := u.batches.set st b })
  if b.state = (s.bcu.batches.get st).state then t else raise .batchStateChanged t

/-- One batch made SUSPENDED, its settle timer idle (R144). -/
def suspendBatch (st : Station) (s : State) : State :=
  setBatch st { s.bcu.batches.get st with state := .suspended, settle := none } s

/-- Both batches made SUSPENDED (R144). -/
def suspendBatches (s : State) : State := suspendBatch .upper (suspendBatch .lower s)

/-- One batch made OPEN by an open request, its settle timer idle (R145). -/
def openBatch (st : Station) (s : State) : State :=
  setBatch st { s.bcu.batches.get st with state := .opened, settle := none } s

/-- An open request for both batches (R145). -/
def openBatches (s : State) : State := openBatch .upper (openBatch .lower s)

/-! ### Brakes (R91 to R95) -/

/-- A brake just commanded APPLIED: proven at once when its reading is DROPPED, else PROVING for `limit` ms
(R93). -/
def BrakeRecord.applied (limit : Nat) (b : BrakeRecord) : BrakeRecord :=
  if b.reading = .dropped then { b with command := .applied, proof := .proven, timer := none }
  else { b with command := .applied, proof := .proving, timer := some { elapsed := 0, limit := limit } }

/-- A brake just commanded LIFTED: proven at once when its reading is LIFTED, else PROVING for `limit` ms (R94). -/
def BrakeRecord.raised (limit : Nat) (b : BrakeRecord) : BrakeRecord :=
  if b.reading = .lifted then { b with command := .lifted, proof := .proven, timer := none }
  else { b with command := .lifted, proof := .proving, timer := some { elapsed := 0, limit := limit } }

/-- Replace a brake's record; a change of SBK's command or proof is a test moment of the doors (R127). -/
def setBrake (b : Brake) (r : BrakeRecord) (s : State) : State :=
  let t := s.updObs (fun o => { o with brakes := o.brakes.set b r })
  if b = .sbk ∧ (r.command ≠ s.obs.brakes.sbk.command ∨ r.proof ≠ s.obs.brakes.sbk.proof) then testDoors t else t

/-- Command a brake APPLIED, unless it already is (R89, R90, R92). -/
def applyBrake (b : Brake) (s : State) : State :=
  if (s.obs.brakes.get b).command = .applied then s
  else setBrake b ((s.obs.brakes.get b).applied s.lts.tApply.toNat) s

/-- Command a brake LIFTED, unless it already is (R92, R97). -/
def liftBrake (b : Brake) (s : State) : State :=
  if (s.obs.brakes.get b).command = .lifted then s
  else setBrake b ((s.obs.brakes.get b).raised s.lts.tLift.toNat) s

/-! ### Changes of the trip state (R100) -/

/-- The trip states in which a drive request may stand (R119). -/
def TripState.keepsDrive : TripState → Bool
  | .departing | .running | .arriving | .inspecting | .tripped => true
  | .configuring | .outOfService | .stopped | .stranded => false

/-- The trip states that end the envelope, the frozen factor and the slip check (R71, R55, R34, R79). -/
def TripState.endsTravel : TripState → Bool
  | .stopped | .stranded | .outOfService => true
  | .configuring | .departing | .running | .arriving | .tripped | .inspecting => false

/-- The trip states that suspend the batches (R144). -/
def TripState.suspends : TripState → Bool
  | .configuring | .outOfService | .tripped => true
  | .stopped | .departing | .running | .arriving | .stranded | .inspecting => false

/-- The trip record at a change of state (R100, R119). -/
def recordTrip (new : TripState) (step : Option Step) (s : State) : State :=
  raise .tripStateChanged (s.updTsq (fun t =>
    { t with
      state := new, step := step, lastChange := s.clock, phase := none, warningEnded := false, closureTimer := none,
      move := if new = .inspecting then t.move else none,
      resume := decide (new = .departing) && t.resume,
      driveRequest := new.keepsDrive && t.driveRequest }))

/-- The OBS on a new trip state (R71, R75, R79, R88). e_from goes with the endpoint and requests that wait are dropped:
DEDUCED (assumption 22); r_e2 keeps its value: DEDUCED (assumption 36). -/
def obsOnTrip (new : TripState) (s : State) : State :=
  s.updObs (fun o =>
    if new.endsTravel then
      { o with
        envelope := false, vPerm2 := none, endpoint := none, eFrom := none, ctlStop := false, excursion := false,
        rollback := .standing 0, liftPending := false, applyPending := false }
    else { o with liftPending := false, applyPending := false })

/-- The BCU on a new trip state (R144). -/
def bcuOnTrip (new : TripState) (s : State) : State := if new.suspends then suspendBatches s else s

/-- v_ref set to 0 between samples, and 0 written to the holding buffer (R63, R66). -/
def Srg.zeroed (r : Srg) : Srg := { r with vRef := 0, holding := 0 }

/-- The reference at rest where no condition of R57 holds any more: v_ref 0, between samples (R63). -/
def restReference (s : State) : State :=
  if s.computesReference || s.rampsDown then s else s.updSrg Srg.zeroed

/-- The SRG's items at a change of the trip state: WARN (R69), the controlled-stop target (R65), the frozen factor
(R55) and a pending direction (R68). -/
def Srg.onTrip (old new : TripState) (r : Srg) : Srg :=
  { r with
    warning := if new = .departing then r.warning else none
    warn := decide (new = .departing) && r.warn
    ctlTarget := if old = .tripped then none else r.ctlTarget
    frozen := r.frozen && !new.endsTravel
    dirPending := if old = .departing ∨ old = .inspecting then none else r.dirPending }

/-- The SRG on a new trip state (R55, R57, R65, R68, R69). -/
def srgOnTrip (old new : TripState) (s : State) : State := restReference (s.updSrg (Srg.onTrip old new))

/-- The RMU on a new trip state: the slip check ends (R34). -/
def rmuOnTrip (new : TripState) (s : State) : State :=
  s.updRmu (fun r => { r with slipActive := r.slipActive && !new.endsTravel && decide (new ≠ .configuring) })

/-- A change of the trip state, handed to the OBS, the DRU, the BCU, the SRG and the RMU (R100). The caller has set
the target, the move and the resume mark that the new state goes with. -/
def changeTrip (new : TripState) (step : Option Step) (s : State) : State :=
  if s.tsq.state = new then s
  else
    rmuOnTrip new (srgOnTrip s.tsq.state new (bcuOnTrip new (testDoors (obsOnTrip new (recordTrip new step s)))))

/-! ### Causes and braking (R83 to R90) -/

/-- A cause as it joins the list: position and speed of the last published sample (R83); after a homing, the homed
position: DESIGN CHOICE (assumption 39). -/
def causeEntry (kind : CauseKind) (source : CauseSource) (s : State) : CauseEntry :=
  { kind := kind, source := source, position := if s.rmu.known then some s.xs else none, speed := s.speed,
    time := s.clock }

/-- Append a cause and raise CAUSE_ADDED (R83). -/
def joinCause (kind : CauseKind) (source : CauseSource) (s : State) : State :=
  raise .causeAdded (s.updObs (fun o => { o with causes := o.causes ++ [causeEntry kind source s] }))

/-- The drive request dropped and the holding duty 0 (R86, R119, R67). -/
def dropDrive (s : State) : State :=
  (s.updTsq (fun t => { t with driveRequest := false })).updSrg (fun r => { r with holding := 0 })

/-- SERVICE or EMERGENCY braking on the reference (R65): v_ref and v_tgt 0, no controlled-stop target. -/
def stopReference (s : State) : State :=
  s.updSrg (fun r => { r with vRef := 0, vTgt := 0, ctlTarget := none, holding := 0 })

/-- SERVICE braking (R89). -/
def serviceBraking (s : State) : State := applyBrake .sbk (stopReference (dropDrive s))

/-- EMERGENCY braking (R90). -/
def emergencyBraking (s : State) : State :=
  (applyBrake .ebk (serviceBraking s)).updObs (fun o => { o with railBrake := true })

/-- The controlled stop of a STOP_DEMAND taken in RUNNING (R88, R65, R48); e_from keeps its value: DESIGN CHOICE
(assumption 38). -/
def controlledStop (s : State) : State :=
  let q : Int := s.brakingDistance
  let d := s.obs.direction
  let t := s.updObs (fun o =>
    { o with
      endpoint := some (ahead d s.xs (q + s.lts.overrunAllow)), rE2 := 2000 * (q + s.lts.overrunAllow),
      ctlStop := true })
  (t.updSrg (fun r => { r with ctlTarget := some (ahead d s.xs q) })).updCpt (fun c =>
    { c with target := c.target.map (fun g => { g with frozen := true }) })

/-- What a STOP_DEMAND that joins an empty list does to the reference, by the trip state in force (R87, R65). -/
def stopAction (s : State) : State :=
  match s.tsq.state with
  | .running => controlledStop s
  | .inspecting => s.updSrg (fun r => { r with vTgt := 0 })
  | _ => s

/-- The action of the braking in force when it has risen from `before` (R89, R90). -/
def brakingAction (before : Braking) (s : State) : State :=
  match s.braking with
  | .service => if before.code < Braking.service.code then serviceBraking s else s
  | .emergency => if before.code < Braking.emergency.code then emergencyBraking s else s
  | _ => s

/-- The trip of a cause that joins an empty list (R84). -/
def trip (s : State) : State :=
  changeTrip .tripped none (s.updObs (fun o => { o with trippedFrom := some s.tsq.state }))

/-- A block gives the OBS a cause (R83, R84, R87 to R90). On an empty list the braking acts before the trip: DESIGN
CHOICE (assumption 37). -/
def giveCause (kind : CauseKind) (source : CauseSource) (s : State) : State :=
  if !s.lts.committed || s.hasCause kind then s
  else if s.obs.causes = [] then
    let t := joinCause kind source s
    trip (brakingAction .none (if kind.severity = .stop then stopAction t else t))
  else brakingAction s.braking (joinCause kind source s)

/-- The fault cause of a brake and its source (R93 to R95). -/
def brakeFault (b : Brake) (s : State) : State :=
  match b with
  | .sbk => giveCause .serviceBrakeFault .lineSbkf s
  | .ebk => giveCause .emergencyBrakeFault .lineEbkf s

/-! ### The stop target record (R46, R47) -/

/-- The TSQ names a stop to the CPT (R47). -/
def nameStop (k : Nat) (s : State) : State :=
  s.updCpt (fun c => { c with target := some { stopIndex := k, position := s.stopTarget k, frozen := false } })

/-- The target recomputed when an offset has changed, unless it is frozen (R47). -/
def recomputeTarget (s : State) : State :=
  s.updCpt (fun c =>
    { c with target := c.target.map (fun g => if g.frozen then g else { g with position := s.stopTarget g.stopIndex }) })

/-! ### Halt requests (R107, R109, R111, R112) -/

/-- The entry for stop k served: removed, with HALT_REQUEST_SERVED (R112). -/
def serveHalt (k : Nat) (s : State) : State :=
  if s.listed k then
    raise .haltRequestServed (s.updTsq (fun t =>
      { t with halts := t.halts.filter (fun e => decide (e.stopIndex ≠ k)) }))
  else s

/-- The target of a trip moved to stop k, with TARGET_CHANGED (R107). -/
def moveTarget (k : Nat) (s : State) : State :=
  raise .targetChanged ((nameStop k s).updTsq (fun t => { t with target := some k }))

/-- Stop k is nearer than the present target (R111). -/
def State.nearer (s : State) (k : Nat) : Bool :=
  match s.tsq.target with
  | some g => beyond s.tsq.direction k g
  | none => false

/-- A halt request for stop k is feasible (R111). -/
def State.feasible (s : State) (k : Nat) : Bool :=
  let dist := distance s.tsq.direction s.xs (s.stopTarget k)
  decide (dist ≥ (s.brakingDistance : Int) + s.lts.creepDist) && decide (dist > 0) && s.nearer k

/-- The feasibility test of a request just listed (R111). -/
def testFeasibility (k : Nat) (s : State) : State :=
  if s.tsq.state = .running ∧ s.tsq.phase ≠ some .creep ∧ s.feasible k then moveTarget k s else s

/-- Add a source to the entry for stop k, which keeps its place and its time (R109). -/
def addSource (src : HaltSource) (k : Nat) (e : HaltEntry) : HaltEntry :=
  if e.stopIndex = k ∧ src ∉ e.sources then { e with sources := e.sources ++ [src] } else e

/-- List a halt request: a source added to its entry, or a new entry with HALT_REQUEST_ADDED (R109). -/
def listHalt (k : Nat) (src : HaltSource) (s : State) : State :=
  if s.listed k then s.updTsq (fun t => { t with halts := t.halts.map (addSource src k) })
  else
    raise .haltRequestAdded (s.updTsq (fun t =>
      { t with halts := t.halts ++ [{ stopIndex := k, sources := [src], time := s.clock }] }))

/-- A halt request for stop k from a source: its reply and its effect (R109). -/
def haltRequest (k : Nat) (src : HaltSource) (s : State) : Status × State :=
  if s.tsq.state = .configuring then (.refusedState, s)
  else if s.lts.stopCount ≤ k then (.badArgument, s)
  else if !s.lts.onRequest k then (.badStop, s)
  else if s.tsq.state = .stopped ∧ s.tsq.target = some k then (.ok, raise .haltRequestServed s)
  else (.ok, testFeasibility k (listHalt k src s))

/-! ### The line STOPPED (R100, R102, R112, R118, R120) -/

/-- An open request where stop k is a terminal (R145). -/
def openAtTerminal (k : Nat) (s : State) : State := if s.lts.isTerminal k then openBatches s else s

/-- The trip state put into STOPPED at stop k, and any halt request entry for k served (R100, R112). -/
def stopAt (k : Nat) (s : State) : State :=
  serveHalt k (changeTrip .stopped none (s.updTsq (fun t => { t with target := some k })))

/-- A departure abandoned back to STOPPED at its origin (R115, R116, R118, R145). -/
def abandonToOrigin (s : State) : State :=
  let k := s.tsq.origin.getD 0
  openAtTerminal k (stopAt k s)

/-! ### The arrival test (R51) -/

/-- A car's arrival result at stop k. -/
def arrivalOf (s : State) (c : Car) (k : Nat) : ArrivalRecord :=
  { result := if !s.lts.hasPlatform c k then .noPlatform else if s.aligned c k then .aligned else .misaligned
    stopIndex := k
    error := s.stopError c k }

/-- The arrival test at the stop of the stop target record. -/
def arrivalTest (s : State) : State :=
  match s.cpt.target with
  | none => s
  | some g =>
    let ra := arrivalOf s .a g.stopIndex
    let rb := arrivalOf s .b g.stopIndex
    let t := s.updCpt (fun c =>
      { c with cars := ⟨{ c.cars.a with arrival := some ra }, { c.cars.b with arrival := some rb }⟩ })
    if ra.result = .misaligned ∨ rb.result = .misaligned then raise .misalignedStop t else t

/-! ### Lift and apply requests and their reports (R92, R117, R120, R122) -/

/-- 'Brakes lifted' reported to the TSQ: a departure becomes RUNNING (R117), a move goes to MOVING (R121). -/
def brakesLifted (s : State) : State :=
  if s.releasing then changeTrip .running none s
  else if s.tsq.state = .inspecting ∧ s.tsq.step = some .lifting then
    s.updTsq (fun t => { t with step := some .moving })
  else s

/-- The report of a lift request, once both brakes are commanded LIFTED and proven (R92). -/
def reportLifted (s : State) : State :=
  if s.obs.liftPending && s.provenAs .sbk .lifted && s.provenAs .ebk .lifted then
    brakesLifted (s.updObs (fun o => { o with liftPending := false }))
  else s

/-- The lift request (R92): acted on while the cause list is empty. -/
def liftRequest (s : State) : State :=
  if s.obs.causes = [] then
    reportLifted ((liftBrake .ebk (liftBrake .sbk s)).updObs (fun o => { o with liftPending := true }))
  else s

/-- The end of an arrival (R120): the drive request dropped, STOPPED at the target, the arrival test, the open
request at a terminal, and OUT_OF_SERVICE where the console is silent (R123). -/
def arrivalEnd (s : State) : State :=
  let k := s.tsq.target.getD 0
  let t := openAtTerminal k (arrivalTest (stopAt k (dropDrive s)))
  if t.tsq.silent then changeTrip .outOfService none t else t

/-- The end of an inspection move (R122). -/
def moveEnd (s : State) : State := changeTrip .outOfService none (dropDrive s)

/-- 'SBK proven' reported to the TSQ (R120, R122). -/
def sbkProven (s : State) : State :=
  if s.tsq.state = .arriving ∧ s.tsq.step = some .apply then arrivalEnd s
  else if s.tsq.state = .inspecting ∧ s.tsq.step = some .holding then moveEnd s
  else s

/-- The report of an apply request, once SBK is commanded APPLIED and proven (R92). -/
def reportApplied (s : State) : State :=
  if s.obs.applyPending && s.provenAs .sbk .applied then
    sbkProven (s.updObs (fun o => { o with applyPending := false }))
  else s

/-- The apply request (R92). -/
def applyRequest (s : State) : State :=
  reportApplied ((applyBrake .sbk s).updObs (fun o => { o with applyPending := true }))

/-! ### Direction and drive request (R68, R117, R119, R121) -/

/-- The SRG's report that DIR shows the direction handed to it: the drive request is raised and the lift request
made (R117, R121). -/
def directionShown (s : State) : State :=
  if s.releasing ∨ (s.tsq.state = .inspecting ∧ s.tsq.step = some .lifting) then
    liftRequest (s.updTsq (fun t => { t with driveRequest := true }))
  else s

/-- A direction handed to the SRG (R68). -/
def handDirection (d : Direction) (s : State) : State :=
  if s.srg.dir = d then directionShown (s.updSrg (fun r => { r with dirPending := none }))
  else if s.srg.active = 0 ∧ !s.den then
    directionShown (s.updSrg (fun r => { r with dir := d, dirPending := none }))
  else s.updSrg (fun r => { r with dirPending := some d })

/-! ### Freezing and the envelope (R54, R55, R71, R72, R78) -/

/-- The imbalance in kg for a direction: descending load less ascending load, times m_avg (R54). -/
def State.imbalance (s : State) (d : Direction) : Int :=
  match d with
  | .up => ((s.load .b : Int) - s.load .a) * s.lts.mAvg
  | .down => ((s.load .a : Int) - s.load .b) * s.lts.mAvg

/-- The mode factor that a line mode freezes (R55). -/
def modeFactor (t : Lts) : LineMode → Nat
  | .reduced => t.fReduced.toNat
  | .normal | .inspection | .config => 256

/-- The SRG freezes band, mode factor and inspection setting (R54, R55). -/
def freeze (d : Direction) (s : State) : State :=
  s.updSrg (fun r =>
    { r with
      band := some (s.lts.selectBand (s.imbalance d)), fRef := modeFactor s.lts s.tsq.mode,
      insp := decide (s.tsq.mode = .inspection), ctlTarget := none, frozen := true })

/-- What the OBS takes when the envelope comes into force (R71, R78), the endpoint apart. -/
def Obs.inForce (o : Obs) (s : State) (d : Direction) : Obs :=
  { o with
    envelope := true, fSup := s.srg.fRef, inspSup := s.srg.insp, aSup := some s.aSupOfBand, direction := d,
    ctlStop := false, rollback := .running 0 }

/-- The endpoint formed from a stop target (R72). -/
def Obs.endpointFrom (o : Obs) (s : State) (target : Int) : Obs :=
  let e := ahead o.direction target s.lts.overrunAllow
  { o with endpoint := some e, eFrom := some target, rE2 := 2000 * distance o.direction s.xs e }

/-- The envelope of a departure (R71, R72). -/
def envelopeForTrip (s : State) : State :=
  s.updObs (fun o =>
    let o' := o.inForce s s.tsq.direction
    match s.cpt.target with
    | some g => o'.endpointFrom s g.position
    | none => o')

/-- The envelope of an inspection move (R71, R72). -/
def envelopeForMove (d : Direction) (dist : Int) (s : State) : State :=
  s.updObs (fun o =>
    { o.inForce s d with
      endpoint := if s.rmu.known then some (ahead d s.xs (dist + s.lts.overrunAllow)) else none
      eFrom := none
      rE2 := 2000 * (dist + s.lts.overrunAllow) })

/-! ### Window clear and slip check (R22, R34) -/

/-- A channel's window cleared and its partial mark set (R22). -/
def Channel.cleared (c : Channel) : Channel := { c with window := [], partialMark := true }

/-- The window clear of every channel (R22). -/
def Rmu.clearWindows (r : Rmu) : Rmu := { r with channels := r.channels.mapIdx (fun _ c => c.cleared) }

/-- The RMU at a brake-release step: windows cleared, slip accumulators 0 and the check active (R22, R34). -/
def Rmu.atRelease (r : Rmu) : Rmu := { r.clearWindows with dM2 := 0, dSL := 0, slipActive := true }

/-! ### Carry-over and opening at the brake-release step (R151, R152) -/

/-- A batch after the carry-over, for the load of the car that boards from it (R151). -/
def Batch.carriedOver (b : Batch) (load : Nat) : Batch :=
  { b with boarded := min b.passed load, carried := b.passed - min b.passed load,
           passed := b.passed - min b.passed load, state := .opened }

/-- The carry-over of one terminal (R151). -/
def carryOverAt (k : Nat) (st : Station) (s : State) : State :=
  match s.lts.carAtTerminal k st with
  | some c => setBatch st ((s.bcu.batches.get st).carriedOver (s.load c)) s
  | none => s

/-- The carry-over of both terminals, for a departure from a terminal begun by START (R151). -/
def carryOver (s : State) : State :=
  match s.tsq.origin with
  | some k =>
    if !s.tsq.resume && s.lts.isTerminal k then carryOverAt k .upper (carryOverAt k .lower s) else s
  | none => s

/-- A SUSPENDED batch made OPEN at a brake-release step, keeping its counts (R152). -/
def openIfSuspended (st : Station) (s : State) : State :=
  if (s.bcu.batches.get st).state = .suspended then openBatch st s else s

/-! ### The steps of a departure (R114 to R117) -/

/-- What the blocks do at the brake-release step, DIR apart (R117). -/
def releaseActions (s : State) : State :=
  let t := s.updTsq (fun t => { t with step := some .brakeRelease, closureTimer := none, warningEnded := false })
  let t := (freeze t.tsq.direction t).updRmu Rmu.atRelease
  openIfSuspended .upper (openIfSuspended .lower (carryOver (envelopeForTrip t)))

/-- Step BRAKE_RELEASE (R117). -/
def brakeRelease (s : State) : State :=
  let t := releaseActions s
  handDirection t.tsq.direction t

/-- The DRU's closure report taken in step CLOSURE (R116, R131). -/
def closureReport (s : State) : State :=
  if s.tsq.state = .departing ∧ s.tsq.step = some .closure then brakeRelease s else s

/-- Order close of every RELEASED side (R115, R131). -/
def orderClose (d : DoorRecord) : DoorRecord :=
  if d.command = .released then { d with command := .closeOrdered, orders := 0 } else d

/-- Step CLOSURE entered: the closure timer started, and the DRU's report handed at once where all four sides are
proven (R115, R116, R131). -/
def enterClosure (s : State) : State :=
  let t := s.updTsq (fun t =>
    { t with step := some .closure, closureTimer := some { elapsed := 0, limit := (s.lts.closeTime * 1000).toNat } })
  if allProven t.dru then closureReport (raise .doorsProvenClosed t) else t

/-- Step DOORS (R115). -/
def doorsStep (s : State) : State :=
  let t := s.updTsq (fun t => { t with step := some .doors })
  if t.overloaded then raise .overload (abandonToOrigin t)
  else enterClosure (t.updDru (fun d => d.mapCar (fun _ v => v.map orderClose)))

/-- Step WARNING ends when the warning has ended and the batches are closed, or need not be (R114). -/
def State.warningStepDone (s : State) : Bool :=
  decide (s.tsq.state = .departing) && decide (s.tsq.step = some .warning) && s.tsq.warningEnded &&
    (s.tsq.resume || !s.originIsTerminal || s.bothClosed)

/-- The end of step WARNING, when it has come (R114). -/
def endWarningStep (s : State) : State :=
  if s.warningStepDone then (if s.tsq.resume then brakeRelease s else doorsStep s) else s

/-- One batch at a CLOSING request (R146). -/
def Batch.closeRequested (settleMs : Nat) (b : Batch) : Batch :=
  if b.pending = [] then { b with state := .closed, settle := none }
  else { b with state := .closing, settle := some { elapsed := 0, limit := settleMs } }

/-- The CLOSING request for one batch (R146). -/
def closeBatch (st : Station) (s : State) : State :=
  setBatch st ((s.bcu.batches.get st).closeRequested (s.lts.settleTime * 1000).toNat) s

/-- The warning begun at step WARNING (R69); with warn_time 0 its end is reported at once. -/
def startWarning (s : State) : State :=
  if s.lts.warnTime ≤ 0 then s.updTsq (fun t => { t with warningEnded := true })
  else s.updSrg (fun r =>
    { r with warning := some { elapsed := 0, limit := (s.lts.warnTime * 1000).toNat }, warn := true })

/-- A departure begun: DEPARTING in step WARNING (R105, R106, R114). -/
def beginDeparture (s : State) : State :=
  let t := startWarning (changeTrip .departing (some .warning) s)
  endWarningStep (if !t.tsq.resume && t.originIsTerminal then closeBatch .upper (closeBatch .lower t) else t)

/-! ### Timers -/

/-- A running timer after `ms` of line clock; it does not run past its limit. -/
def Timer.advance (ms : Nat) (t : Timer) : Timer := { t with elapsed := min (t.elapsed + ms) t.limit }

end Sys2Proof.Machine
end

