-- ==== Sys2Proof/Machine/Boarding.lean ====
section
/-! DEFINITION. The Boarding Count Unit (chapter 8): car loads, admissions and their references, passages, and the
settle expiry. -/

namespace Sys2Proof.Machine

/-- A load after a report (R138): the first report after the snapshots were absent only sets them. -/
def LoadRecord.counted (r : CarReport) (l : LoadRecord) : LoadRecord :=
  match l.snap with
  | none => { l with snap := some ⟨r.inCounter, r.outCounter⟩ }
  | some p =>
    let v : Int := (l.load : Int) + (r.inCounter - p.inC).toNat - (r.outCounter - p.outC).toNat
    { load := (max 0 (min v Config.maxLoad)).toNat, snap := some ⟨r.inCounter, r.outCounter⟩ }

/-- The BCU takes a car report (R138). -/
def bcuReport (c : Car) (r : CarReport) (s : State) : State :=
  s.updBcu (fun u => { u with loads := u.loads.set c ((u.loads.get c).counted r) })

/-- A reference is held by an entry of a pending list. -/
def refHeld (pending : List Admission) (ref : Nat) : Bool := pending.any (fun e => decide (e.reference = ref))

/-- The reference after one, with 255 followed by 1 (R141). -/
def nextRef (ref : Nat) : Nat := if 255 ≤ ref then 1 else ref + 1

/-- The first reference not held, from `ref` forward, within `fuel` steps (R141: 17 steps always find one). -/
def firstFreeRef (pending : List Admission) : Nat → Nat → Nat
  | 0, ref => ref
  | fuel + 1, ref => if refHeld pending ref then firstFreeRef pending fuel (nextRef ref) else ref

/-- The reference issued next by a batch (R141). -/
def Batch.issue (b : Batch) : Nat := firstFreeRef b.pending (Config.pendingDepth + 1) (nextRef b.lastRef)

/-- A serial appended to a recent-serial list (R142). -/
def appendSerial (serial : Long) (now : Long) (l : List RecentSerial) : List RecentSerial :=
  if l.any (fun e => decide (e.serial = serial)) then
    l.filter (fun e => decide (e.serial ≠ serial)) ++ [⟨serial, now⟩]
  else if Config.recentDepth ≤ l.length then l.tail ++ [⟨serial, now⟩]
  else l ++ [⟨serial, now⟩]

/-- The three conditions of an admission (R143). -/
def Batch.canTake (capacity persons : Nat) (b : Batch) : Bool :=
  decide (b.state = .opened) && decide (b.platformCount + persons ≤ capacity) &&
    decide (b.pending.length < Config.pendingDepth)

/-- A batch after an admission (R143). -/
def Batch.taken (gate persons : Nat) (serial now : Long) (b : Batch) : Batch :=
  { b with
    lastRef := b.issue
    pending := b.pending ++ [{ reference := b.issue, gate := gate, persons := persons, serial := serial, time := now }]
    recent := appendSerial serial now b.recent }

/-- The pending entry a passage names: its reference, from its gate (R149). -/
def Batch.entryFor (gate ref : Nat) (b : Batch) : Option Admission :=
  b.pending.find? (fun e => decide (e.reference = ref ∧ e.gate = gate))

/-- A batch after a passage under an entry (R149, R146). -/
def Batch.passedUnder (e : Admission) (persons : Nat) (b : Batch) : Batch :=
  let rest := b.pending.filter (fun x => decide (x.reference ≠ e.reference))
  let done := decide (b.state = .closing) && rest.isEmpty
  { b with
    passed := b.passed + min persons e.persons
    pending := rest
    state := if done then .closed else b.state
    settle := if done then none else b.settle }

/-- A batch whose settle timer has expired: every pending entry counted as passed (R147). -/
def Batch.settled (b : Batch) : Batch :=
  { b with passed := b.passed + b.pendingPersons, pending := [], state := .closed, settle := none }

/-- A PASSAGE at a terminal: the reply payload and the state after (R149, Table 10-4). The reply shows the batch right
after the passage: DEDUCED (assumption 32). -/
def takePassage (st : Station) (gate ref persons : Nat) (s : State) : List Byte × State :=
  let b := s.bcu.batches.get st
  if 7 < gate ∨ ref < 1 ∨ 255 < ref ∨ 15 < persons then (Status.badArgument.encode, s)
  else if s.tsq.state = .configuring then (Status.refusedState.encode, s)
  else
    match b.entryFor gate ref with
    | none => (Status.stale.encode ++ enc1 b.state.code ++ enc1 b.platformCount, s)
    | some e =>
      let b' := b.passedUnder e persons
      (Status.ok.encode ++ enc1 b'.state.code ++ enc1 b'.passed ++ enc1 b'.platformCount,
        endWarningStep (setBatch st b' s))

/-- Milliseconds left on a timer. -/
def Timer.left (t : Timer) : Nat := t.limit - t.elapsed

/-- The settle remaining field (R154, R180): 5 bytes, absent while the timer is idle. -/
def encSettle (t : Option Timer) : List Byte := encOpt 4 (t.map (fun x => enc4 x.left))

/-- The car standing at a terminal when the line is STOPPED at a terminal (R154). -/
def State.carAtPlatform (s : State) (st : Station) : Option Car :=
  match s.tsq.state, s.tsq.target with
  | .stopped, some k => s.lts.carAtTerminal k st
  | _, _ => none

/-- The code of an optional car: A 0, B 1, NONE 2 (Table 10-5). -/
def carCode : Option Car → Nat
  | some .a => 0
  | some .b => 1
  | none => 2

/-- The departure direction of a terminal: UP for LOWER, DOWN for UPPER (R154, R157). -/
def departureDirection : Station → Direction
  | .lower => .up
  | .upper => .down

/-- The STATION_STATUS reply (R154, Table 10-4). -/
def stationStatusReply (st : Station) (s : State) : List Byte :=
  let b := s.bcu.batches.get st
  let c := s.carAtPlatform st
  Status.ok.encode ++ enc1 st.code ++ enc1 b.state.code ++ enc1 b.passed ++ enc1 b.pending.length ++
    enc1 b.pendingPersons ++ enc1 b.platformCount ++ enc1 s.capacity ++ encSettle b.settle ++ enc1 b.carried ++
    enc1 b.boarded ++ enc1 (carCode c) ++ encOpt 1 (c.map (fun x => enc1 (s.load x))) ++
    enc1 (departureDirection st).code ++ enc1 s.tsq.state.code ++ enc1 s.tsq.mode.code

end Sys2Proof.Machine
end

