-- ==== Sys2Proof/Machine/Reference.lean ====
section
/-! DEFINITION. The Speed Reference Generator at a measurement sample (R57 to R66) and its direction, demand and
warning lines (R66 to R69). -/

namespace Sys2Proof.Machine

/-! ### Terms of the reference and of the permitted speed (R60, R73) -/

/-- A term of a segment ahead: the square of its cap plus twice the deceleration times the distance to its entry
point, when that point lies ahead no farther than `reach` (R60, R73). -/
def segmentTerm (t : Lts) (d : Direction) (p reach : Int) (cap : Nat → Nat) (decel j : Nat) : Option Nat :=
  match t.entryPoint d j with
  | none => none
  | some e =>
    let dist := distance d p e
    if 0 < dist ∧ dist ≤ reach then some (cap j * cap j + 2 * decel * dist.toNat) else none

/-- The smallest of a first term and the terms of the segments other than the current one (R60, R73). -/
def minOverSegments (t : Lts) (d : Direction) (p reach : Int) (cap : Nat → Nat) (decel first : Nat) : Nat :=
  (List.range t.segmentCount).foldl
    (fun m j =>
      if j = t.segmentOf p then m
      else match segmentTerm t d p reach cap decel j with | some v => min m v | none => m)
    first

/-- A segment's cap scaled by a factor in 1/256 (R58, R73). -/
def Lts.scaledCap (t : Lts) (factor j : Nat) : Nat := t.segmentCap j * factor / 256

/-- The effective cap of a segment (R58). -/
def State.effectiveCap (s : State) (j : Nat) : Nat :=
  if s.srg.insp then s.lts.vInsp.toNat else s.lts.scaledCap s.srg.fRef j

/-- The stop term (R60, term 3). -/
def State.stopTerm (s : State) (dt : Int) : Nat :=
  if s.srg.ctlTarget.isSome then 2 * s.aDec * dt.toNat
  else s.lts.vCreep.toNat * s.lts.vCreep.toNat + 2 * s.aDec * (dt - s.lts.creepDist).toNat

/-- The smallest term, in mm²/s² (R60). -/
def State.referenceSquare (s : State) (dt : Int) : Nat :=
  let cap := s.effectiveCap (s.lts.segmentOf s.xs)
  let first := min (cap * cap) (s.stopTerm dt)
  if s.srg.insp then first
  else minOverSegments s.lts s.travelDirection s.xs dt s.effectiveCap s.aDec first

/-- v_tgt at a sample (R60, R61). -/
def State.targetSpeed (s : State) (dt : Int) : Nat :=
  if dt ≤ 0 then 0
  else if s.srg.ctlTarget.isNone ∧ dt ≤ s.lts.creepDist then s.lts.vCreep.toNat
  else isqrt (s.referenceSquare dt)

/-- v_ref moved toward 1,000 × v_tgt at the band's accelerations (R62). -/
def rampTo (aAcc aDec vTgt vRef : Nat) : Nat :=
  if vRef < 1000 * vTgt then min (vRef + 2 * aAcc) (1000 * vTgt)
  else if 1000 * vTgt < vRef then max (vRef - 2 * aDec) (1000 * vTgt)
  else vRef

/-- The clamp to the permitted speed of the same sample (R63). -/
def clampRef (vPerm2 : Option Nat) (v : Nat) : Nat :=
  match vPerm2 with
  | some p => min v (1000 * isqrt p)
  | none => v

/-- The phase of a sample (R64); `creep` is its first condition. -/
def phaseOf (creep : Bool) (old new : Nat) : Phase :=
  if creep then .creep else if new < old then .decel else if old < new then .accel else .cruise

/-- The reference computed at a sample (R60 to R64). -/
def computeReference (dt : Int) (s : State) : State :=
  let v := s.targetSpeed dt
  let ref := if dt ≤ 0 then 0 else clampRef s.obs.vPerm2 (rampTo s.aAcc s.aDec v s.srg.vRef)
  s.updSrg (fun r =>
    { r with
      vTgt := v, vRef := ref,
      phase := some (phaseOf (s.srg.ctlTarget.isNone && decide (dt ≤ s.lts.creepDist)) r.vRef ref) })

/-- The reference ramped down at a_dec to 0 (R57, the fourth condition; R62 to R64). -/
def rampReference (s : State) : State :=
  let ref := clampRef s.obs.vPerm2 (rampTo s.aAcc s.aDec 0 s.srg.vRef)
  s.updSrg (fun r => { r with vTgt := 0, vRef := ref, phase := some (phaseOf false r.vRef ref) })

/-- The reference at a sample (R57). -/
def formReference (s : State) : State :=
  if s.computesReference then
    match s.targetDistance with
    | some dt => computeReference dt s
    | none => s.updSrg (fun r => { r with vRef := 0, vTgt := 0, phase := none })
  else if s.rampsDown then rampReference s
  else
    s.updSrg (fun r =>
      { r with vRef := 0, vTgt := 0, phase := if s.tsq.state = .arriving then r.phase else none })

/-- The duty in ticks that v_ref asks for (R66). -/
def State.duty (s : State) : Nat :=
  min (s.srg.vRef * s.lts.inForce.modulus / (s.lts.vLineMax.toNat * 1000)) (s.lts.inForce.modulus - 1)

/-- The duty written to the holding buffer; 0 while drive enable is off (R66). -/
def writeDuty (s : State) : State := s.updSrg (fun r => { r with holding := if s.den then s.duty else 0 })

/-- The phase handed to the TSQ, shown while RUNNING (R64), and the target frozen at a sample of a running trip
in CREEP (R48): at every such sample, DESIGN CHOICE (assumption 28). -/
def handPhase (s : State) : State :=
  if s.tsq.state = .running then
    let t := s.updTsq (fun t => { t with phase := s.srg.phase })
    if s.srg.phase = some .creep then
      t.updCpt (fun c => { c with target := c.target.map (fun g => { g with frozen := true }) })
    else t
  else s

/-- The report that the target is reached (R61, R120, R122). -/
def reportReached (s : State) : State :=
  if s.tsq.state = .running then changeTrip .arriving (some .standstill) s
  else if s.tsq.state = .inspecting ∧ s.tsq.step = some .moving then
    s.updTsq (fun t => { t with step := some .holding })
  else s

/-- d_t has reached 0 at a sample at which the reference is computed (R61). -/
def State.reached (s : State) : Bool :=
  s.computesReference && (match s.targetDistance with | some dt => decide (dt ≤ 0) | none => false)

/-- The SRG at a sample (R57 to R66). -/
def srgSample (s : State) : State :=
  let t := handPhase (writeDuty (formReference s))
  if s.reached then reportReached t else t

end Sys2Proof.Machine
end

