-- ==== Sys2Proof/Machine/Supervision.lean ====
section
/-! DEFINITION. The Overspeed and Brake Supervisor at a measurement sample (R72 to R81, R87) and at ACKNOWLEDGE
(R96, R97). -/

namespace Sys2Proof.Machine

/-! ### The permitted speed (R72, R73) -/

/-- d_e: the distance to the endpoint, at least 0, in mm, truncated (R72). -/
def State.endDistance (s : State) : Int := max 0 (Int.tdiv s.obs.rE2 2000)

/-- The supervision cap of a segment (R73). -/
def State.supervisionCap (s : State) (j : Nat) : Nat :=
  if s.obs.inspSup then s.lts.vInsp.toNat else s.lts.scaledCap s.obs.fSup j

/-- v_perm² of a sample (R73). -/
def State.permittedSquare (s : State) : Nat :=
  let a := s.obs.aSup.getD 0
  let de := s.endDistance
  let cap := s.supervisionCap (s.lts.segmentOf s.xs)
  let first := min (cap * cap) (s.lts.vCreepSup.toNat * s.lts.vCreepSup.toNat + 2 * a * de.toNat)
  if s.obs.inspSup then first
  else minOverSegments s.lts s.obs.direction s.xs de s.supervisionCap a first

/-- The travel of the sample taken from r_e2, and v_perm² formed (R72, R73). -/
def formPermitted (s : State) : State :=
  if s.obs.envelope then
    let t := s.updObs (fun o => { o with rE2 := o.rE2 - travel o.direction s.rmu.dx2 })
    t.updObs (fun o => { o with vPerm2 := some t.permittedSquare })
  else s.updObs (fun o => { o with vPerm2 := none })

/-! ### Overspeed (R74 to R77) -/

/-- A level is exceeded (R74). -/
def levelExceeded (speed vPerm2 : Nat) (margin : Int) : Bool :=
  decide (((speed * 1024) * (speed * 1024) : Nat) > (vPerm2 : Int) * ((1024 + margin) * (1024 + margin)))

/-- The excursion mark and OVERSPEED_WARNING (R75). -/
def excursionMark (exceeded : Bool) (s : State) : State :=
  let t := s.updObs (fun o => { o with excursion := exceeded })
  if exceeded && !s.obs.excursion then raise .overspeedWarning t else t

/-- Give a cause when a condition holds. -/
def causeIf (cond : Bool) (kind : CauseKind) (s : State) : State :=
  if cond then giveCause kind .internal s else s

/-- The three levels at a sample (R75, R76). -/
def testLevels (s : State) : State :=
  match s.obs.envelope, s.obs.vPerm2 with
  | true, some p =>
    let over2 := levelExceeded s.speed p s.lts.margin2
    let over3 := levelExceeded s.speed p s.lts.margin3
    let t := excursionMark (levelExceeded s.speed p s.lts.margin1) s
    causeIf over3 .overspeedSevere (causeIf (over2 || over3) .overspeed t)
  | _, _ => s

/-- The absolute line check fails (R77). -/
def State.absoluteExceeded (s : State) : Bool :=
  s.lts.committed && decide ((s.speed * 1024 : Nat) > s.lts.vLineMax * (1024 + s.lts.margin3))

/-! ### Travel checks (R78 to R80) -/

/-- The rollback measure after a sample's travel (R78, R79). -/
def Rollback.step (d : Direction) (dx2 : Int) : Rollback → Rollback
  | .inactive => .inactive
  | .running rb2 => .running (max 0 (rb2 - travel d dx2))
  | .standing st2 => .standing (st2 + dx2)

/-- The rollback measure exceeds its limit (R78, R79). -/
def State.rolledBack (s : State) : Bool :=
  let lim := 2000 * s.lts.rollbackLimit
  match s.obs.rollback with
  | .inactive => false
  | .running rb2 => decide (rb2 > lim)
  | .standing st2 => decide (s.obs.brakes.sbk.command = .applied) && decide ((st2.natAbs : Int) > lim)

/-- The rollback check of a sample (R78, R79). -/
def testRollback (s : State) : State :=
  let t := s.updObs (fun o => { o with rollback := o.rollback.step o.direction s.rmu.dx2 })
  causeIf t.rolledBack .rollback t

/-- The line has passed the endpoint (R80). -/
def State.overran (s : State) : Bool := s.obs.envelope && decide (s.obs.rE2 < 0)

/-! ### Standstill, stop latch, following the target (R81, R87, R72) -/

/-- The standstill count after a sample (R81). -/
def State.standstillCount (s : State) : Nat :=
  if (s.speed : Int) ≤ s.lts.vStill then min (s.obs.pS + 1) Config.standstillCeiling else 0

/-- The standstill count of a sample, and the standstill indication formed from it (R81). -/
def countStandstill (s : State) : State :=
  s.updObs (fun o =>
    { o with pS := s.standstillCount, still := decide ((2 * s.standstillCount : Int) ≥ s.lts.tStill) })

/-- STOP braking at standstill (R87): the latch set, SBK applied, the drive permission withdrawn. -/
def latchStop (s : State) : State :=
  if s.braking = .stop ∧ s.standstill ∧ !s.obs.stopLatch then
    restReference (applyBrake .sbk (dropDrive (s.updObs (fun o => { o with stopLatch := true }))))
  else s

/-- The endpoint formed afresh when the stop target has changed (R72). -/
def followTarget (s : State) : State :=
  match s.cpt.target, s.obs.eFrom with
  | some g, some f =>
    if s.obs.envelope ∧ !s.obs.ctlStop ∧ g.position ≠ f then
      s.updObs (fun o => o.endpointFrom s g.position)
    else s
  | _, _ => s

/-- The OBS at a sample, its permitted speed already formed (R74 to R81, R87, R72). Its causes come before the stop latch,
so that a sample which raises STOP braking leaves the latch clear: DESIGN CHOICE (assumption 41). -/
def obsSample (s : State) : State :=
  let overrun := s.overran
  let severe := s.absoluteExceeded
  let t := testRollback (causeIf severe .overspeedSevere (testLevels s))
  followTarget (latchStop (countStandstill (causeIf overrun .overrun t)))

/-! ### ACKNOWLEDGE (R96, R97) -/

/-- A car side shows not locked in its last reported contacts; an absent contact reads not locked (R124). -/
def anyUnlocked (v : PerSide DoorRecord) : Bool :=
  decide (v.left.locked ≠ some true) || decide (v.right.locked ≠ some true)

/-- A brake is commanded APPLIED and reads LIFTED. -/
def appliedButLifted (b : BrakeRecord) : Bool := decide (b.command = .applied) && decide (b.reading = .lifted)

/-- The conditions of ACKNOWLEDGE in the order tested, each with whether it fails (Table 5-3). -/
def State.ackConditions (s : State) : List (Nat × Bool) :=
  [(condMoving, !s.standstill), (condLinkA, !s.carLinkUp .a), (condLinkB, !s.carLinkUp .b),
   (condDoorA, anyUnlocked s.dru.a), (condDoorB, anyUnlocked s.dru.b), (condPowerFail, s.obs.pfail),
   (condFaultA, s.obs.carFault.a), (condFaultB, s.obs.carFault.b),
   (condSbkLifted, appliedButLifted s.obs.brakes.sbk), (condEbkLifted, appliedButLifted s.obs.brakes.ebk)]

/-- The first condition that fails, of a list of conditions. -/
def firstCondition (cs : List (Nat × Bool)) : Option Nat := (cs.find? (·.2)).map (·.1)

/-- The trip state an ACKNOWLEDGE taken leads to (R97, step 5). -/
def leaveTripped (s : State) : State :=
  if s.obs.trippedFrom = some .outOfService ∨ s.obs.trippedFrom = some .inspecting then
    changeTrip .outOfService none s
  else
    match s.standingStop with
    | some k => openBatches (stopAt k s)
    | none => changeTrip .stranded none s

/-- The effect of an ACKNOWLEDGE whose conditions all hold (R97). SBK stays as it is commanded: DESIGN CHOICE where
that is LIFTED (assumption 29). -/
def clearCauses (s : State) : State :=
  let t := raise .causesCleared (s.updObs (fun o => { o with causes := [], stopLatch := false }))
  let t := (liftBrake .ebk t).updObs (fun o => { o with railBrake := false })
  (leaveTripped t).updObs (fun o => { o with trippedFrom := none })

/-- ACKNOWLEDGE: its reply and its effect (R96, R97). -/
def takeAcknowledge (s : State) : Status × State :=
  if s.tsq.state ≠ .tripped then (.refusedState, s)
  else
    match firstCondition s.ackConditions with
    | some c => (.notClear c, s)
    | none => (.ok, clearCauses s)

end Sys2Proof.Machine
end

