-- ==== Sys2Proof/Machine/Sequencer.lean ====
section
/-! DEFINITION. The Trip Sequencer's requests and expiries (chapter 6), and its part of a measurement sample. -/

namespace Sys2Proof.Machine

/-! ### START and RESUME (R104 to R106) -/

/-- The line mode is NORMAL or REDUCED. -/
def LineMode.service : LineMode → Bool
  | .normal | .reduced => true
  | .inspection | .config => false

/-- Conditions 3 to 7 of Table 6-4, in order, each with whether it fails. -/
def State.tripConditions (s : State) : List (Nat × Bool) :=
  [(condMode, !s.tsq.mode.service), (condLinkA, !s.carLinkUp .a), (condLinkB, !s.carLinkUp .b),
   (condSingleChannel, !s.rmu.twoChannel), (condCauses, decide (s.obs.causes ≠ []))]

/-- The stop at which the line stands STOPPED (R100). -/
def State.stoppedAt (s : State) : Nat := s.tsq.target.getD 0

/-- The target of a trip set and named to the CPT (R105, R106). -/
def setTarget (k : Nat) (s : State) : State := (nameStop k s).updTsq (fun t => { t with target := some k })

/-- A START taken (R105). The stops ahead are counted from the stop k at which the line stands. -/
def startTrip (d : Direction) (s : State) : State :=
  let t := s.updTsq (fun t => { t with direction := d, origin := some s.stoppedAt, resume := false })
  beginDeparture (setTarget (t.nearestServed.getD s.stoppedAt) t)

/-- START: its reply and its effect (R104, R105). -/
def takeStart (direction : Byte) (s : State) : Status × State :=
  match Direction.ofCode direction with
  | none => (.badArgument, s)
  | some d =>
    if s.tsq.state ≠ .stopped then (.refusedState, s)
    else
      match firstCondition (s.tripConditions ++ [(condDirection, !s.directionPossible d s.stoppedAt)]) with
      | some c => (.notClear c, s)
      | none => if s.overloaded then (.overload, s) else (.ok, startTrip d s)

/-- A RESUME taken to stop k (R106). -/
def resumeTrip (k : Nat) (s : State) : State :=
  beginDeparture (setTarget k (s.updTsq (fun t => { t with origin := none, resume := true })))

/-- RESUME: its reply and its effect (R106). -/
def takeResume (s : State) : Status × State :=
  if s.tsq.state ≠ .stranded then (.refusedState, s)
  else
    match firstCondition s.tripConditions with
    | some c => (.notClear c, s)
    | none =>
      match s.nearestServed with
      | none => (.notClear condNoTarget, s)
      | some k => if s.overloaded then (.overload, s) else (.ok, resumeTrip k s)

/-! ### Stop and emergency demands (R113) -/

/-- STOP or EMERGENCY from a port: its reply and the cause it gives. -/
def takeDemand (kind : CauseKind) (p : PortId) (s : State) : Status × State :=
  if s.tsq.state = .configuring then (.refusedState, s) else (.ok, giveCause kind (.port p) s)

/-! ### Line modes (R101, R56, R189) -/

/-- The line mode set; NORMAL to REDUCED with a frozen factor in force brings f_ref down to f_r (R56). -/
def setMode (m : LineMode) (s : State) : State :=
  let lowered := s.srg.frozen && decide (s.tsq.mode = .normal) && decide (m = .reduced)
  (s.updSrg (fun r => if lowered then { r with fRef := s.lts.fReduced.toNat } else r)).updTsq
    (fun t => { t with mode := m })

/-- A channel on entry to CONFIGURING (Table 2-1, R23). -/
def Channel.unmap (c : Channel) : Channel :=
  { c.cleared with state := .unmapped, edges := 0, c := 0, d := 0, vch := 0 }

/-- The RMU on entry to CONFIGURING (Table 2-1): X2 and the slip accumulators unchanged. -/
def Rmu.atConfiguring (r : Rmu) : Rmu :=
  { r with
    channels := r.channels.mapIdx (fun _ c => c.unmap), vSup := 0, vAvg := 0, known := false, twoChannel := false,
    pA := 0, p1 := 0, p2 := 0, slipActive := false }

/-- The SRG on entry to CONFIGURING and at a successful COMMIT (Table 4-1): DIR unchanged. -/
def Srg.atRest (r : Srg) : Srg :=
  { r with
    vRef := 0, vTgt := 0, band := none, fRef := 256, insp := false, phase := none, ctlTarget := none, holding := 0,
    active := 0, dirPending := none, warning := none, warn := false, frozen := false }

/-- The OBS items that entry to CONFIGURING and COMMIT set alike (Table 5-1); the standstill indication stays the one
formed at the last sample (R81). -/
def Obs.atRest (o : Obs) : Obs :=
  { o with
    envelope := false, fSup := 256, inspSup := false, aSup := none, endpoint := none, eFrom := none, rE2 := 0,
    ctlStop := false, vPerm2 := none, excursion := false, pS := 0, causes := [], trippedFrom := none,
    stopLatch := false, liftPending := false, applyPending := false }

/-- The trip record on entry to CONFIGURING and at a successful COMMIT, but for state, time and mode (Table 6-1). -/
def Tsq.atRest (mode : LineMode) (t : Tsq) : Tsq :=
  { t with
    step := none, resume := false, phase := none, direction := .up, origin := none, target := none, mode := mode,
    move := none, halts := [] }

/-- Entry to CONFIGURING (R189). -/
def enterConfiguring (s : State) : State :=
  let t := (changeTrip .configuring none s).updLts (fun l => { l with committed := false })
  ((((t.updRmu Rmu.atConfiguring).updTsq (Tsq.atRest .config)).updCpt (fun c => { c with target := none })).updSrg
    Srg.atRest).updObs (fun o => { o.atRest with rollback := .inactive })

/-- MODE CONFIG: its reply and its effect (R189). -/
def takeModeConfig (s : State) : Status × State :=
  match s.tsq.state with
  | .outOfService => (.ok, enterConfiguring s)
  | .configuring => (.ok, s)
  | _ => (.refusedState, s)

/-- MODE: its reply and its effect (Table 6-3). -/
def takeMode (m : Byte) (s : State) : Status × State :=
  match LineMode.ofCode m with
  | none => (.badArgument, s)
  | some .config => takeModeConfig s
  | some n =>
    if s.tsq.state = .configuring then (.refusedState, s)
    else if (n = .inspection ∨ s.tsq.mode = .inspection) ∧ s.tsq.state ≠ .outOfService then (.refusedState, s)
    else if s.tsq.mode = .inspection ∧ n ≠ .inspection ∧ !s.rmu.known then (.notClear condPosition, s)
    else (.ok, setMode n s)

/-! ### Service on and off (R102, R103) -/

/-- SERVICE_ON: its reply and its effect (R102). -/
def takeServiceOn (s : State) : Status × State :=
  if s.tsq.state ≠ .outOfService then (.refusedState, s)
  else if !s.tsq.mode.service then (.notClear condMode, s)
  else if !s.rmu.known then (.notClear condPosition, s)
  else
    match s.standingStop with
    | none => (.notClear condNotAtStop, s)
    | some k => (.ok, openAtTerminal k (stopAt k (s.updTsq (fun t => { t with origin := none }))))

/-- SERVICE_OFF: its reply and its effect (R103). -/
def takeServiceOff (s : State) : Status × State :=
  if s.tsq.state = .stopped ∨ s.tsq.state = .stranded ∨ s.earlyDeparture then (.ok, changeTrip .outOfService none s)
  else (.refusedState, s)

/-! ### Halt requests (R110, R112) -/

/-- The target chosen anew after its entry was removed (R112): the nearest served stop ahead, DESIGN CHOICE where that
lies before the stop removed (assumption 30). -/
def rechooseTarget (s : State) : State :=
  match s.nearestServed with
  | some k => moveTarget k s
  | none => s

/-- HALT_CANCEL: its reply and its effect (R112). -/
def takeHaltCancel (k : Nat) (s : State) : Status × State :=
  if s.tsq.state = .configuring then (.refusedState, s)
  else if s.lts.stopCount ≤ k then (.badArgument, s)
  else if !s.lts.onRequest k then (.badStop, s)
  else if !s.listed k then (.ok, s)
  else if s.tsq.target = some k ∧
      (s.tsq.state = .arriving ∨ (s.tsq.state = .running ∧ s.tsq.phase = some .creep)) then (.refusedState, s)
  else
    let t := s.updTsq (fun t => { t with halts := t.halts.filter (fun e => decide (e.stopIndex ≠ k)) })
    if s.tsq.target = some k ∧ (s.tsq.state = .departing ∨ s.tsq.state = .running) then (.ok, rechooseTarget t)
    else (.ok, t)

/-- The car halt button of a report (R110). -/
def haltButton (c : Car) (s : State) : State :=
  match s.nearestForButton c with
  | some k => (haltRequest k (.button c) s).2
  | none => s

/-- The TSQ takes a car report: the halt button and the alarm handle (R110, R113, R179), the button first: DESIGN CHOICE
(assumption 42). -/
def tsqReport (c : Car) (r : CarReport) (s : State) : State :=
  let t := if yes r.haltButton then haltButton c s else s
  if yes r.alarmHandle ∧ t.tsq.state ≠ .configuring then giveCause .stopDemand (.car c) t else t

/-! ### Inspection moves (R121, R122) -/

/-- An inspection move taken (R121). -/
def startMove (d : Direction) (dist : Int) (s : State) : State :=
  let m : Move :=
    { direction := d, distance := dist, startKnown := s.rmu.known,
      endpoint := if s.rmu.known then some (ahead d s.xs dist) else none, remaining := 2000 * dist }
  let t := changeTrip .inspecting (some .lifting) (s.updTsq (fun t => { t with move := some m }))
  handDirection d (envelopeForMove d dist (freeze d t))

/-- INSPECT_MOVE: its reply and its effect (R121). -/
def takeInspectMove (direction : Byte) (distance : Long) (s : State) : Status × State :=
  match Direction.ofCode direction with
  | none => (.badArgument, s)
  | some d =>
    if (distance.toNat : Int) < 1 ∨ Config.maxMove < (distance.toNat : Int) then (.badArgument, s)
    else if s.tsq.state ≠ .outOfService then (.refusedState, s)
    else if s.tsq.mode ≠ .inspection then (.notClear condMode, s)
    else (.ok, startMove d distance.toNat s)

/-- The remaining travel of a move after a sample (R122). -/
def moveTravel (s : State) : State :=
  s.updTsq (fun t =>
    { t with move := t.move.map (fun m => { m with remaining := m.remaining - travel m.direction s.rmu.dx2 }) })

/-- The TSQ at a sample: the standstill indication read in steps STANDSTILL and HOLDING (R120, R122). -/
def tsqSample (s : State) : State :=
  if !s.standstill then s
  else if s.tsq.state = .arriving ∧ s.tsq.step = some .standstill then
    applyRequest (s.updTsq (fun t => { t with step := some .apply }))
  else if s.tsq.state = .inspecting ∧ s.tsq.step = some .holding ∧ !s.obs.applyPending then applyRequest s
  else s

/-! ### Expiries (R69, R116, R118, R123, R147) -/

/-- The warning has ended (R69). -/
def warningOver (s : State) : State :=
  endWarningStep
    ((s.updSrg (fun r => { r with warning := none, warn := false })).updTsq (fun t => { t with warningEnded := true }))

/-- A settle timer has expired (R147, R148). -/
def settleOver (st : Station) (s : State) : State :=
  endWarningStep (setBatch st (s.bcu.batches.get st).settled s)

/-- The closure timer has expired (R116). -/
def closureOver (s : State) : State := raise .departureFailed (abandonToOrigin s)

/-- A departure abandoned by a car link loss (R118). -/
def abandonForLink (s : State) : State :=
  raise .departureFailed (if s.tsq.resume then changeTrip .stranded none s else abandonToOrigin s)

/-- The console timer has expired (R123). -/
def consoleSilence (s : State) : State :=
  let t := raiseLink .linkDown .p0 (s.updTsq (fun t => { t with silent := true, consoleTimer := none }))
  if t.earlyDeparture then changeTrip .outOfService none t else t

/-! ### Link supervision (R123, R184 to R186) -/

/-- A timer of a number of seconds, just started; 0 ms from a negative number: DESIGN CHOICE (assumption 34). -/
def secondsTimer (seconds : Int) : Timer := { elapsed := 0, limit := (seconds * 1000).toNat }

/-- A valid frame taken on P0 (R123). -/
def consoleHeard (s : State) : State :=
  let t := s.updTsq (fun t => { t with silent := false, consoleTimer := some (secondsTimer s.lts.consoleTo) })
  if s.tsq.silent then raiseLink .linkUp .p0 t else t

/-- A valid frame taken on a gate port (R186). -/
def gateHeard (st : Station) (s : State) : State :=
  let t := s.updLpu (fun l =>
    { l with gateLinks := l.gateLinks.set st { up := true, timer := some (secondsTimer s.lts.consoleTo) } })
  if (s.lpu.gateLinks.get st).up then t else raiseLink .linkUp st.port t

/-- A gate link timer has expired (R186). -/
def gateSilence (st : Station) (s : State) : State :=
  raiseLink .linkDown st.port
    (s.updLpu (fun l => { l with gateLinks := l.gateLinks.set st { up := false, timer := none } }))

/-- A CAR_REPORT taken restarts its car link timer and brings a DOWN link UP (R184, R185, R127). A negative
car_link_to gives 0 ms: DESIGN CHOICE (assumption 34). -/
def carHeard (c : Car) (s : State) : State :=
  let t := s.updLpu (fun l =>
    { l with carLinks := l.carLinks.set c
              { up := true, timer := some { elapsed := 0, limit := s.lts.carLinkTo.toNat } } })
  if s.carLinkUp c then t else testDoors (raiseLink .linkUp c.port t)

/-- The line moves or is about to: a car link loss gives a cause (R184). -/
def State.linkLossTrips (s : State) : Bool :=
  s.releasing || decide (s.tsq.state = .running) || decide (s.tsq.state = .arriving) ||
    decide (s.tsq.state = .inspecting)

/-- The cause of a car link loss (R184). -/
def linkLostKind : Car → CauseKind
  | .a => .linkLostA
  | .b => .linkLostB

/-- A car's records at a link loss: last_odo (R39) and snapshots (R139) absent. -/
def dropCarData (c : Car) (s : State) : State :=
  (s.updCpt (fun u => { u with cars := u.cars.set c { u.cars.get c with lastOdo := none } })).updBcu (fun u =>
    { u with loads := u.loads.set c { u.loads.get c with snap := none } })

/-- A car link timer has expired (R184). -/
def carSilence (c : Car) (s : State) : State :=
  let t := raiseLink .linkDown c.port
    (s.updLpu (fun l => { l with carLinks := l.carLinks.set c { up := false, timer := none } }))
  let t := if s.linkLossTrips then giveCause (linkLostKind c) (.port c.port) t else t
  let t := testDoors (dropCarData c t)
  if t.earlyDeparture then abandonForLink t else t

/-! ### The time of day (R188) -/

/-- TIME_SET: its reply and its effect (R188). -/
def takeTimeSet (minutes : Nat) (s : State) : Status × State :=
  if Config.dayMinutes ≤ minutes then (.badArgument, s)
  else (.ok, { s with timeOfDay := some minutes, minuteMs := 0 })

/-! ### Channel service (R25) -/

/-- The channel has role MAIN1 or MAIN2. -/
def Lts.isMain (t : Lts) (i : Fin 4) : Bool := decide (t.role i = 0 ∨ t.role i = 1)

/-- Main channels that are IN_SERVICE. -/
def State.mainsInService (s : State) : List (Fin 4) :=
  [(0 : Fin 4), 1, 2, 3].filter (fun i =>
    s.lts.isMain i && decide ((s.rmu.channels.get i).state = .inService))

/-- A channel put into a state; a change of a main channel's state clears the persistence counts (R25). -/
def setChannelState (i : Fin 4) (st : ChannelState) (s : State) : State :=
  let changed := s.lts.isMain i && decide ((s.rmu.channels.get i).state ≠ st)
  s.updRmu (fun r =>
    let r' := { r with channels := r.channels.set i { r.channels.get i with state := st } }
    if changed then { r' with pA := 0, p1 := 0, p2 := 0 } else r')

/-- The conditions of CHANNEL_SERVICE on a channel of the part, and the state its action gives (R25). -/
def serveChannel (i : Fin 4) (st : ChannelState) (s : State) : Status × State :=
  if (s.rmu.channels.get i).state = .unmapped then (.badArgument, s)
  else if s.tsq.state ≠ .outOfService then (.refusedState, s)
  else if s.lts.isMain i ∧ s.tsq.mode ≠ .inspection then (.refusedState, s)
  else if st = .outOfService ∧ s.mainsInService = [i] then (.refusedState, s)
  else (.ok, setChannelState i st s)

/-- CHANNEL_SERVICE: its reply and its effect (R25). Action 0 is REMOVE, 1 is RESTORE. -/
def takeChannelService (channel action : Byte) (s : State) : Status × State :=
  if h : channel.toNat < 4 then
    match action.toNat with
    | 0 => serveChannel ⟨channel.toNat, h⟩ .outOfService s
    | 1 => serveChannel ⟨channel.toNat, h⟩ .inService s
    | _ => (.badArgument, s)
  else (.badArgument, s)

end Sys2Proof.Machine
end

