-- ==== Sys2Proof/Machine/Expiries.lean ====
section
/-! DEFINITION. The rows that are power-on reset, moments of the SRG's lines, timer expiries and field-line changes.
A row whose event cannot occur in the state (an expiry of an idle timer, a reading that does not change) leaves the
state as it stands (assumption 11). -/

namespace Sys2Proof.Machine

/-- POWER_ON_RESET (R187). The queue of commands stays, and so does the model's own free-value counter. -/
def execPowerOnReset (s : State) : Host.Outcome State Fault Refusal :=
  .next { State.reset with pending := s.pending, freeIndex := s.freeIndex }

/-! ### The SRG's lines (R67 to R69) -/

/-- DEM_PERIOD (R67): the holding duty taken as the active duty, and a new M brought in. -/
def execDemPeriod (s : State) : Host.Outcome State Fault Refusal :=
  .next (s.updSrg (fun r => { r with active := r.holding, period := s.lts.inForce.modulus }))

/-- The pending direction may be shown: active duty 0 and drive enable off (R68). -/
def State.dirFree (s : State) : Bool := decide (s.srg.active = 0) && !s.den

/-- DIR_PENDING_CHANGE (R68). -/
def execDirPendingChange (s : State) : Host.Outcome State Fault Refusal :=
  .next (match s.srg.dirPending with
    | some d =>
      if s.dirFree then directionShown (s.updSrg (fun r => { r with dir := d, dirPending := none })) else s
    | none => s)

/-- WARN_TOGGLE (R69). -/
def execWarnToggle (s : State) : Host.Outcome State Fault Refusal :=
  .next (if s.srg.warning.isSome then s.updSrg (fun r => { r with warn := !r.warn }) else s)

/-- WARNING_END (R69). -/
def execWarningEnd (s : State) : Host.Outcome State Fault Refusal :=
  .next (if s.srg.warning.isSome then warningOver s else s)

/-! ### Expiries -/

/-- SETTLE_EXPIRY (R147, R148). -/
def execSettleExpiry (st : Station) (s : State) : Host.Outcome State Fault Refusal :=
  .next (if (s.bcu.batches.get st).settle.isSome then settleOver st s else s)

/-- Step CLOSURE of a departure, its timer running (R115, R116). -/
def State.awaitsClosure (s : State) : Bool :=
  decide (s.tsq.state = .departing) && decide (s.tsq.step = some .closure) && s.tsq.closureTimer.isSome

/-- CLOSURE_TIMER_EXPIRY (R116). -/
def execClosureTimerExpiry (s : State) : Host.Outcome State Fault Refusal :=
  .next (if s.awaitsClosure then closureOver s else s)

/-- A brake's proof is running for a command. -/
def State.proving (s : State) (b : Brake) (c : BrakeCommand) : Bool :=
  decide ((s.obs.brakes.get b).command = c) && decide ((s.obs.brakes.get b).proof = .proving)

/-- A brake's proof becomes FAILED, and its fault cause is given (R93 to R95). -/
def failProof (b : Brake) (r : BrakeRecord) (s : State) : State :=
  brakeFault b (setBrake b { r with proof := .failed, timer := none } s)

/-- APPLY_PROOF_TIMEOUT (R93). -/
def execApplyProofTimeout (b : Brake) (s : State) : Host.Outcome State Fault Refusal :=
  .next (if s.proving b .applied then failProof b (s.obs.brakes.get b) s else s)

/-- LIFT_PROOF_TIMEOUT (R94). -/
def execLiftProofTimeout (b : Brake) (s : State) : Host.Outcome State Fault Refusal :=
  .next (if s.proving b .lifted then failProof b (s.obs.brakes.get b) s else s)

/-- TIME_OF_DAY_ADVANCE (R188). -/
def execTimeOfDayAdvance (s : State) : Host.Outcome State Fault Refusal :=
  .next (match s.timeOfDay with
    | some m => { s with timeOfDay := some ((m + 1) % Config.dayMinutes), minuteMs := 0 }
    | none => s)

/-- CONSOLE_TIMEOUT (R123). -/
def execConsoleTimeout (s : State) : Host.Outcome State Fault Refusal :=
  .next (if s.tsq.consoleTimer.isSome then consoleSilence s else s)

/-- CAR_LINK_TIMEOUT (R184). -/
def execCarLinkTimeout (c : Car) (s : State) : Host.Outcome State Fault Refusal :=
  .next (if (s.lpu.carLinks.get c).timer.isSome then carSilence c s else s)

/-- GATE_LINK_TIMEOUT (R186). -/
def execGateLinkTimeout (st : Station) (s : State) : Host.Outcome State Fault Refusal :=
  .next (if (s.lpu.gateLinks.get st).timer.isSome then gateSilence st s else s)

/-! ### Field lines -/

/-- The reading is the one the command asks for. -/
def feedbackAgrees (f : Feedback) (c : BrakeCommand) : Bool :=
  match f, c with
  | .dropped, .applied | .lifted, .lifted => true
  | .dropped, .lifted | .lifted, .applied => false

/-- What a changed reading does to its brake (R93 to R95). -/
def feedback (b : Brake) (reading : Feedback) (s : State) : State :=
  let r := { s.obs.brakes.get b with reading := reading }
  if feedbackAgrees reading r.command then
    reportApplied (reportLifted (setBrake b { r with proof := .proven, timer := none } s))
  else if r.proof = .proven then failProof b r s
  else setBrake b r s

/-- BRAKE_FEEDBACK_CHANGE (R95). -/
def execBrakeFeedbackChange (b : Brake) (reading : Feedback) (s : State) : Host.Outcome State Fault Refusal :=
  .next (if (s.obs.brakes.get b).reading = reading then s else feedback b reading s)

/-- PFAIL_CHANGE (R85). -/
def execPfailChange (active : Bool) (s : State) : Host.Outcome State Fault Refusal :=
  .next (if s.obs.pfail = active then s
    else
      let t := s.updObs (fun o => { o with pfail := active })
      if active then giveCause .powerFail .linePfail t else t)

/-- A call: a reading that becomes ACTIVE on a mapped line of a committed table (R110). -/
def takeCall (line : Fin 8) (s : State) : State :=
  match s.lts.call line with
  | some (k, c) => if s.lts.committed then (haltRequest k (.call line c) s).2 else s
  | none => s

/-- CALL_LINE_CHANGE (R110). -/
def execCallLineChange (line : Fin 8) (active : Bool) (s : State) : Host.Outcome State Fault Refusal :=
  .next (if s.tsq.callLines.get line = active then s
    else
      let t := s.updTsq (fun t => { t with callLines := t.callLines.set line active })
      if active then takeCall line t else t)

end Sys2Proof.Machine
end

