-- ==== Sys2Proof/Machine/Measurement.lean ====
section
/-! DEFINITION. The Rope Measurement Unit (chapter 2): encoder edges, the measurement sample, the disagreement and
slip tests; and the order in which the other blocks act on a sample (R29). -/

namespace Sys2Proof.Machine

/-! ### Edges (R18) -/

/-- The input pair that follows a pair in the forward phase order, input A leading input B. -/
def nextPair (q : QuadPair) : QuadPair := { a := !q.b, b := q.a }

/-- The count of a change between two input samples: +1 forward, −1 reverse, 0 for a change of both (R18). -/
def edgeSign (before after : QuadPair) : Int :=
  if after = nextPair before then 1 else if before = nextPair after then -1 else 0

/-- The edge count of a channel after a change of its pair; an UNMAPPED channel counts nothing (R18). -/
def Channel.edge (inverted : Bool) (before after : QuadPair) (c : Channel) : Channel :=
  if c.state = .unmapped then c
  else { c with edges := c.edges + (if inverted then -edgeSign before after else edgeSign before after) }

/-- ENCODER_EDGE (R18). -/
def execEncoderEdge (channel : Fin 4) (before after : QuadPair) (s : State) : Host.Outcome State Fault Refusal :=
  .next (s.updRmu (fun r =>
    { r with channels :=
        r.channels.set channel ((r.channels.get channel).edge (s.lts.inverted channel) before after) }))

/-! ### A channel at a sample (R19 to R22, R24) -/

/-- The window after a sample's distance (R20). -/
def pushWindow (n : Nat) (d : Int) (w : List Int) : List Int :=
  if w.length < n then w ++ [d] else w.tail ++ [d]

/-- v_ch of a window: S / (2k), truncated toward zero and saturated; 0 for an empty one (R21). -/
def windowSpeed (w : List Int) : Int :=
  if w = [] then 0 else clampTo Config.maxSpeed (Int.tdiv w.sum (2 * w.length))

/-- A channel at a sample: increment, distance, window and speed (R19 to R22). -/
def Channel.measure (n : Nat) (pitch : Int) (ch : Channel) : Channel :=
  if ch.state = .unmapped then { ch with edges := 0, c := 0, d := 0, vch := 0, partialMark := false }
  else
    let c := clampTo Config.maxCount ch.edges
    let d := c * pitch
    let w := if ch.partialMark then ch.window else pushWindow n d ch.window
    { ch with
      edges := 0, c := c, d := d, window := w, partialMark := false,
      vch := if ch.partialMark then 0 else windowSpeed w }

/-! ### The main channels combined (R26 to R28) -/

/-- The channel of a role, when it is IN_SERVICE. -/
def Rmu.serving (t : Lts) (r : Rmu) (role : Nat) : Option Channel :=
  match t.channelWithRole role with
  | some i => if (r.channels.get i).state = .inService then some (r.channels.get i) else none
  | none => none

/-- ΔX2 of a sample (R27). -/
def mainTravel : Option Channel → Option Channel → Int
  | some m1, some m2 => m1.d + m2.d
  | some m, none | none, some m => 2 * m.d
  | none, none => 0

/-- v_sup of a sample (R28). -/
def supervisionSpeed : Option Channel → Option Channel → Int
  | some m1, some m2 => if m1.vch.natAbs < m2.vch.natAbs then m2.vch else m1.vch
  | some m, none | none, some m => m.vch
  | none, none => 0

/-- v_avg of a sample (R28). -/
def averageSpeed : Option Channel → Option Channel → Int
  | some m1, some m2 => Int.tdiv (m1.vch + m2.vch) 2
  | some m, none | none, some m => m.vch
  | none, none => 0

/-! ### Disagreement counts (R30, R31, R33) -/

/-- A persistence count at a sample: one more while its condition holds, else 0. -/
def persist (holds : Bool) (p : Nat) : Nat := if holds then p + 1 else 0

/-- A main channel stands still while the other shows movement (R31). -/
def stalls (one other : Channel) : Bool := decide (one.c = 0) && decide ((other.vch.natAbs : Int) > Config.stallSpeed)

/-- The persistence counts of a sample (R30, R31); 0 with fewer than two main channels IN_SERVICE (R33). -/
def Rmu.persistence (discLimit : Int) (r : Rmu) : Option Channel → Option Channel → Rmu
  | some m1, some m2 =>
    { r with
      pA := persist (decide (((m1.vch - m2.vch).natAbs : Int) > discLimit)) r.pA
      p1 := persist (stalls m1 m2) r.p1
      p2 := persist (stalls m2 m1) r.p2 }
  | _, _ => { r with pA := 0, p1 := 0, p2 := 0 }

/-! ### The slip accumulators (R34) -/

/-- The slip accumulators of a sample, while the check is active (R34). -/
def Rmu.slipTravel (slip : Option Channel) (r : Rmu) : Rmu :=
  if r.slipActive then
    { r with dM2 := r.dM2 + r.dx2, dSL := r.dSL + (match slip with | some c => c.d | none => 0) }
  else r

/-! ### The published set (R29) -/

/-- The RMU after a sample, before a disagreement is recorded (R18 to R31, R34). -/
def Rmu.sample (t : Lts) (r : Rmu) : Rmu :=
  let u := { r with channels := r.channels.mapIdx (fun i (c : Channel) => c.measure t.inForce.window (t.pitch i)) }
  let m1 := u.serving t 0
  let m2 := u.serving t 1
  let u :=
    { u with
      dx2 := mainTravel m1 m2, x2 := u.x2 + mainTravel m1 m2, vSup := supervisionSpeed m1 m2,
      vAvg := averageSpeed m1 m2, twoChannel := bothMainsInService t u }
  (u.persistence t.discLimit m1 m2).slipTravel (u.serving t 2)

/-! ### A recorded disagreement (R32) -/

/-- A persistence count has reached disc_time (R30, R31). -/
def Lts.persisted (t : Lts) (p : Nat) : Bool := decide ((2 * p : Int) ≥ t.discTime)

/-- A disagreement is recorded at this sample (R30, R31). -/
def Rmu.disagrees (t : Lts) (r : Rmu) : Bool := t.persisted r.pA || t.persisted r.p1 || t.persisted r.p2

/-- MAIN1 is the channel marked FAILED (R32). `free` decides the one case that R32 leaves open. -/
def marksMain1 (free : Bool) (v1 v2 : Nat) (stall1 stall2 : Bool) : Bool :=
  if v1 < v2 then true
  else if v2 < v1 then false
  else if stall1 && stall2 then free
  else stall1

/-- A main channel marked FAILED, the counts 0 (R32). -/
def Rmu.failMain (i : Fin 4) (r : Rmu) : Rmu :=
  { r with channels := r.channels.set i { r.channels.get i with state := .failed }, pA := 0, p1 := 0, p2 := 0 }

/-- R32 on the two main channels i and j, at a sample that records a disagreement. -/
def recordDisagreement (i j : Fin 4) (s : State) : State :=
  let r := s.rmu
  let stall1 := s.lts.persisted r.p1
  let stall2 := s.lts.persisted r.p2
  let first := marksMain1 (Config.bothStalledMarksMain1 s.freeIndex) (r.channels.get i).vch.natAbs
    (r.channels.get j).vch.natAbs stall1 stall2
  let t := s.updRmu (Rmu.failMain (if first then i else j))
  giveCause .encoderDisagree .internal
    { t with freeIndex := if stall1 && stall2 then s.freeIndex + 1 else s.freeIndex }

/-- The disagreement tests of a sample (R30 to R32). -/
def testDisagreement (s : State) : State :=
  match s.lts.channelWithRole 0, s.lts.channelWithRole 1 with
  | some i, some j =>
    if bothMainsInService s.lts s.rmu && s.rmu.disagrees s.lts then recordDisagreement i j s else s
  | _, _ => s

/-- The slip test of a sample (R35). -/
def Rmu.slips (t : Lts) (r : Rmu) : Bool :=
  r.slipActive && (r.serving t 2).isSome && decide (((r.dM2 - 2 * r.dSL).natAbs : Int) > 2000 * t.slipLimit)

/-- The RMU at a sample (R18 to R35). -/
def rmuSample (s : State) : State :=
  let t := testDisagreement (s.updRmu (Rmu.sample s.lts))
  causeIf (t.rmu.slips t.lts) .ropeSlip t

/-! ### The line clock and the running timers (R188, assumption 1) -/

/-- A timer, running or idle, after one sample. -/
def tickTimer (t : Option Timer) : Option Timer := t.map (Timer.advance Config.sampleMs)

/-- The line clock, the minute interval and every running timer after one sample. -/
def tick (s : State) : State :=
  { s with
    clock := s.clock + BitVec.ofNat 32 Config.sampleMs
    minuteMs := if s.timeOfDay.isSome then min (s.minuteMs + Config.sampleMs) Config.minuteMs else s.minuteMs
    tsq := { s.tsq with closureTimer := tickTimer s.tsq.closureTimer, consoleTimer := tickTimer s.tsq.consoleTimer }
    srg := { s.srg with warning := tickTimer s.srg.warning }
    obs := { s.obs with
      brakes := ⟨{ s.obs.brakes.sbk with timer := tickTimer s.obs.brakes.sbk.timer },
                 { s.obs.brakes.ebk with timer := tickTimer s.obs.brakes.ebk.timer }⟩ }
    bcu := { s.bcu with batches := s.bcu.batches.mapStation (fun _ b => { b with settle := tickTimer b.settle }) }
    lpu := { s.lpu with
      carLinks := s.lpu.carLinks.mapCar (fun _ l => { l with timer := tickTimer l.timer })
      gateLinks := s.lpu.gateLinks.mapStation (fun _ l => { l with timer := tickTimer l.timer }) } }

/-! ### The sample (R29) -/

/-- The blocks other than the RMU act on the published set: the permitted speed is formed first, since R63 clamps
the reference to it; then the SRG, the OBS, the TSQ and the DRU (assumption 7). -/
def actOnSample (s : State) : State :=
  testDoors (tsqSample (obsSample (srgSample (formPermitted (moveTravel s)))))

/-- MEASUREMENT_SAMPLE (R29). -/
def execMeasurementSample (s : State) : Host.Outcome State Fault Refusal :=
  .next (actOnSample (rmuSample (tick s)))

end Sys2Proof.Machine
end

