-- ==== Sys2Proof/Machine/Doors.lean ====
section
/-! DEFINITION. The Door Release Unit at a car report (chapter 7): contacts, proof of closure, the closure report,
the running check, and the CAR_ORDER. -/

namespace Sys2Proof.Machine

/-- The contacts of one side written (R125). -/
def DoorRecord.contacts (closed locked : Bool) (now : Long) (d : DoorRecord) : DoorRecord :=
  { d with closed := some closed, locked := some locked, reportTime := some now }

/-- The closure rules on one side, its contacts just written (R130). -/
def DoorRecord.closure (d : DoorRecord) : DoorRecord :=
  let shut := decide (d.closed = some true) && decide (d.locked = some true)
  match d.command with
  | .closeOrdered => if shut ∧ 1 ≤ d.orders then { d with command := .holdClosed } else d
  | .holdClosed => if shut then d else { d with command := .closeOrdered, orders := 0 }
  | .released => d

/-- Both sides of a car after its report (R125, R130). -/
def PerSide.reported (r : CarReport) (now : Long) (v : PerSide DoorRecord) : PerSide DoorRecord :=
  ⟨(v.left.contacts (yes r.leftClosed) (yes r.leftLocked) now).closure,
   (v.right.contacts (yes r.rightClosed) (yes r.rightLocked) now).closure⟩

/-- The running check is made: DEPARTING in step BRAKE_RELEASE, RUNNING or ARRIVING (R133). -/
def State.runningCheckOn (s : State) : Bool :=
  s.releasing || decide (s.tsq.state = .running) || decide (s.tsq.state = .arriving)

/-- The running check of a report (R133). -/
def runningCheck (c : Car) (r : CarReport) (s : State) : State :=
  if s.runningCheckOn && (!yes r.leftLocked || !yes r.rightLocked) then
    giveCause .doorUnlockedRunning (.car c) s
  else s

/-- The contacts and closure rules of a report, the all-proven condition and its report (R125, R130, R131). -/
def doorContacts (c : Car) (r : CarReport) (s : State) : State :=
  let t := s.updDru (fun d => d.set c ((d.get c).reported r s.clock))
  if !allProven s.dru && allProven t.dru then closureReport (raise .doorsProvenClosed t) else t

/-- The DRU takes a car report (R125), its running check made in the trip state that the earlier blocks of the report
left: DEDUCED (assumption 31). -/
def druReport (c : Car) (r : CarReport) (s : State) : State := testDoors (runningCheck c r (doorContacts c r s))

/-! ### CAR_ORDER (R134, R135, R129) -/

/-- The payload of a CAR_ORDER as it begins to be sent (Table 7-2, Table 10-4). -/
def carOrderPayload (c : Car) (s : State) : List Byte :=
  let d := s.dru.get c
  Status.ok.encode ++ enc1 s.tsq.state.code ++ encOpt 1 (s.tsq.target.map enc1) ++ enc1 s.travelDirection.code ++
    enc1 d.left.command.code ++ enc1 d.right.command.code ++ encBool s.obs.railBrake

/-- The order sequence of a side when a CAR_ORDER is sent to its car (R129). -/
def DoorRecord.ordered (d : DoorRecord) : DoorRecord :=
  if d.command = .closeOrdered then { d with orders := min (d.orders + 1) Config.maxOrders } else d

/-- The order sequences raised by a CAR_ORDER sent to a car (R129). -/
def countOrder (c : Car) (s : State) : State :=
  s.updDru (fun d => d.set c ((d.get c).map DoorRecord.ordered))

end Sys2Proof.Machine
end

