-- ==== Sys2Proof/Machine/Position.lean ====
section
/-! DEFINITION. The Car Position Tracker at a car report (chapter 3): marker records, homing (R37) and
reconciliation (R44, R45). -/

namespace Sys2Proof.Machine

/-- The signed 24-bit difference of two odometer readings (R41, 00_scope section 5.4). -/
def odoDiff (now at_ : Odo) : Int := (now - at_).toInt

/-- Change one car's CPT record. -/
def State.updCarRecord (s : State) (c : Car) (f : CarRecord → CarRecord) : State :=
  s.updCpt (fun u => { u with cars := u.cars.set c (f (u.cars.get c)) })

/-- The sheave position in mm that a marker report homes to (R37). -/
def homedPosition (t : Lts) (c : Car) (m delta : Int) : Int :=
  match c with
  | .a => m - delta
  | .b => t.lineLength - (m + delta)

/-- The endpoint of a move after a homing: the homed x_s plus the remaining travel (R122), in mm truncated: DEDUCED
(assumption 18). -/
def Move.rehomed (x : Int) (m : Move) : Move :=
  { m with endpoint := some (ahead m.direction x (Int.tdiv m.remaining 2000)) }

/-- A car's last marker set (R43 to R45). -/
def setLastMarker (c : Car) (r : CarReport) (e : Int) (res : MarkerResult) (s : State) : State :=
  s.updCarRecord c (fun u =>
    { u with lastMarker := some { id := r.markerId, odo := r.odoAtMarker, error := e, result := res, time := s.clock } })

/-- Homing: X2 set, the position KNOWN, the step handed to the TSQ, the last marker HOMED (R37, R43 case 4). -/
def home (c : Car) (r : CarReport) (m : Int) (s : State) : State :=
  let x := homedPosition s.lts c m (odoDiff r.odoNow r.odoAtMarker)
  let t := s.updRmu (fun u => { u with x2 := 2000 * x, known := true })
  setLastMarker c r 0 .homed (t.updTsq (fun u => { u with move := u.move.map (Move.rehomed x) }))

/-- The error of a marker record against the offset as it stands (R44). -/
def markerError (c : Car) (r : CarReport) (m : Int) (s : State) : Int :=
  m - (s.estimate c - odoDiff r.odoNow r.odoAtMarker)

/-- Reconciliation (R44, R45). -/
def reconcile (c : Car) (r : CarReport) (m : Int) (s : State) : State :=
  let e := markerError c r m s
  let lim : Int := s.lts.inForce.maxCorr
  let old := (s.cpt.cars.get c).offset
  if (e.natAbs : Int) > s.lts.markerTol then
    setLastMarker c r e .mismatch (giveCause .positionMismatch (.car c) s)
  else
    let new := clampTo lim (old + e)
    let t := setLastMarker c r e (if new = old + e then .accepted else .clamped)
      (s.updCarRecord c (fun u => { u with offset := new }))
    if new = old then t else recomputeTarget t

/-- The record repeats the car's last marker (R43, case 3). -/
def isRepeat (c : Car) (r : CarReport) (s : State) : Bool :=
  match (s.cpt.cars.get c).lastMarker with
  | some l => decide (l.id = r.markerId ∧ l.odo = r.odoAtMarker)
  | none => false

/-- A marker record handled by the first of the five cases of R43 that applies. -/
def takeMarker (c : Car) (r : CarReport) (s : State) : State :=
  if !s.lts.committed then s
  else
    match s.lts.markerPosition r.markerId with
    | none => s
    | some m => if isRepeat c r s then s else if !s.rmu.known then home c r m s else reconcile c r m s

/-- The CPT takes a car report (R40). -/
def cptReport (c : Car) (r : CarReport) (s : State) : State :=
  let t := if yes r.markerPresent then takeMarker c r s else s
  t.updCarRecord c (fun u => { u with lastOdo := some r.odoNow })

end Sys2Proof.Machine
end

