-- ==== Sys2Proof/Machine/Status.lean ====
section
/-! DEFINITION. The STATUS reply (R180): the content of its six sections, byte by byte. -/

namespace Sys2Proof.Machine

/-- An optional field of one byte. -/
def encOptCode (c : Option Nat) : List Byte := encOpt 1 (c.map enc1)

/-- An optional position in mm. -/
def encOptMm (v : Option Int) : List Byte := encOpt 4 (v.map enc4)

/-! ### Section 0, LINE -/

/-- The mark of a halt source (R180): 0 to 7 the call lines, 8 and 9 the car buttons, 10 the console. -/
def HaltSource.mark : HaltSource → Nat
  | .call line _ => line.val
  | .button .a => 8
  | .button .b => 9
  | .console => 10

/-- The marks of an entry's sources. -/
def HaltEntry.marks (e : HaltEntry) : Half := e.sources.foldl (fun m src => m ||| (1#16 <<< src.mark)) 0

/-- One of the six places of the halt entries; an unused place is sent as 0. -/
def encHaltPlace : Option HaltEntry → List Byte
  | some e => enc1 e.stopIndex ++ encHalf e.marks ++ encLong e.time
  | none => List.replicate 7 0

/-- The move of the trip record; its remaining travel in mm is truncated (assumption 18). -/
def Move.encode (m : Move) : List Byte :=
  enc1 m.direction.code ++ enc4 m.distance ++ encBool m.startKnown ++ encOptMm m.endpoint ++
    enc4 (Int.tdiv m.remaining 2000)

/-- Section 0 (R180). -/
def statusLine (s : State) : List Byte :=
  let t := s.tsq
  enc1 t.state.code ++ encOptCode (t.step.map Step.code) ++ encBool t.resume ++ encOptCode (t.phase.map Phase.code) ++
    enc1 t.direction.code ++ encOptCode t.origin ++ encOptCode t.target ++ encOptMm (s.cpt.target.map (·.position)) ++
    enc1 t.mode.code ++ encLong t.lastChange ++ encBool t.silent ++ encOpt 15 (t.move.map Move.encode) ++
    enc1 t.halts.length ++ (List.range 6).flatMap (fun i => encHaltPlace t.halts[i]?) ++ encLong s.clock ++
    encOpt 2 (s.timeOfDay.map (fun m => enc2 m)) ++ encBool s.lts.committed ++ encBool (s.linkUp .p0) ++
    encBool (s.linkUp .p1) ++ encBool (s.linkUp .p2) ++ encBool (s.linkUp .p3) ++ encBool (s.linkUp .p4)

/-! ### Section 1, MEASUREMENT -/

/-- The state, the role and the speed of a channel. -/
def encChannel (s : State) (i : Fin 4) : List Byte :=
  let c := s.rmu.channels.get i
  enc1 c.state.code ++ enc1 (s.lts.role i) ++ enc2 c.vch

/-- STATUS shows d_t and the tracking error (R53). -/
def State.showsTracking (s : State) : Bool :=
  match s.tsq.state with
  | .running | .arriving | .inspecting => true
  | .tripped => s.srg.ctlTarget.isSome
  | .configuring | .outOfService | .stopped | .departing | .stranded => false

/-- The tracking error (R53). -/
def State.trackingError (s : State) : Int :=
  if s.showsTracking then
    clampTo Config.maxSpeed ((s.srg.vRefMm : Int) - travel s.travelDirection s.rmu.vAvg)
  else 0

/-- Section 1 (R180). -/
def statusMeasurement (s : State) : List Byte :=
  let r := s.srg
  encChannel s 0 ++ encChannel s 1 ++ encChannel s 2 ++ encChannel s 3 ++ enc4 s.xs ++ enc2 s.rmu.vSup ++
    enc2 s.rmu.vAvg ++ encBool s.rmu.known ++ encBool s.rmu.twoChannel ++ enc2 r.vRefMm ++ enc2 r.vTgt ++
    encOptCode (r.band.map Fin.val) ++ enc2 r.fRef ++ encBool r.insp ++ encOptCode (r.phase.map Phase.code) ++
    encOptMm (if s.showsTracking then s.targetDistance else none) ++ enc2 s.trackingError ++ enc2 r.active ++
    enc1 r.dir.code ++ encBool r.warn

/-! ### Section 2, CARS -/

/-- A last marker. -/
def MarkerRecord.encode (m : MarkerRecord) : List Byte :=
  [m.id] ++ enc3 m.odo ++ enc4 m.error ++ enc1 m.result.code ++ encLong m.time

/-- An arrival result. -/
def ArrivalRecord.encode (r : ArrivalRecord) : List Byte := enc1 r.result.code ++ enc1 r.stopIndex ++ enc4 r.error

/-- A door-side record. -/
def DoorRecord.encode (d : DoorRecord) : List Byte :=
  enc1 d.command.code ++ encOpt 1 (d.closed.map encBool) ++ encOpt 1 (d.locked.map encBool) ++
    encOpt 4 (d.reportTime.map encLong) ++ enc1 d.orders ++ encBool d.proven

/-- One car. -/
def encCar (s : State) (c : Car) : List Byte :=
  let u := s.cpt.cars.get c
  let l := s.bcu.loads.get c
  let d := s.dru.get c
  enc4 (s.estimate c) ++ enc2 u.offset ++ encOpt 3 (u.lastOdo.map enc3) ++ encOpt 13 (u.lastMarker.map MarkerRecord.encode) ++
    encOpt 6 (u.arrival.map ArrivalRecord.encode) ++ enc1 l.load ++
    encOpt 4 (l.snap.map (fun p => encHalf p.inC ++ encHalf p.outC)) ++ d.left.encode ++ d.right.encode ++
    encBool (s.obs.carFault.get c)

/-- The stop target record. -/
def StopTarget.encode (t : StopTarget) : List Byte := enc1 t.stopIndex ++ enc4 t.position ++ encBool t.frozen

/-- Section 2 (R180). -/
def statusCars (s : State) : List Byte :=
  encCar s .a ++ encCar s .b ++ encOpt 6 (s.cpt.target.map StopTarget.encode)

/-! ### Section 3, SUPERVISION -/

/-- The rollback measure in mm, truncated (assumption 18). -/
def Rollback.millimetres : Rollback → Int
  | .inactive => 0
  | .running rb2 => Int.tdiv rb2 2000
  | .standing st2 => Int.tdiv st2 2000

/-- The command and the proof of a brake. -/
def BrakeRecord.encode (b : BrakeRecord) : List Byte := enc1 b.command.code ++ enc1 b.proof.code

/-- Section 3 (R180, R70: r_e2 in mm is rounded toward minus infinity). -/
def statusSupervision (s : State) : List Byte :=
  let o := s.obs
  encBool o.envelope ++ enc2 o.fSup ++ encBool o.inspSup ++ encOpt 2 (o.aSup.map (fun a => enc2 a)) ++
    enc1 o.direction.code ++ encOptMm o.endpoint ++ enc4 (o.rE2 / 2000) ++ encBool o.ctlStop ++
    encOpt 2 (o.vPerm2.map (fun v => enc2 (isqrt v))) ++ encBool o.excursion ++ encBool s.standstill ++
    enc1 o.rollback.code ++ enc4 o.rollback.millimetres ++ enc1 s.braking.code ++
    encOptCode (o.trippedFrom.map TripState.code) ++ encBool o.stopLatch ++ o.brakes.sbk.encode ++ o.brakes.ebk.encode ++
    enc1 o.brakes.sbk.reading.code ++ enc1 o.brakes.ebk.reading.code ++ encBool o.pfail ++ encBool o.railBrake

/-! ### Section 4, CAUSES -/

/-- A cause list entry. -/
def CauseEntry.encode (e : CauseEntry) : List Byte :=
  enc1 e.kind.code ++ enc1 e.source.code ++ encOptMm e.position ++ enc2 e.speed ++ encLong e.time

/-- Section 4 (R180). -/
def statusCauses (s : State) : List Byte := enc1 s.obs.causes.length ++ s.obs.causes.flatMap CauseEntry.encode

/-! ### Section 5, STATIONS -/

/-- One terminal's batch record. -/
def Batch.encode (b : Batch) : List Byte :=
  enc1 b.state.code ++ enc1 b.passed ++ enc1 b.pending.length ++ enc1 b.pendingPersons ++ enc1 b.carried ++
    enc1 b.boarded ++ enc1 b.lastRef ++ encSettle b.settle ++ enc1 b.recent.length

/-- Section 5 (R180). -/
def statusStations (s : State) : List Byte := s.bcu.batches.lower.encode ++ s.bcu.batches.upper.encode

/-- The content of a section. -/
def statusContent (sect : Byte) (s : State) : List Byte :=
  match sect.toNat with
  | 0 => statusLine s
  | 1 => statusMeasurement s
  | 2 => statusCars s
  | 3 => statusSupervision s
  | 4 => statusCauses s
  | 5 => statusStations s
  | _ => []

/-- The STATUS reply: the section echoed, then its content (Table 10-4). -/
def statusReply (sect : Byte) (s : State) : List Byte := Status.ok.encode ++ [sect] ++ statusContent sect s

end Sys2Proof.Machine
end

