-- ==== Sys2Proof/Machine/Store.lean ====
section
/-! DEFINITION. TABLE_WRITE, TABLE_READ and COMMIT (R190, R191). -/

namespace Sys2Proof.Machine

/-- TABLE_WRITE after the LPU's tests: its reply and its effect (R190). -/
def takeTableWrite (table index presence : Byte) (contents : List Byte) (s : State) : Status × State :=
  if s.tsq.state ≠ .configuring then (.refusedState, s)
  else (.ok, s.updLts (fun l => l.write table.toNat index.toNat (yes presence) contents))

/-- TABLE_READ after the LPU's tests: its reply payload (R190). -/
def tableReadReply (table index : Byte) (s : State) : List Byte :=
  Status.ok.encode ++ s.lts.read table.toNat index.toNat

/-- A channel at a successful COMMIT (Table 2-1, R23). -/
def Channel.atCommit (t : Lts) (i : Fin 4) (c : Channel) : Channel :=
  { c.cleared with
    state := if t.role i ≤ 2 then .inService else .unmapped, edges := 0, c := 0, d := 0 }

/-- The RMU at a successful COMMIT (Table 2-1, R191). -/
def Rmu.atCommit (t : Lts) (r : Rmu) : Rmu :=
  let channels := r.channels.mapIdx (fun i c => c.atCommit t i)
  { r with
    channels := channels, x2 := 0, known := false,
    twoChannel := bothMainsInService t { r with channels := channels },
    pA := 0, p1 := 0, p2 := 0, dM2 := 0, dSL := 0, slipActive := false }

/-- The OBS at a successful COMMIT: fresh proofs of both brakes, the rail brake order cleared (Table 5-1, R92). -/
def Obs.atCommit (t : Lts) (o : Obs) : Obs :=
  { o.atRest with
    rollback := .standing 0
    brakes := ⟨o.brakes.sbk.applied t.tApply.toNat, o.brakes.ebk.raised t.tLift.toNat⟩
    railBrake := false }

/-- A batch at a successful COMMIT (Table 8-1). -/
def Batch.atCommit (b : Batch) : Batch :=
  { b with passed := 0, pending := [], lastRef := 0, recent := [], settle := none, carried := 0, boarded := 0 }

/-- The tables at a successful COMMIT: committed, the hit counters 0, four values in force (R3, R162, R190). -/
def Lts.atCommit (t : Lts) : Lts := { t.clearHits with committed := true, inForce := t.valuesAtCommit }

/-- The effect of a COMMIT whose checks all pass (R191, R85). -/
def commitTables (s : State) : State :=
  let t := (s.updLts Lts.atCommit).updRmu (Rmu.atCommit s.lts)
  let t := t.updCpt (fun _ => { cars := ⟨resetCarRecord, resetCarRecord⟩, target := none })
  let t := (t.updSrg Srg.atRest).updObs (Obs.atCommit s.lts)
  let t := t.updBcu (fun u => { u with batches := u.batches.mapStation (fun _ b => b.atCommit) })
  let t := changeTrip .outOfService none (t.updTsq (Tsq.atRest .inspection))
  let t := raise .configCommitted t
  if t.obs.pfail then giveCause .powerFail .linePfail t else t

/-- COMMIT: its reply and its effect (R191, R11). -/
def takeCommit (s : State) : Status × State :=
  if s.tsq.state ≠ .configuring then (.refusedState, s)
  else
    match s.lts.validate with
    | some (table, index) => (.validationFailed table index, s)
    | none => (.ok, commitTables s)

end Sys2Proof.Machine
end

