-- ==== Sys2Proof/Machine/Tickets.lean ====
section
/-! DEFINITION. The Ticket Classifier (chapter 9): the key, the range checkers, the two-stage match, the overriding
checks and the VERDICT. -/

namespace Sys2Proof.Machine

/-! ### The key (R157 to R161) -/

/-- The key matched against the rule table (Table 9-2); enumerated fields as codes of Table 10-5. -/
structure Key where
  stage          : Nat
  link           : Byte
  station        : Nat
  gate           : Byte
  kindClass      : Byte
  product        : Half
  concession     : Byte
  groupSize      : Byte
  ridesFlag      : Nat
  directionMatch : Nat
  range          : Byte
  lineMode       : Nat
  batchState     : Nat
  fillLevel      : Nat
  deriving DecidableEq, Repr

/-- A TICKET argument is outside its values (R155). -/
def ticketArgumentsBad (t : Ticket) : Bool :=
  decide (7 < t.gate.toNat) || decide (15 < t.kindClass.toNat) || decide (4095 < t.product.toNat) ||
    decide (7 < t.concession.toNat) || decide (t.groupSize.toNat = 0) || decide (15 < t.groupSize.toNat) ||
    decide (1023 < t.days.toNat) || decide (2 < t.bought.toNat)

/-- The rides flag: NONE_LEFT 0, SOME 1, UNLIMITED 2 (R157). -/
def ridesFlagOf (rides : Byte) : Nat := if rides.toNat = 0 then 0 else if rides.toNat = 255 then 2 else 1

/-- The direction match: MATCH 0, MISMATCH 1, ANY_TICKET 2 (R157). -/
def directionMatchOf (st : Station) (bought : Byte) : Nat :=
  if bought.toNat = 2 then 2 else if bought.toNat = (departureDirection st).code then 0 else 1

/-- The fill level: BELOW_HALF 0, TO_90 1, ABOVE_90 2 (R158). -/
def fillLevelOf (count capacity : Nat) : Nat :=
  if 10 * count > 9 * capacity then 2 else if 2 * count < capacity then 0 else 1

/-- The stage-1 link of a station's link default (R159); a stored default that is none of the three gives the free
value of assumption 9. -/
def stage1Link (stored : Long) (st : Station) (gate : Byte) : Byte :=
  if stored = 0 then 0
  else if stored = 1 then gate
  else if stored = 2 then BitVec.ofNat 8 st.code
  else Config.linkOfUndefinedDefault stored gate

/-- The value a range checker's source gives (R160); none for an unset time of day or an undefined source. -/
def sourceValue (source : Byte) (t : Ticket) (count : Nat) (tod : Option Nat) : Option Nat :=
  match source.toNat with
  | 0 => tod
  | 1 => some t.product.toNat
  | 2 => some t.groupSize.toNat
  | 3 => some t.rides.toNat
  | 4 => some t.days.toNat
  | 5 => some count
  | 6 => some t.concession.toNat
  | _ => none

/-- Mark k of the range mask (R161). -/
def rangeMark (e : Slot RangeEntry) (t : Ticket) (count : Nat) (tod : Option Nat) : Bool :=
  match sourceValue e.val.source t count tod with
  | some v => e.valid && decide (e.val.low.toNat ≤ v ∧ v ≤ e.val.high.toNat)
  | none => false

/-- The range mask: 8 marks, mark k in bit k (R161). -/
def rangeMask (lts : Lts) (t : Ticket) (count : Nat) (tod : Option Nat) : Byte :=
  BitVec.ofBoolListLE ((lts.ranges.toList.map (fun e => rangeMark e t count tod)).take 8) |>.setWidth 8

/-- The stage-1 key of a ticket (R157 to R161). -/
def stage1Key (st : Station) (t : Ticket) (s : State) : Key :=
  let b := s.bcu.batches.get st
  { stage := 1, link := stage1Link (s.lts.linkDefault st) st t.gate, station := st.code, gate := t.gate,
    kindClass := t.kindClass, product := t.product, concession := t.concession, groupSize := t.groupSize,
    ridesFlag := ridesFlagOf t.rides, directionMatch := directionMatchOf st t.bought,
    range := rangeMask s.lts t b.platformCount s.timeOfDay, lineMode := s.tsq.mode.code,
    batchState := b.state.code, fillLevel := fillLevelOf b.platformCount s.capacity }

/-! ### Matching (R163, R164) -/

/-- A masked byte field agrees at every position set in the mask (R163). -/
def Masked.agrees (m : Masked) (v : Byte) : Bool := decide (v &&& m.mask = m.value &&& m.mask)

def MaskedHalf.agrees (m : MaskedHalf) (v : Half) : Bool := decide (v &&& m.mask = m.value &&& m.mask)

/-- An enumerated field agrees, or is not cared for; a care flag other than 0 is taken as set (R163). -/
def Cared.agrees (c : Cared) (v : Nat) : Bool := decide (c.care = 0) || decide (c.value.toNat = v)

/-- A rule entry's contents match a key (R163). -/
def RuleEntry.agrees (r : RuleEntry) (k : Key) : Bool :=
  decide (r.stage.toNat = k.stage) && r.link.agrees k.link && r.gate.agrees k.gate && r.kindClass.agrees k.kindClass &&
    r.product.agrees k.product && r.concession.agrees k.concession && r.groupSize.agrees k.groupSize &&
    r.range.agrees k.range && r.station.agrees k.station && r.ridesFlag.agrees k.ridesFlag &&
    r.directionMatch.agrees k.directionMatch && r.lineMode.agrees k.lineMode && r.batchState.agrees k.batchState &&
    r.fillLevel.agrees k.fillLevel

/-- The first match of a list of rule entries, counted from an index: the search from index 0 upward (R163). -/
def searchRules (k : Key) : Nat → List RuleSlot → Option (Nat × RuleEntry)
  | _, [] => none
  | i, e :: rest => if e.slot.valid && e.slot.val.agrees k then some (i, e.slot.val) else searchRules k (i + 1) rest

/-- The match at a stage: the lowest-index valid entry that matches the key (R163). -/
def matchRule (lts : Lts) (k : Key) : Option (Nat × RuleEntry) := searchRules k 0 lts.rules.toList

/-- Action kind CONTINUE, code 1; a code beyond the list is taken as FINAL (R164). -/
def RuleEntry.continues (r : RuleEntry) : Bool := decide (r.actionKind.toNat = 1)

/-- What a classification finds: the indices reached and the deciding entry (R164). -/
structure Match where
  stage1  : Option Nat
  stage2  : Option Nat
  decides : Option RuleEntry
  deriving DecidableEq, Repr

/-- The two-stage match (R164). -/
def classify (lts : Lts) (k : Key) : Match :=
  match matchRule lts k with
  | none => ⟨none, none, none⟩
  | some (i, r) =>
    if r.continues then
      match matchRule lts { k with stage := 2, link := r.linkValue } with
      | none => ⟨some i, none, none⟩
      | some (j, r2) => ⟨some i, some j, if r2.continues then none else some r2⟩
    else ⟨some i, none, some r⟩

/-- One more hit of a rule entry, up to 65,535 (R165). -/
def Lts.countHit (t : Lts) : Option Nat → Lts
  | none => t
  | some i =>
    match t.rules[i]? with
    | some e => { t with rules := t.rules.setIfInBounds i { e with hits := min (e.hits + 1) Config.maxHits } }
    | none => t

/-! ### From action to verdict (R166 to R170) -/

/-- Outcome of a ticket (Table 9-4). -/
inductive Decision where
  | letIn | refer | deny
  deriving DecidableEq, Repr

def Decision.code : Decision → Nat
  | .letIn => 0 | .refer => 1 | .deny => 2

/-- Part reason codes (Table 10-5). -/
def reasonNone : Nat := 0
def reasonNoRule : Nat := 1
def reasonLineHalted : Nat := 2
def reasonDeparting : Nat := 3
def reasonPassback : Nat := 4
def reasonFull : Nat := 5
def reasonBusy : Nat := 6

/-- The rule outcome; a code beyond the list is taken as DENY (R164). -/
def RuleEntry.decision (r : RuleEntry) : Decision :=
  match r.outcome.toNat with
  | 0 => .letIn
  | 1 => .refer
  | _ => .deny

/-- The persons of a classification: FROM_TICKET (code 0) or the fixed number (R166). -/
def RuleEntry.personsFor (r : RuleEntry) (t : Ticket) : Nat :=
  if r.persons.toNat = 0 then t.groupSize.toNat else r.persons.toNat

/-- The passback test (R168). -/
def passbackFound (lts : Lts) (now : Long) (serial : Long) (b : Batch) : Bool :=
  b.recent.any (fun e =>
    decide (e.serial = serial) && decide (((now - e.time).toNat : Int) < lts.passbackTime * 60000))

/-- The overriding checks, in their order; the part reason of the first that fails (R167). -/
def denialReason (r : RuleEntry) (t : Ticket) (b : Batch) (s : State) : Option Nat :=
  if b.state = .suspended then some reasonLineHalted
  else if b.state = .closing ∨ b.state = .closed then some reasonDeparting
  else if passbackFound s.lts s.clock t.serial b && !yes r.passbackExempt then some reasonPassback
  else if s.capacity < b.platformCount + r.personsFor t then some reasonFull
  else if Config.pendingDepth ≤ b.pending.length then some reasonBusy
  else none

/-- What a verdict carries of its decision (Table 9-4). -/
structure Verdict where
  decision  : Decision
  reason    : Nat
  reference : Nat
  persons   : Nat
  deduct    : Bool
  deriving DecidableEq, Repr

/-- The verdict of a classification, and the batch after it (R166, R167, R169). -/
def judge (st : Station) (t : Ticket) (m : Match) (s : State) : Verdict × Batch :=
  let b := s.bcu.batches.get st
  match m.decides with
  | none => (⟨.deny, reasonNoRule, 0, 0, false⟩, b)
  | some r =>
    match r.decision with
    | .deny => (⟨.deny, reasonNone, 0, 0, false⟩, b)
    | .refer => (⟨.refer, reasonNone, 0, 0, false⟩, b)
    | .letIn =>
      match denialReason r t b s with
      | some why => (⟨.deny, why, 0, 0, false⟩, b)
      | none =>
        (⟨.letIn, reasonNone, b.issue, r.personsFor t, yes r.deductRide⟩,
          b.taken t.gate.toNat (r.personsFor t) t.serial s.clock)

/-- The VERDICT reply (R170, Table 10-4). -/
def verdictReply (v : Verdict) (m : Match) (b : Batch) : List Byte :=
  Status.ok.encode ++ enc1 v.decision.code ++ enc1 v.reason ++
    [(m.decides.map (·.reasonCode)).getD 0, (m.decides.map (·.displayCode)).getD 0] ++ enc1 v.reference ++
    enc1 v.persons ++ encBool v.deduct ++ encOpt 1 (m.stage1.map enc1) ++ encOpt 1 (m.stage2.map enc1) ++
    enc1 b.state.code ++ enc1 b.platformCount

/-- A TICKET classified whole at a terminal (R155, R156): the reply payload and the state after. -/
def takeTicket (st : Station) (t : Ticket) (s : State) : List Byte × State :=
  if ticketArgumentsBad t then (Status.badArgument.encode, s)
  else
    let m := classify s.lts (stage1Key st t s)
    let (v, b) := judge st t m s
    let s' := setBatch st b (s.updLts (fun l => (l.countHit m.stage1).countHit m.stage2))
    (verdictReply v m b, s')

end Sys2Proof.Machine
end

