-- ==== Sys2Proof/Machine/Ports.lean ====
section
/-! DEFINITION. The Link Port Unit (chapter 10): the receivers, the receive queues, the tests and the taking of a
request, the replies, and the byte-level commands. -/

namespace Sys2Proof.Machine

/-! ### Owners of the requests (R176, R179) -/

/-- The OBS takes a car report: the fault flag kept, and CAR_FAULT given while it is set (R85). -/
def obsReport (c : Car) (r : CarReport) (s : State) : State :=
  let t := s.updObs (fun o => { o with carFault := o.carFault.set c (yes r.faultFlag) })
  if yes r.faultFlag then giveCause .carFault (.car c) t else t

/-- A CAR_REPORT taken whole: the link, then the CPT, the BCU, the TSQ, the OBS and the DRU (R179, R185). -/
def takeCarReport (c : Car) (r : CarReport) (s : State) : State :=
  druReport c r (obsReport c r (tsqReport c r (bcuReport c r (cptReport c r (carHeard c s)))))

/-- EVENTS: the set copied into the reply and emptied (R183). -/
def takeEvents (p : PortId) (s : State) : List Byte × State :=
  (Status.ok.encode ++ encHalf (s.lpu.ports.get p).events, s.updPort p (fun r => { r with events := 0 }))

/-- SUBSCRIBE: the subscription replaced, and the kinds it does not hold removed from the event set (R183). -/
def takeSubscribe (p : PortId) (kinds : Half) (s : State) : State :=
  s.updPort p (fun r => { r with subs := kinds, events := r.events &&& kinds })

/-- A status, and its state, as a reply. -/
def plain (x : Status × State) : ReplyBody × State := (.fixed x.1.encode, x.2)

/-- A reply payload, and its state. -/
def full (x : List Byte × State) : ReplyBody × State := (.fixed x.1, x.2)

/-- WRONG_PORT; unreachable where a request has passed the tests of R176. -/
def wrongPort (s : State) : ReplyBody × State := plain (.wrongPort, s)

/-- A request that has passed the tests of R176, handed to its owner. -/
def dispatch (p : PortId) (r : Request) (s : State) : ReplyBody × State :=
  match r with
  | .status sect => full (statusReply sect s, s)
  | .events => full (takeEvents p s)
  | .subscribe kinds => plain (.ok, takeSubscribe p kinds s)
  | .start d => plain (takeStart d s)
  | .resume => plain (takeResume s)
  | .stop => plain (takeDemand .stopDemand p s)
  | .emergency => plain (takeDemand .emergencyDemand p s)
  | .acknowledge => plain (takeAcknowledge s)
  | .mode m => plain (takeMode m s)
  | .serviceOn => plain (takeServiceOn s)
  | .serviceOff => plain (takeServiceOff s)
  | .timeSet minutes => plain (takeTimeSet minutes.toNat s)
  | .haltCall k => plain (haltRequest k.toNat .console s)
  | .haltCancel k => plain (takeHaltCancel k.toNat s)
  | .inspectMove d dist => plain (takeInspectMove d dist s)
  | .channelService ch a => plain (takeChannelService ch a s)
  | .tableWrite t i pr contents => plain (takeTableWrite t i pr contents s)
  | .tableRead t i => full (tableReadReply t i s, s)
  | .commit => plain (takeCommit s)
  | .carReport rep =>
    match p.car with
    | some c => (.carOrder c, takeCarReport c rep s)
    | none => wrongPort s
  | .ticket tk =>
    match p.station with
    | some st => full (takeTicket st tk s)
    | none => wrongPort s
  | .passage g ref n =>
    match p.station with
    | some st => full (takePassage st g.toNat ref.toNat n.toNat s)
    | none => wrongPort s
  | .stationStatus =>
    match p.station with
    | some st => full (stationStatusReply st s, s)
    | none => wrongPort s

/-! ### The taking of a request (R175, R176) -/

/-- A valid frame taken on a port restarts the console timer (R123) or its gate link timer (R186). -/
def portHeard (p : PortId) (s : State) : State :=
  match p with
  | .p0 => consoleHeard s
  | .p3 => gateHeard .lower s
  | .p4 => gateHeard .upper s
  | .p1 | .p2 => s

/-- The tests of R176 in their order, then the owner. `parsed` is the request that the payload spells. The frame is
heard first, on P0 too (R123): DESIGN CHOICE (assumption 40). -/
def takeTested (p : PortId) (kind : Nat) (parsed : Option Request) (s : State) : ReplyBody × State :=
  let t := portHeard p s
  if !knownKind kind then plain (.unknownKind, t)
  else if !permitted p kind then plain (.wrongPort, t)
  else
    match parsed with
    | none => plain (.badArgument, t)
    | some r => if encodingOk r then dispatch p r t else plain (.badArgument, t)

/-- A frame taken (R175). -/
def takeFrame (p : PortId) (kind : Byte) (payload : List Byte) (s : State) : ReplyBody × State :=
  takeTested p kind.toNat (parseRequest kind.toNat payload) s

/-! ### Replies (R177) -/

/-- The KIND of the reply to a request kind (Table 10-1). -/
def replyKind (kind : Byte) : Byte := kind + 128

/-- A reply begins to be sent; a CAR_ORDER is formed at this moment (R177, R135, R129). -/
def sendReply (p : PortId) (kind : Byte) (body : ReplyBody) (s : State) : State :=
  match body with
  | .fixed payload => s.updPort p (fun r => { r with tx := some ⟨replyKind kind, payload⟩ })
  | .carOrder c =>
    countOrder c (s.updPort p (fun r => { r with tx := some ⟨replyKind kind, carOrderPayload c s⟩ }))

/-- The oldest entry taken, if it has not been (R175). -/
def takeOldest (p : PortId) (s : State) : State :=
  match (s.lpu.ports.get p).queue with
  | ⟨kind, payload, none⟩ :: _ =>
    let x := takeFrame p kind payload s
    x.2.updPort p (fun r => { r with queue := ⟨kind, payload, some x.1⟩ :: r.queue.tail })
  | _ => s

/-- The reply of the oldest entry, taken, begins when the transmitter is idle, and the entry leaves the queue
(R177). -/
def beginReply (p : PortId) (s : State) : State :=
  match (s.lpu.ports.get p).tx, (s.lpu.ports.get p).queue with
  | none, ⟨kind, _, some body⟩ :: rest =>
    sendReply p kind body (s.updPort p (fun r => { r with queue := rest }))
  | _, _ => s

/-- What a port can do at once: take its oldest entry, begin its reply, take the next (R175, R177). -/
def servePort (p : PortId) (s : State) : State := takeOldest p (beginReply p (takeOldest p s))

/-- A valid frame completes: it joins the queue, or is discarded when two entries wait (R175). -/
def joinFrame (p : PortId) (kind : Byte) (payload : List Byte) (s : State) : State :=
  if (s.lpu.ports.get p).queue.length < Config.queueDepth then
    servePort p (s.updPort p (fun r => { r with queue := r.queue ++ [⟨kind, payload, none⟩] }))
  else s

/-- The reply being sent ends (R177). -/
def endReply (p : PortId) (s : State) : State := servePort p (s.updPort p (fun r => { r with tx := none }))

/-- The earlier replies of a port end, and the entries waiting are taken and answered (R175: requests are taken in
the order in which their frames completed). At most one reply is being sent and two entries wait. -/
def finishReplies (p : PortId) (s : State) : State := endReply p (endReply p (endReply p s))

/-- A row that is a request of Table 10-3: that request, sent as a valid frame on the port, is taken, and its reply
begins (assumption 3). -/
def takeRow (p : PortId) (r : Request) (s : State) : State :=
  let x := takeTested p r.kind (some r) (finishReplies p s)
  sendReply p (BitVec.ofNat 8 r.kind) x.1 x.2

/-! ### Receivers (R172 to R175) -/

/-- The receiver of a port set HUNTING, whatever it had collected (R172, R173). -/
def hunt (p : PortId) (s : State) : State := s.updPort p (fun r => { r with rx := .hunting })

/-- A frame whose bytes after LEN are all there: KIND, payload and CHECK (R173). -/
def completeFrame (p : PortId) (len : Nat) (bytes : List Byte) (s : State) : State :=
  let t := hunt p s
  match bytes.take len, bytes.drop len with
  | kind :: payload, [hi, lo] =>
    if crc16 (BitVec.ofNat 8 len :: kind :: payload) = half hi lo then joinFrame p kind payload t else t
  | _, _ => t

/-- A byte taken by a receiver (R173). -/
def receive (p : PortId) (b : Byte) (s : State) : State :=
  let r := s.lpu.ports.get p
  if r.lineLow then s
  else
    match r.rx with
    | .hunting => if b = 0xC3 then s.updPort p (fun r => { r with rx := .awaitLen }) else s
    | .awaitLen =>
      if b.toNat = 0 ∨ 250 < b.toNat then hunt p s
      else s.updPort p (fun r => { r with rx := .collecting b.toNat [] })
    | .collecting len bytes =>
      if bytes.length = len + 1 then completeFrame p len (bytes ++ [b]) s
      else s.updPort p (fun r => { r with rx := .collecting len (bytes ++ [b]) })

/-- The receiver awaits the last CHECK byte. -/
def PortRecord.awaitsLast (r : PortRecord) : Bool :=
  match r.rx with
  | .collecting len bytes => !r.lineLow && decide (bytes.length = len + 1)
  | .hunting | .awaitLen => false

/-- FRAME_COMPLETE (R175): the byte given is the last CHECK byte of the frame being received. -/
def execFrameComplete (p : PortId) (lastCheck : Byte) (s : State) : Host.Outcome State Fault Refusal :=
  .next (if (s.lpu.ports.get p).awaitsLast then receive p lastCheck s else s)

/-- FRAME_GAP (R173). -/
def execFrameGap (p : PortId) (s : State) : Host.Outcome State Fault Refusal := .next (hunt p s)

/-- FRAMING_ERROR (R172). -/
def execFramingError (p : PortId) (s : State) : Host.Outcome State Fault Refusal := .next (hunt p s)

/-- BREAK (R174). -/
def execBreak (p : PortId) (s : State) : Host.Outcome State Fault Refusal :=
  .next (s.updPort p (fun r =>
    { r with rx := .hunting, lineLow := true, queue := r.queue.filter (fun e => e.reply.isSome) }))

/-- REPLY_END (R177). -/
def execReplyEnd (p : PortId) (s : State) : Host.Outcome State Fault Refusal := .next (endReply p s)

/-- RECEIVED_BYTE (R173). -/
def execReceivedByte (p : PortId) (data : Byte) (s : State) : Host.Outcome State Fault Refusal :=
  .next (receive p data s)

/-- LINE_RETURNED_HIGH (R174). -/
def execLineReturnedHigh (p : PortId) (s : State) : Host.Outcome State Fault Refusal :=
  .next (s.updPort p (fun r => { r with lineLow := false }))

end Sys2Proof.Machine
end

