-- ==== Sys2Proof/Machine/Requests.lean ====
section
/-! DEFINITION. The rows that are requests of Table 10-3: each is that request taken on the port given, its effect
that of its owner (`dispatch`), its reply begun. -/

namespace Sys2Proof.Machine

/-- STATUS (R180). -/
def execStatus (p : PortId) (sect : Byte) (s : State) : Host.Outcome State Fault Refusal :=
  .next (takeRow p (.status sect) s)

/-- EVENTS (R183). -/
def execEvents (p : PortId) (s : State) : Host.Outcome State Fault Refusal := .next (takeRow p .events s)

/-- SUBSCRIBE (R183). -/
def execSubscribe (p : PortId) (kinds : Half) (s : State) : Host.Outcome State Fault Refusal :=
  .next (takeRow p (.subscribe kinds) s)

/-- START (R105). -/
def execStart (p : PortId) (direction : Byte) (s : State) : Host.Outcome State Fault Refusal :=
  .next (takeRow p (.start direction) s)

/-- RESUME (R106). -/
def execResume (p : PortId) (s : State) : Host.Outcome State Fault Refusal := .next (takeRow p .resume s)

/-- STOP (R113). -/
def execStop (p : PortId) (s : State) : Host.Outcome State Fault Refusal := .next (takeRow p .stop s)

/-- EMERGENCY (R113). -/
def execEmergency (p : PortId) (s : State) : Host.Outcome State Fault Refusal := .next (takeRow p .emergency s)

/-- ACKNOWLEDGE (R97). -/
def execAcknowledge (p : PortId) (s : State) : Host.Outcome State Fault Refusal := .next (takeRow p .acknowledge s)

/-- MODE (R101). -/
def execMode (p : PortId) (lineMode : Byte) (s : State) : Host.Outcome State Fault Refusal :=
  .next (takeRow p (.mode lineMode) s)

/-- MODE_CONFIG (R189): MODE with the code of CONFIG. -/
def execModeConfig (p : PortId) (s : State) : Host.Outcome State Fault Refusal := .next (takeRow p (.mode 3) s)

/-- SERVICE_ON (R102). -/
def execServiceOn (p : PortId) (s : State) : Host.Outcome State Fault Refusal := .next (takeRow p .serviceOn s)

/-- SERVICE_OFF (R103). -/
def execServiceOff (p : PortId) (s : State) : Host.Outcome State Fault Refusal := .next (takeRow p .serviceOff s)

/-- TIME_SET (R188). -/
def execTimeSet (p : PortId) (minutes : Half) (s : State) : Host.Outcome State Fault Refusal :=
  .next (takeRow p (.timeSet minutes) s)

/-- HALT_CALL (R109). -/
def execHaltCall (p : PortId) (stopIndex : Byte) (s : State) : Host.Outcome State Fault Refusal :=
  .next (takeRow p (.haltCall stopIndex) s)

/-- HALT_CANCEL (R112). -/
def execHaltCancel (p : PortId) (stopIndex : Byte) (s : State) : Host.Outcome State Fault Refusal :=
  .next (takeRow p (.haltCancel stopIndex) s)

/-- INSPECT_MOVE (R121). -/
def execInspectMove (p : PortId) (direction : Byte) (distance : Long) (s : State) :
    Host.Outcome State Fault Refusal :=
  .next (takeRow p (.inspectMove direction distance) s)

/-- CHANNEL_SERVICE_REMOVE (R25): action REMOVE, code 0. -/
def execChannelServiceRemove (p : PortId) (channel : Byte) (s : State) : Host.Outcome State Fault Refusal :=
  .next (takeRow p (.channelService channel 0) s)

/-- CHANNEL_SERVICE_RESTORE (R25): action RESTORE, code 1. -/
def execChannelServiceRestore (p : PortId) (channel : Byte) (s : State) : Host.Outcome State Fault Refusal :=
  .next (takeRow p (.channelService channel 1) s)

/-- TABLE_WRITE (R190). -/
def execTableWrite (p : PortId) (table index presence : Byte) (contents : List Byte) (s : State) :
    Host.Outcome State Fault Refusal :=
  .next (takeRow p (.tableWrite table index presence contents) s)

/-- TABLE_READ (R190). -/
def execTableRead (p : PortId) (table index : Byte) (s : State) : Host.Outcome State Fault Refusal :=
  .next (takeRow p (.tableRead table index) s)

/-- COMMIT (R191). -/
def execCommit (p : PortId) (s : State) : Host.Outcome State Fault Refusal := .next (takeRow p .commit s)

/-- CAR_REPORT (R179). -/
def execCarReport (p : PortId) (report : CarReport) (s : State) : Host.Outcome State Fault Refusal :=
  .next (takeRow p (.carReport report) s)

/-- TICKET (R156). -/
def execTicket (p : PortId) (tk : Ticket) (s : State) : Host.Outcome State Fault Refusal :=
  .next (takeRow p (.ticket tk) s)

/-- PASSAGE (R149). -/
def execPassage (p : PortId) (gate reference persons : Byte) (s : State) : Host.Outcome State Fault Refusal :=
  .next (takeRow p (.passage gate reference persons) s)

/-- STATION_STATUS (R154). -/
def execStationStatus (p : PortId) (s : State) : Host.Outcome State Fault Refusal :=
  .next (takeRow p .stationStatus s)

end Sys2Proof.Machine
end

