-- ==== Sys2Proof/Machine/Dispatch.lean ====
section
/-! DEFINITION. One arm per command: its meaning, on everything but the queue of commands. -/

namespace Sys2Proof.Machine

def exec (i : Instr) (s : State) : Host.Outcome State Fault Refusal :=
  match i with
  | .powerOnReset => Sys2Proof.Machine.execPowerOnReset s
  | .encoderEdge channel before after => Sys2Proof.Machine.execEncoderEdge channel before after s
  | .measurementSample => Sys2Proof.Machine.execMeasurementSample s
  | .demPeriod => Sys2Proof.Machine.execDemPeriod s
  | .dirPendingChange => Sys2Proof.Machine.execDirPendingChange s
  | .warnToggle => Sys2Proof.Machine.execWarnToggle s
  | .warningEnd => Sys2Proof.Machine.execWarningEnd s
  | .settleExpiry station => Sys2Proof.Machine.execSettleExpiry station s
  | .closureTimerExpiry => Sys2Proof.Machine.execClosureTimerExpiry s
  | .applyProofTimeout brake => Sys2Proof.Machine.execApplyProofTimeout brake s
  | .liftProofTimeout brake => Sys2Proof.Machine.execLiftProofTimeout brake s
  | .brakeFeedbackChange brake reading => Sys2Proof.Machine.execBrakeFeedbackChange brake reading s
  | .pfailChange active => Sys2Proof.Machine.execPfailChange active s
  | .callLineChange line active => Sys2Proof.Machine.execCallLineChange line active s
  | .timeOfDayAdvance => Sys2Proof.Machine.execTimeOfDayAdvance s
  | .consoleTimeout => Sys2Proof.Machine.execConsoleTimeout s
  | .carLinkTimeout car => Sys2Proof.Machine.execCarLinkTimeout car s
  | .gateLinkTimeout station => Sys2Proof.Machine.execGateLinkTimeout station s
  | .frameComplete port lastCheck => Sys2Proof.Machine.execFrameComplete port lastCheck s
  | .frameGap port => Sys2Proof.Machine.execFrameGap port s
  | .framingError port => Sys2Proof.Machine.execFramingError port s
  | .breakDetected port => Sys2Proof.Machine.execBreak port s
  | .replyEnd port => Sys2Proof.Machine.execReplyEnd port s
  | .status port sect => Sys2Proof.Machine.execStatus port sect s
  | .events port => Sys2Proof.Machine.execEvents port s
  | .subscribe port kinds => Sys2Proof.Machine.execSubscribe port kinds s
  | .start port direction => Sys2Proof.Machine.execStart port direction s
  | .resume port => Sys2Proof.Machine.execResume port s
  | .stop port => Sys2Proof.Machine.execStop port s
  | .emergency port => Sys2Proof.Machine.execEmergency port s
  | .acknowledge port => Sys2Proof.Machine.execAcknowledge port s
  | .mode port lineMode => Sys2Proof.Machine.execMode port lineMode s
  | .modeConfig port => Sys2Proof.Machine.execModeConfig port s
  | .serviceOn port => Sys2Proof.Machine.execServiceOn port s
  | .serviceOff port => Sys2Proof.Machine.execServiceOff port s
  | .timeSet port minutes => Sys2Proof.Machine.execTimeSet port minutes s
  | .haltCall port stopIndex => Sys2Proof.Machine.execHaltCall port stopIndex s
  | .haltCancel port stopIndex => Sys2Proof.Machine.execHaltCancel port stopIndex s
  | .inspectMove port direction distance => Sys2Proof.Machine.execInspectMove port direction distance s
  | .channelServiceRemove port channel => Sys2Proof.Machine.execChannelServiceRemove port channel s
  | .channelServiceRestore port channel => Sys2Proof.Machine.execChannelServiceRestore port channel s
  | .tableWrite port table index presence contents => Sys2Proof.Machine.execTableWrite port table index presence contents s
  | .tableRead port table index => Sys2Proof.Machine.execTableRead port table index s
  | .commit port => Sys2Proof.Machine.execCommit port s
  | .carReport port report => Sys2Proof.Machine.execCarReport port report s
  | .ticket port tk => Sys2Proof.Machine.execTicket port tk s
  | .passage port gate reference persons => Sys2Proof.Machine.execPassage port gate reference persons s
  | .stationStatus port => Sys2Proof.Machine.execStationStatus port s
  | .receivedByte port data => Sys2Proof.Machine.execReceivedByte port data s
  | .lineReturnedHigh port => Sys2Proof.Machine.execLineReturnedHigh port s

end Sys2Proof.Machine
end

