-- ==== Sys2Proof/Safety.lean ====
section
/-! DEFINITION. What counts as a safe state: the laws that the spec lays down for the part, each as a predicate; and
the vocabulary of the statements (replies, events, frames). No command's meaning uses a word of this file. -/

namespace Sys2Proof.Machine

/-! ### Words of the statements -/

/-- The LPU but for what waits in the event sets. -/
def Lpu.sansEvents (l : Lpu) : Lpu := { l with ports := l.ports.mapPort (fun _ r => { r with events := 0 }) }

/-- The state with the reply to a request kind begun on a port (R177). -/
def State.answered (s : State) (p : PortId) (kind : Nat) (payload : List Byte) : State :=
  s.updPort p (fun r => { r with tx := some ⟨BitVec.ofNat 8 (kind + 128), payload⟩ })

/-- The set of a list of event kinds (R182). -/
def eventMask : List EventKind → Half
  | [] => 0
  | e :: rest => e.bit ||| eventMask rest

/-- The state with event kinds raised on the ports of a scope: each joins the event sets of the ports that are
subscribed to it (R182). -/
def State.raisingOn (s : State) (scope : PortId → Bool) (es : List EventKind) : State :=
  s.updLpu (fun l =>
    { l with ports := l.ports.mapPort (fun p r =>
        if scope p then { r with events := r.events ||| (eventMask es &&& r.subs) } else r) })

/-- The state with event kinds raised on every port. -/
def State.raising (s : State) (es : List EventKind) : State := s.raisingOn (fun _ => true) es

/-- The state with the event of a port's link raised: on every other port (R182). -/
def State.raisingLink (s : State) (changed : PortId) (e : EventKind) : State :=
  s.raisingOn (fun p => decide (p ≠ changed)) [e]

/-- An event kind that is raised where a condition holds. -/
def eventIf (cond : Bool) (e : EventKind) : List EventKind := if cond then [e] else []

/-- The state in which a request row on a port is taken: the replies that wait have ended (R175, R177), and the
valid frame has been heard (R123, R186). -/
def State.ready (s : State) (p : PortId) : State := portHeard p (finishReplies p s)

/-- The clocks, the model's counter and the queue of commands are as they were. -/
def SameClocks (s t : State) : Prop :=
  t.clock = s.clock ∧ t.timeOfDay = s.timeOfDay ∧ t.minuteMs = s.minuteMs ∧ t.freeIndex = s.freeIndex ∧
    t.pending = s.pending

/-- The forward edges of a quadrature pair, input A leading input B (R18): before, after. -/
def forwardEdges : List (QuadPair × QuadPair) :=
  [(⟨false, false⟩, ⟨true, false⟩), (⟨true, false⟩, ⟨true, true⟩), (⟨true, true⟩, ⟨false, true⟩),
   (⟨false, true⟩, ⟨false, false⟩)]

/-- A port takes the bytes of a list in turn, each as a RECEIVED_BYTE. -/
def State.hears (p : PortId) : List Byte → State → State
  | [], s => s
  | b :: rest, s =>
    match exec (.receivedByte p b) s with
    | .next t => t.hears p rest
    | .fault _ | .refused _ => s

/-- The port and the request of a row that is a request of Table 10-3. -/
def requestOf : Instr → Option (PortId × Request)
  | .status p x => some (p, .status x)
  | .events p => some (p, .events)
  | .subscribe p k => some (p, .subscribe k)
  | .start p d => some (p, .start d)
  | .resume p => some (p, .resume)
  | .stop p => some (p, .stop)
  | .emergency p => some (p, .emergency)
  | .acknowledge p => some (p, .acknowledge)
  | .mode p m => some (p, .mode m)
  | .modeConfig p => some (p, .mode 3)
  | .serviceOn p => some (p, .serviceOn)
  | .serviceOff p => some (p, .serviceOff)
  | .timeSet p m => some (p, .timeSet m)
  | .haltCall p k => some (p, .haltCall k)
  | .haltCancel p k => some (p, .haltCancel k)
  | .inspectMove p d x => some (p, .inspectMove d x)
  | .channelServiceRemove p c => some (p, .channelService c 0)
  | .channelServiceRestore p c => some (p, .channelService c 1)
  | .tableWrite p t i pr c => some (p, .tableWrite t i pr c)
  | .tableRead p t i => some (p, .tableRead t i)
  | .commit p => some (p, .commit)
  | .carReport p r => some (p, .carReport r)
  | .ticket p t => some (p, .ticket t)
  | .passage p g r n => some (p, .passage g r n)
  | .stationStatus p => some (p, .stationStatus)
  | .powerOnReset | .encoderEdge _ _ _ | .measurementSample | .demPeriod | .dirPendingChange | .warnToggle => none
  | .warningEnd | .settleExpiry _ | .closureTimerExpiry | .applyProofTimeout _ | .liftProofTimeout _ => none
  | .brakeFeedbackChange _ _ | .pfailChange _ | .callLineChange _ _ | .timeOfDayAdvance | .consoleTimeout => none
  | .carLinkTimeout _ | .gateLinkTimeout _ | .frameComplete _ _ | .frameGap _ | .framingError _ => none
  | .breakDetected _ | .replyEnd _ | .receivedByte _ _ | .lineReturnedHigh _ => none

/-- Some side of some car is RELEASED in t and was not in s. -/
def someReleased (s t : State) : Bool :=
  [(Car.a, Side.left), (.a, .right), (.b, .left), (.b, .right)].any (fun x =>
    decide (((t.dru.get x.1).get x.2).command = .released ∧ ((s.dru.get x.1).get x.2).command ≠ .released))

/-- From s to t the doors have had a test moment (R126 to R128): a side whose five conditions hold in t is
RELEASED, a RELEASED side whose conditions do not hold is ordered closed, and every other side is as it was. -/
def DoorsTested (s t : State) : Prop :=
  ∀ c side,
    let d := (s.dru.get c).get side
    let d' := (t.dru.get c).get side
    if t.mayRelease c side = true then
      d' = if d.command = .released then d else { d with command := .released, orders := 0 }
    else d' = if d.command = .released then { d with command := .closeOrdered, orders := 0 } else d

/-- From s to t the line has come to STOPPED at stop k: the trip record (R100, R119), the halt entry for k served
(R112), the envelope and the slip check ended (R71, R79, R34), the reference at rest (R55, R57, R65, R69), and the
door releases tested (R127). The absent e_from and the requests dropped (liftPending, applyPending) are DEDUCED (assumption
22), r_e2 kept as well (assumption 36). -/
def CameToStop (k : Nat) (s t : State) : Prop :=
  t.tsq = { s.tsq with
    state := .stopped, step := none, resume := false, phase := none, target := some k, lastChange := s.clock,
    move := none, halts := s.tsq.halts.filter (fun e => decide (e.stopIndex ≠ k)), driveRequest := false,
    warningEnded := false, closureTimer := none } ∧
  t.obs = { s.obs with
    envelope := false, vPerm2 := none, endpoint := none, eFrom := none, ctlStop := false, excursion := false,
    rollback := .standing 0, liftPending := false, applyPending := false } ∧
  t.rmu = { s.rmu with slipActive := false } ∧
  t.srg = { s.srg with
    vRef := 0, holding := 0, warning := none, warn := false, frozen := false,
    ctlTarget := if s.tsq.state = .tripped then none else s.srg.ctlTarget,
    dirPending := if s.tsq.state = .departing ∨ s.tsq.state = .inspecting then none else s.srg.dirPending } ∧
  DoorsTested s t ∧ t.lts = s.lts ∧ t.cpt = s.cpt ∧ SameClocks s t

/-- The events of coming to STOPPED at stop k (R100, R112, R132). -/
def stopEvents (k : Nat) (s t : State) : List EventKind :=
  .tripStateChanged :: (eventIf (someReleased s t) .doorsReleased ++ eventIf (s.listed k) .haltRequestServed)

/-- Both batches after an open request (R145). -/
def openedBatches (v : PerStation Batch) : PerStation Batch :=
  v.mapStation (fun _ b => { b with state := .opened, settle := none })

/-- A batch of two is in another state (R153). -/
def batchChanged (v w : PerStation Batch) : Bool :=
  decide (v.lower.state ≠ w.lower.state) || decide (v.upper.state ≠ w.upper.state)

/-- From s to t a cause has joined the list with its source, at the last published position and speed (R83); the
first cause trips the line (R84). The position between a homing and the next sample is the model's choice (assumption
39). -/
def CauseJoined (kind : CauseKind) (source : CauseSource) (s t : State) : Prop :=
  t.obs.causes = s.obs.causes ++
    [{ kind := kind, source := source, position := if s.rmu.known then some s.xs else none, speed := s.speed,
       time := s.clock }] ∧
  (s.obs.causes = [] → t.tsq.state = .tripped ∧ t.obs.trippedFrom = some s.tsq.state) ∧
  (s.obs.causes ≠ [] → t.tsq.state = s.tsq.state ∧ t.obs.trippedFrom = s.obs.trippedFrom)

/-- SERVICE braking holds (R89): SBK applied, the drive request down, the reference and the holding duty 0. -/
def ServiceBraked (t : State) : Prop :=
  t.obs.brakes.sbk.command = .applied ∧ t.tsq.driveRequest = false ∧ t.srg.vRef = 0 ∧ t.srg.holding = 0

/-- EMERGENCY braking holds (R90): SERVICE braking, EBK applied and the rail brake order set. -/
def EmergencyBraked (t : State) : Prop :=
  ServiceBraked t ∧ t.obs.brakes.ebk.command = .applied ∧ t.obs.railBrake = true

/-- The states in which the line moves or is about to. -/
def TripState.moves : TripState → Bool
  | .departing | .running | .arriving | .inspecting => true
  | .configuring | .outOfService | .stopped | .stranded | .tripped => false

/-- DEPARTING from its brake-release step, RUNNING, ARRIVING or INSPECTING. -/
def State.moving (s : State) : Bool :=
  s.releasing || decide (s.tsq.state = .running) || decide (s.tsq.state = .arriving) ||
    decide (s.tsq.state = .inspecting)

/-! ### The laws of the part -/

/-- Law 1 (R119): where drive enable is on. -/
def driveLaw (s : State) : Prop :=
  s.den = true →
    (s.moving = true ∧ s.obs.causes = []) ∨
    (s.tsq.state = .tripped ∧ (∃ f, s.obs.trippedFrom = some f ∧ f.moves = true) ∧ s.braking = .stop ∧
      s.obs.stopLatch = false)

/-- Where the drive request stands (R119). -/
def requestLaw (s : State) : Prop :=
  s.tsq.driveRequest = true →
    s.moving = true ∨ (s.tsq.state = .tripped ∧ ∃ f, s.obs.trippedFrom = some f ∧ f.moves = true)

/-- Law 9 (R84): TRIPPED exactly while the cause list is not empty. -/
def trippedLaw (s : State) : Prop := s.tsq.state = .tripped ↔ s.obs.causes ≠ []

/-- Law 2 (R126): no side is RELEASED while drive enable is on. -/
def shutLaw (s : State) : Prop := ∀ c side, ((s.dru.get c).get side).command = .released → s.den = false

/-- Law 3 (R126): a side is RELEASED only while its five conditions hold. -/
def doorLaw (s : State) : Prop :=
  ∀ c side, ((s.dru.get c).get side).command = .released → s.mayRelease c side = true

/-- Law 4 (R140): passed plus pending persons never exceeds the capacity in force. -/
def platformLaw (s : State) : Prop := ∀ st, (s.bcu.batches.get st).platformCount ≤ s.capacity

/-- Law 6 (R142): the recent-serial lists and the pending lists. -/
def listsLaw (s : State) : Prop :=
  ∀ st, ((s.bcu.batches.get st).recent.map (·.serial)).Nodup ∧ (s.bcu.batches.get st).recent.length ≤ 64 ∧
    (s.bcu.batches.get st).pending.length ≤ 16

/-- Law 7 (R108): one halt entry per stop, for ON_REQUEST stops of the line alone; none in CONFIGURING. -/
def haltLaw (s : State) : Prop :=
  (s.tsq.halts.map (·.stopIndex)).Nodup ∧
    (∀ e ∈ s.tsq.halts, s.lts.onRequest e.stopIndex = true ∧ e.stopIndex < s.lts.stopCount) ∧
    (s.tsq.state = .configuring → s.tsq.halts = [])

/-- Law 8 (R63): the reference never exceeds the permitted speed. -/
def referenceLaw (s : State) : Prop := ∀ v, s.obs.vPerm2 = some v → s.srg.vRef ≤ 1000 * isqrt v

/-- Law 10 (R83): each cause kind at most once. -/
def causeLaw (s : State) : Prop := (s.obs.causes.map (·.kind)).Nodup

/-- Law 11 (R90): EMERGENCY braking holds EBK applied and the rail brake order set. -/
def emergencyLaw (s : State) : Prop :=
  s.braking = .emergency → s.obs.brakes.ebk.command = .applied ∧ s.obs.railBrake = true

/-- Law 12 (R45): each stretch offset stays within max_corr. -/
def offsetLaw (s : State) : Prop := ∀ c, (s.cpt.cars.get c).offset.natAbs ≤ s.lts.inForce.maxCorr

/-- The receive queues (R175, R177): at most two entries; the oldest taken and the other not; nothing waits while
the transmitter is idle. -/
def queueLaw (s : State) : Prop :=
  ∀ p, (s.lpu.ports.get p).queue.length ≤ 2 ∧
    (∀ e rest, (s.lpu.ports.get p).queue = e :: rest → e.reply ≠ none ∧ ∀ x ∈ rest, x.reply = none) ∧
    ((s.lpu.ports.get p).tx = none → (s.lpu.ports.get p).queue = [])

/-- An event set holds kinds of its subscription alone (R182, R183). -/
def eventLaw (s : State) : Prop :=
  ∀ p, (s.lpu.ports.get p).events &&& (s.lpu.ports.get p).subs = (s.lpu.ports.get p).events

/-- A state that obeys the laws. -/
def Lawful (s : State) : Prop :=
  driveLaw s ∧ requestLaw s ∧ trippedLaw s ∧ shutLaw s ∧ doorLaw s ∧ platformLaw s ∧ listsLaw s ∧ haltLaw s ∧
    referenceLaw s ∧ causeLaw s ∧ emergencyLaw s ∧ offsetLaw s ∧ queueLaw s ∧ eventLaw s

end Sys2Proof.Machine
end

