-- ==== Sys2Proof/Certificates/Slice0/Obligations.lean ====
section
/-! DEFINITION. The statements for the provers. `s.ready p` is the state in which a request row on port p is taken;
`answered` begins its reply; `raising` adds event kinds to the event sets of the ports subscribed to them. -/

open Sys2Proof Sys2Proof.Machine

/-! ### The part as a whole -/

/-- A step takes the command at the front of the queue and executes it with the queue's rest. -/
def Obligations.StepRunsFrontCommand : Prop :=
  ∀ (c : Instr) (s : State) (rest : List Instr), s.pending = c :: rest → step s = exec c { s with pending := rest }

/-- Every command completes, whatever the state. It leaves the queue as it stands; the line clock advances at a
sample alone (assumption 1) and starts at 0 after power-on reset (R188). -/
def Obligations.EveryCommandCompletes : Prop :=
  ∀ (c : Instr) (s : State), ∃ t, exec c s = .next t ∧ t.pending = s.pending ∧
    t.clock = (if c = .powerOnReset then 0 else if c = .measurementSample then s.clock + 2 else s.clock) ∧
    (c ≠ .measurementSample → t.freeIndex = s.freeIndex)

/-- The parameters after power-on reset, in index order (Table 1-1); a link default as its code. -/
def paramResets : List Int :=
  [0, 0, 300, 2000, 500, 800, 200, 30, 500, 51, 102, 154, 150, 1000, 600, 3000, 250, 100, 16, 160, 500, 180, 80, 5, 10, 30,
   400, 600, 300, 10, 10, 1024, 0, 0]

/-- What power-on reset leaves (R187 and the reset columns of Tables 1-1, 2-1, 3-1, 4-1, 5-1, 6-1, 7-1 and 8-1), with the
timers that then run (R123, R186), and that POWER_ON_RESET leaves it, whatever the state; the model keeps the queue of
commands and its own counter (DESIGN CHOICE, assumption 16). The marks of requests that wait are the model's (assumption
22); the partial mark (assumption 10) is left out. -/
def Obligations.ResetValues : Prop :=
  let s := State.reset
  (s.tsq.state = .configuring ∧ s.tsq.mode = .config ∧ s.tsq.direction = .up ∧ s.tsq.step = none ∧
    s.tsq.target = none ∧ s.tsq.origin = none ∧ s.tsq.halts = [] ∧ s.tsq.silent = false ∧
    s.tsq.driveRequest = false ∧ s.tsq.resume = false ∧ s.tsq.phase = none ∧ s.tsq.lastChange = 0 ∧ s.tsq.move = none ∧
    s.tsq.closureTimer = none ∧ s.tsq.consoleTimer = some ⟨0, 10000⟩ ∧ ∀ l, s.tsq.callLines.get l = false) ∧
  (s.srg.vRef = 0 ∧ s.srg.vTgt = 0 ∧ s.srg.fRef = 256 ∧ s.srg.band = none ∧ s.srg.holding = 0 ∧ s.srg.active = 0 ∧
    s.srg.dir = .down ∧ s.srg.warn = false ∧ s.srg.insp = false ∧ s.srg.phase = none ∧ s.srg.ctlTarget = none ∧
    s.srg.warning = none ∧ s.srg.dirPending = none ∧ s.srg.period = 1024) ∧
  (s.obs.causes = [] ∧ s.obs.envelope = false ∧ s.obs.rollback = .inactive ∧ s.obs.pS = 0 ∧
    (∀ b, s.obs.brakes.get b = ⟨.applied, .proven, none, .dropped⟩) ∧ s.obs.railBrake = true ∧ s.obs.fSup = 256 ∧
    s.obs.inspSup = false ∧ s.obs.aSup = none ∧ s.obs.direction = .up ∧ s.obs.endpoint = none ∧ s.obs.eFrom = none ∧
    s.obs.rE2 = 0 ∧ s.obs.ctlStop = false ∧ s.obs.vPerm2 = none ∧ s.obs.excursion = false ∧ s.obs.trippedFrom = none ∧
    s.obs.stopLatch = false ∧ s.obs.pfail = false ∧ (∀ c, s.obs.carFault.get c = false) ∧ s.obs.liftPending = false ∧
    s.obs.applyPending = false) ∧
  (s.rmu.x2 = 0 ∧ s.rmu.known = false ∧ s.rmu.twoChannel = false ∧ s.rmu.vSup = 0 ∧ s.rmu.vAvg = 0 ∧ s.rmu.pA = 0 ∧
    s.rmu.p1 = 0 ∧ s.rmu.p2 = 0 ∧ s.rmu.dM2 = 0 ∧ s.rmu.dSL = 0 ∧ s.rmu.slipActive = false ∧
    ∀ i, let ch := s.rmu.channels.get i
      ch.state = .unmapped ∧ ch.edges = 0 ∧ ch.c = 0 ∧ ch.d = 0 ∧ ch.window = [] ∧ ch.vch = 0) ∧
  (s.cpt.target = none ∧ ∀ c, s.cpt.cars.get c = ⟨0, none, none, none⟩ ∧ s.lpu.carLinks.get c = ⟨false, none⟩ ∧
    s.bcu.loads.get c = ⟨0, none⟩ ∧ ∀ side, (s.dru.get c).get side = ⟨.holdClosed, none, none, none, 0⟩) ∧
  (∀ st, s.bcu.batches.get st = ⟨.suspended, 0, [], 0, [], none, 0, 0⟩ ∧
    s.lpu.gateLinks.get st = ⟨true, some ⟨0, 10000⟩⟩) ∧
  (∀ p, s.portAtRest p = true ∧ s.lpu.ports.get p = ⟨.hunting, false, [], none, 0, 0⟩) ∧
  (s.lts.committed = false ∧ s.lts.params.toList.map (·.toInt) = paramResets ∧ s.lts.inForce = ⟨16, 1024, 180, 3000⟩ ∧
    s.lts.stopCount = 0 ∧ s.lts.segmentCount = 0 ∧
    (∀ i, s.lts.stops.get i = ⟨false, 0, 0, 0, 0, 0⟩) ∧ (∀ i, s.lts.segments.get i = ⟨false, 0, 0⟩) ∧
    (∀ i, s.lts.markers.get i = ⟨false, 0, 0⟩) ∧ (∀ i, s.lts.bands.get i = ⟨false, 0, 0, 0, 0⟩) ∧
    (∀ i, s.lts.channels.get i = ⟨false, 3, 0, 0⟩) ∧ (∀ i, s.lts.calls.get i = ⟨false, 0, 0⟩) ∧
    (∀ i, (s.lts.rules.get i).slot.valid = false ∧ (s.lts.rules.get i).hits = 0) ∧
    (∀ i, s.lts.ranges.get i = ⟨false, 0, 0, 0⟩)) ∧
  s.clock = 0 ∧ s.timeOfDay = none ∧ s.pending = [] ∧
  (∀ u : State, exec .powerOnReset u = .next { State.reset with pending := u.pending, freeIndex := u.freeIndex })

/-- The part right after power-on reset obeys every law. -/
def Obligations.ResetObeysLaws : Prop := Lawful State.reset

/-! ### Rope measurement -/

/-- One change of one input counts +1 in the forward phase order and −1 in the reverse order, reversed for an
INVERTED sense; a change of both counts 0; an UNMAPPED channel counts nothing (R18). -/
def Obligations.EncoderEdgeCounts : Prop :=
  ∀ (i : Fin 4) (before after : QuadPair) (s : State),
    let ch := s.rmu.channels.get i
    let count : Int :=
      if (before, after) ∈ forwardEdges then 1 else if (after, before) ∈ forwardEdges then -1 else 0
    let counted := { ch with edges := ch.edges + (if s.lts.inverted i then -count else count) }
    exec (.encoderEdge i before after) s = .next (if ch.state = .unmapped then s else
      { s with rmu := { s.rmu with channels := s.rmu.channels.set i counted } })

/-- Each channel at a sample: increment and distance (R19), window (R20), speed (R21), partial mark (R22); OUT_OF_
SERVICE and FAILED channels as well (R24). -/
def Obligations.ChannelsAtSample : Prop :=
  ∀ (s : State) (i : Fin 4), ∃ t, exec .measurementSample s = .next t ∧
    let ch := s.rmu.channels.get i
    let ch' := t.rmu.channels.get i
    ch'.edges = 0 ∧ ch'.partialMark = false ∧
    if ch.state = .unmapped then ch'.c = 0 ∧ ch'.d = 0 ∧ ch'.vch = 0 ∧ ch'.window = ch.window
    else
      ch'.c = max (-4095) (min 4095 ch.edges) ∧ ch'.d = ch'.c * s.lts.pitch i ∧
      if ch.partialMark then ch'.window = ch.window ∧ ch'.vch = 0
      else
        ch'.window = (if ch.window.length < s.lts.inForce.window then ch.window else ch.window.tail) ++ [ch'.d] ∧
        ch'.vch = max (-32767) (min 32767 (Int.tdiv ch'.window.sum (2 * ch'.window.length)))

/-- The main channels IN_SERVICE at a state, MAIN1 first. -/
def mainsServing (s : State) : List (Fin 4) :=
  [0, 1].filterMap (fun role =>
    (s.lts.channelWithRole role).filter (fun i => decide ((s.rmu.channels.get i).state = .inService)))

/-- Sample travel and sheave position (R27), supervision and average speed (R28), two-channel indication (R26). -/
def Obligations.SamplePositionAndSpeeds : Prop :=
  ∀ s : State, ∃ t, exec .measurementSample s = .next t ∧
    let d (i : Fin 4) := (t.rmu.channels.get i).d
    let v (i : Fin 4) := (t.rmu.channels.get i).vch
    t.rmu.x2 = s.rmu.x2 + t.rmu.dx2 ∧ t.rmu.known = s.rmu.known ∧
    t.rmu.twoChannel = decide ((mainsServing s).length = 2) ∧
    (∀ i j, mainsServing s = [i, j] →
      t.rmu.dx2 = d i + d j ∧ t.rmu.vSup = (if (v i).natAbs < (v j).natAbs then v j else v i) ∧
        t.rmu.vAvg = Int.tdiv (v i + v j) 2) ∧
    (∀ i, mainsServing s = [i] → t.rmu.dx2 = 2 * d i ∧ t.rmu.vSup = v i ∧ t.rmu.vAvg = v i) ∧
    (mainsServing s = [] → t.rmu.dx2 = 0 ∧ t.rmu.vSup = 0 ∧ t.rmu.vAvg = 0)

/-- The persistence counts of a sample (R30, R31, R33) and, once one has lasted disc_time, one main channel marked
FAILED and the cause given (R32). Where both stall counts reach the limit at equal speeds, R32 names no channel: the
statement holds whichever is marked (assumption 8). -/
def Obligations.DisagreementMarksOneMain : Prop :=
  ∀ (s : State) (i j : Fin 4), mainsServing s = [i, j] → ∃ t, exec .measurementSample s = .next t ∧
    let ci := t.rmu.channels.get i
    let cj := t.rmu.channels.get j
    let pA := if ((ci.vch - cj.vch).natAbs : Int) > s.lts.discLimit then s.rmu.pA + 1 else 0
    let p1 := if ci.c = 0 ∧ cj.vch.natAbs > 200 then s.rmu.p1 + 1 else 0
    let p2 := if cj.c = 0 ∧ ci.vch.natAbs > 200 then s.rmu.p2 + 1 else 0
    let lasted (p : Nat) : Prop := (2 * p : Int) ≥ s.lts.discTime
    (¬ (lasted pA ∨ lasted p1 ∨ lasted p2) →
      ci.state = .inService ∧ cj.state = .inService ∧ t.rmu.pA = pA ∧ t.rmu.p1 = p1 ∧ t.rmu.p2 = p2) ∧
    (lasted pA ∨ lasted p1 ∨ lasted p2 →
      ((ci.state = .failed ∧ cj.state = .inService) ∨ (ci.state = .inService ∧ cj.state = .failed)) ∧
      (ci.vch.natAbs < cj.vch.natAbs → ci.state = .failed) ∧
      (cj.vch.natAbs < ci.vch.natAbs → cj.state = .failed) ∧
      (ci.vch.natAbs = cj.vch.natAbs → lasted p1 → ¬ lasted p2 → ci.state = .failed) ∧
      (ci.vch.natAbs = cj.vch.natAbs → ¬ lasted p1 → cj.state = .failed) ∧
      t.rmu.pA = 0 ∧ t.rmu.p1 = 0 ∧ t.rmu.p2 = 0 ∧
      (s.lts.committed = true → t.hasCause .encoderDisagree = true))

/-- A cause entry of a kind is listed: it was before, or it is new, internal, with the position and the speed of the
sample just made. -/
def GivenAtSample (kind : CauseKind) (s t : State) : Prop :=
  ∃ e ∈ t.obs.causes, e.kind = kind ∧
    (e ∈ s.obs.causes ∨
      (e.source = .internal ∧ e.position = (if t.rmu.known then some t.xs else none) ∧ e.speed = t.speed ∧
        e.time = t.clock))

/-- The slip accumulators of a sample (R34) and the comparison that gives ROPE_SLIP (R35). The rollback measure of a
sample: while RUNNING, against the direction supervised (R78); while STANDING, from the place where the line stopped, and
from 0 where the line comes to rest at this sample (R79); INACTIVE stays. ROLLBACK is given beyond the limit, while
STANDING with SBK commanded APPLIED, and not otherwise; a SBK that another cause applies within the sample is left open. -/
def Obligations.SlipAndRollbackGiveCauses : Prop :=
  (∀ (s : State) (i : Fin 4), s.rmu.slipActive = true → s.lts.channelWithRole 2 = some i →
      (s.rmu.channels.get i).state = .inService → s.lts.committed = true →
      ∃ t, exec .measurementSample s = .next t ∧
        t.rmu.dM2 = s.rmu.dM2 + t.rmu.dx2 ∧ t.rmu.dSL = s.rmu.dSL + (t.rmu.channels.get i).d ∧
        let apart := (((t.rmu.dM2 - 2 * t.rmu.dSL).natAbs : Int) > 2000 * s.lts.slipLimit)
        (apart → t.hasCause .ropeSlip = true) ∧ (¬ apart → t.hasCause .ropeSlip = s.hasCause .ropeSlip)) ∧
  (∀ s : State, s.lts.committed = true → ∃ t, exec .measurementSample s = .next t ∧
      let limit := 2000 * s.lts.rollbackLimit
      let moved : Rollback := match s.obs.rollback with
        | .inactive => .inactive
        | .running rb2 => .running (max 0 (rb2 - travel s.obs.direction t.rmu.dx2))
        | .standing st2 => .standing (st2 + t.rmu.dx2)
      let rests := decide (t.tsq.state ≠ s.tsq.state ∧
        (t.tsq.state = .stopped ∨ t.tsq.state = .stranded ∨ t.tsq.state = .outOfService))
      t.obs.rollback = (if rests then .standing 0 else moved) ∧
      (moved = .inactive → t.hasCause .rollback = s.hasCause .rollback) ∧
      (∀ rb2, moved = .running rb2 →
        (limit < rb2 → GivenAtSample .rollback s t) ∧ (rb2 ≤ limit → t.hasCause .rollback = s.hasCause .rollback)) ∧
      (∀ st2, moved = .standing st2 →
        (limit < st2.natAbs → s.obs.brakes.sbk.command = .applied → GivenAtSample .rollback s t) ∧
        (st2.natAbs ≤ limit ∨ t.obs.brakes.sbk.command = .lifted → t.hasCause .rollback = s.hasCause .rollback)))

/-! ### Supervision at a sample -/

/-- The standstill count and the standstill indication at a sample; between samples the indication is the one formed at the
last (R81). -/
def Obligations.StandstillCounted : Prop :=
  (∀ s : State, ∃ t, exec .measurementSample s = .next t ∧
      t.obs.pS = (if (t.speed : Int) ≤ s.lts.vStill then min (s.obs.pS + 1) 1000 else 0) ∧
      (t.standstill = true ↔ (2 * t.obs.pS : Int) ≥ s.lts.tStill)) ∧
  (∀ (c : Instr) (s t : State), exec c s = .next t → c ≠ .measurementSample → c ≠ .powerOnReset →
      t.standstill = s.standstill)

/-- OVERRUN is given at each sample at which r_e2, less the sample's travel, is below 0 while the envelope is in
force; a line exactly on the endpoint has not overrun (R80). The tables are committed: no cause joins before (R83). -/
def Obligations.OverrunGivesCause : Prop :=
  ∀ s : State, s.lts.committed = true → s.obs.envelope = true → ∃ t, exec .measurementSample s = .next t ∧
    let rE2 := s.obs.rE2 - travel s.obs.direction t.rmu.dx2
    (rE2 < 0 → GivenAtSample .overrun s t) ∧ (0 ≤ rE2 → t.hasCause .overrun = s.hasCause .overrun)

/-- The segment terms (R60, R73): for each segment other than the current one whose entry point (R2) lies ahead of x by
at most `reach`, the square of its cap plus twice the deceleration times the distance to that point. -/
def segmentTerms (t : Lts) (d : Direction) (x reach : Int) (cap : Nat → Nat) (decel : Nat) : List Nat :=
  (List.range t.segmentCount).filterMap (fun j =>
    let entry : Option Int := match d with
      | .up => some (t.segmentStart j)
      | .down => if j + 1 < t.segmentCount then some (t.segmentStart (j + 1)) else none
    match entry with
    | some e =>
      let dist := distance d x e
      if j ≠ t.segmentOf x ∧ 0 < dist ∧ dist ≤ reach then some (cap j ^ 2 + 2 * decel * dist.toNat) else none
    | none => none)

/-- The smallest of the current cap term, a term at the end of the way, and the segment terms, which an inspection
setting does without (R60, R73). -/
def smallestTerm (t : Lts) (d : Direction) (x reach : Int) (inspecting : Bool) (factor decel last : Nat) : Nat :=
  let cap (j : Nat) : Nat := if inspecting then t.vInsp.toNat else t.segmentCap j * factor / 256
  (if inspecting then [] else segmentTerms t d x reach cap decel).foldl min (min (cap (t.segmentOf x) ^ 2) last)

/-- The permitted speed squared formed at a sample under the envelope, from the endpoint's distance after the sample's travel
(R72, R73). The three
levels over it (R74): the excursion mark and its warning (R75), OVERSPEED and OVERSPEED_SEVERE (R76), given when they are
exceeded and not otherwise. The absolute line check gives OVERSPEED_SEVERE with an envelope in force or without (R77);
without one no permitted speed is formed and no level is tested (R73). While the envelope stays in force, r_e2 is less the
sample's travel, or, where the stop target is no longer the one that e was formed from and no controlled stop replaces it, e,
e_from and r_e2 are formed afresh from the target and the x_s of the sample (R72). That r_e2 keeps its value without an
envelope is the model's, which is DEDUCED (assumption 36). -/
def Obligations.OverspeedGivesCauses : Prop :=
  (∀ s : State, s.lts.committed = true → s.obs.envelope = true → ∃ t, exec .measurementSample s = .next t ∧
      let de := max 0 (Int.tdiv (s.obs.rE2 - travel s.obs.direction t.rmu.dx2) 2000)
      let a := s.obs.aSup.getD 0
      let vPerm2 := smallestTerm s.lts s.obs.direction t.xs de s.obs.inspSup s.obs.fSup a
        (s.lts.vCreepSup.toNat ^ 2 + 2 * a * de.toNat)
      let exceeds (m : Int) : Prop := ((t.speed : Int) * 1024) ^ 2 > (vPerm2 : Int) * (1024 + m) ^ 2
      let beyondLine : Prop := (t.speed : Int) * 1024 > s.lts.vLineMax * (1024 + s.lts.margin3)
      (t.obs.envelope = true → t.obs.vPerm2 = some vPerm2 ∧ (t.obs.excursion = true ↔ exceeds s.lts.margin1)) ∧
      (exceeds s.lts.margin1 → s.obs.excursion = false → ∀ p, (s.lpu.ports.get p).subs.getLsbD 14 = true →
        (t.lpu.ports.get p).events.getLsbD 14 = true) ∧
      (exceeds s.lts.margin2 ∨ exceeds s.lts.margin3 → GivenAtSample .overspeed s t) ∧
      (exceeds s.lts.margin3 ∨ beyondLine → GivenAtSample .overspeedSevere s t) ∧
      (¬ exceeds s.lts.margin2 → ¬ exceeds s.lts.margin3 → t.hasCause .overspeed = s.hasCause .overspeed) ∧
      (¬ exceeds s.lts.margin3 → ¬ beyondLine → t.hasCause .overspeedSevere = s.hasCause .overspeedSevere)) ∧
  (∀ s : State, s.lts.committed = true → ∃ t, exec .measurementSample s = .next t ∧
      let beyondLine : Prop := (t.speed : Int) * 1024 > s.lts.vLineMax * (1024 + s.lts.margin3)
      (beyondLine → GivenAtSample .overspeedSevere s t) ∧
      (s.obs.envelope = false → t.obs.vPerm2 = none ∧ t.hasCause .overspeed = s.hasCause .overspeed ∧
        (¬ beyondLine → t.hasCause .overspeedSevere = s.hasCause .overspeedSevere))) ∧
  (∀ s : State, ∃ t, exec .measurementSample s = .next t ∧
      (s.obs.envelope = false → t.obs.rE2 = s.obs.rE2) ∧
      (s.obs.envelope = true → t.obs.envelope = true →
        let d := s.obs.direction
        let moved (g : StopTarget) : Prop := s.obs.ctlStop = false ∧ ∃ f ∈ s.obs.eFrom, g.position ≠ f
        (∀ g, s.cpt.target = some g → moved g →
          let e := ahead d g.position s.lts.overrunAllow
          t.obs.endpoint = some e ∧ t.obs.eFrom = some g.position ∧ t.obs.rE2 = 2000 * distance d t.xs e) ∧
        ((∀ g, s.cpt.target = some g → ¬ moved g) →
          t.obs.endpoint = s.obs.endpoint ∧ t.obs.eFrom = s.obs.eFrom ∧
          t.obs.rE2 = s.obs.rE2 - travel d t.rmu.dx2)))

/-! ### The reference and its lines -/

/-- The target of the reference at a sample, with its direction and its distance in mm (R59): the stop target of a running
trip, the endpoint or the remaining travel of an inspection move, in step MOVING and, by assumption 25, in step HOLDING
while the move lasts, the controlled-stop target under STOP braking. -/
def TargetAhead (s t : State) (d : Direction) (dt : Int) : Prop :=
  (s.tsq.state = .running ∧ s.srg.ctlTarget = none ∧ s.tsq.move = none ∧ d = s.tsq.direction ∧
    ∃ g, s.cpt.target = some g ∧ dt = distance d t.xs g.position) ∨
  (s.tsq.state = .inspecting ∧ (s.tsq.step = some .moving ∨ (s.tsq.step = some .holding ∧ t.tsq.state = .inspecting)) ∧
    s.srg.ctlTarget = none ∧ ∃ m, s.tsq.move = some m ∧ d = m.direction ∧
      ((m.startKnown = true ∧ ∃ e, m.endpoint = some e ∧ dt = distance d t.xs e) ∨
        (m.startKnown = false ∧ dt = Int.tdiv (m.remaining - travel d t.rmu.dx2) 2000))) ∨
  (s.tsq.state = .tripped ∧ s.den = true ∧ s.tsq.move = none ∧ d = s.tsq.direction ∧
    ∃ c, s.srg.ctlTarget = some c ∧ dt = distance d t.xs c)

/-- The reference of the last sample moved toward a speed in µm/s at the band's accelerations (R62). -/
def towardSpeed (s : State) (v : Nat) : Nat :=
  if s.srg.vRef < v then min (s.srg.vRef + 2 * s.aAcc) v else max (s.srg.vRef - 2 * s.aDec) v

/-- A reference held to the permitted speed of the sample, where one is formed (R63). -/
def permittedSpeed (t : State) (v : Nat) : Nat :=
  match t.obs.vPerm2 with
  | some p => min v (1000 * isqrt p)
  | none => v

/-- A brake as an APPLIED command leaves it (R89, R90, R93): as it is where it is commanded APPLIED already, else APPLIED,
proven at once by a reading DROPPED or PROVING for t_apply. -/
def appliedBrake (s : State) (b : BrakeRecord) : BrakeRecord :=
  if b.command = .applied then b
  else if b.reading = .dropped then { b with command := .applied, proof := .proven, timer := none }
  else { b with command := .applied, proof := .proving, timer := some ⟨0, s.lts.tApply.toNat⟩ }

/-- An apply request is not answered at once: SBK, already commanded APPLIED or just so commanded, has yet to prove (R92,
R93). -/
def sbkHasToProve (s : State) : Prop := (appliedBrake s s.obs.brakes.sbk).proof ≠ .proven

/-- The phase of a sample that is not in CREEP (R64, conditions 2 to 4). -/
def risingOrFalling (s t : State) : Phase :=
  if t.srg.vRef < s.srg.vRef then .decel else if s.srg.vRef < t.srg.vRef then .accel else .cruise

/-- The target speed at a sample (R58 to R61): isqrt of the smallest of the current cap term, the segment terms and the stop
term; the creep speed in the creep distance of a target that is no controlled stop; 0 at the target; isqrt is the integer
square root rounded down. The reference: moved toward the target speed at the frozen band's accelerations (R62), clamped to
the permitted speed (R63), 0 at the target (R61), and 0 at the sample that sets the stop latch of a controlled stop; its
phase (R64); in step HOLDING of a move all this is read from R57 (DEDUCED, assumption 25); on a running trip the duty, written while drive enable
is on (R66), and the stop target frozen in CREEP (R48), at every such sample, the model's choice (assumption 28). At the target a running
trip goes to ARRIVING (R61, R120), in step STANDSTILL, or at standstill at once in step APPLY (assumption 7), and a move from
step MOVING to HOLDING (R122). Without a
running reference (R57): 0 in ARRIVING, which keeps the phase, and where no condition of R57 holds; the ramp of a STOP
taken in an inspection move (R65). -/
def Obligations.RunningReferenceAtSample : Prop :=
  (∀ n : Nat, isqrt n ^ 2 ≤ n ∧ n < (isqrt n + 1) ^ 2) ∧
  (∀ (s t : State) (d : Direction) (dt : Int), exec .measurementSample s = .next t → t.obs.causes = s.obs.causes →
      TargetAhead s t d dt →
      let stop := s.srg.ctlTarget.isSome
      let last := if stop then 2 * s.aDec * dt.toNat
        else s.lts.vCreep.toNat ^ 2 + 2 * s.aDec * (dt - s.lts.creepDist).toNat
      t.srg.vTgt =
        (if dt ≤ 0 then 0 else if stop = false ∧ dt ≤ s.lts.creepDist then s.lts.vCreep.toNat
        else isqrt (smallestTerm s.lts d t.xs dt s.srg.insp s.srg.fRef s.aDec last)) ∧
      (t.obs.stopLatch = s.obs.stopLatch ∨ s.tsq.state ≠ .tripped →
        t.srg.vRef = (if dt ≤ 0 then 0 else permittedSpeed t (towardSpeed s (1000 * t.srg.vTgt))) ∧
        t.srg.phase = some (if stop = false ∧ dt ≤ s.lts.creepDist then .creep else risingOrFalling s t)) ∧
      (t.obs.stopLatch ≠ s.obs.stopLatch → s.tsq.state = .tripped → t.srg.vRef = 0 ∧ t.srg.holding = 0) ∧
      (s.tsq.state = .inspecting → s.tsq.step = some .moving → sbkHasToProve s →
        t.tsq.state = .inspecting ∧ t.tsq.step = some (if dt ≤ 0 then .holding else .moving))) ∧
  (∀ (s t : State) (g : StopTarget), exec .measurementSample s = .next t → s.tsq.state = .running →
      t.obs.causes = [] → s.srg.ctlTarget = none → s.tsq.move = none → s.cpt.target = some g →
      let dt := distance s.tsq.direction t.xs g.position
      if dt ≤ 0 then t.srg.vRef = 0 ∧ t.srg.vTgt = 0 ∧
        (∀ p, (s.lpu.ports.get p).subs.getLsbD 0 = true → (t.lpu.ports.get p).events.getLsbD 0 = true) ∧
        (t.standstill = false ∨ sbkHasToProve s → t.tsq = { s.tsq with
          state := .arriving, step := some (if t.standstill then .apply else .standstill), resume := false, phase := none,
          lastChange := t.clock, warningEnded := false, closureTimer := none, consoleTimer := t.tsq.consoleTimer })
      else
        t.tsq.state = .running ∧
        t.srg.vRef = permittedSpeed t (towardSpeed s (1000 * t.srg.vTgt)) ∧
        t.srg.phase = some (if dt ≤ s.lts.creepDist then .creep else risingOrFalling s t) ∧
        t.tsq.phase = t.srg.phase ∧
        t.cpt = { s.cpt with target := some { g with frozen := g.frozen || decide (dt ≤ s.lts.creepDist) } } ∧
        t.srg.holding = if t.den then
            min (t.srg.vRef * s.lts.inForce.modulus / (s.lts.vLineMax.toNat * 1000)) (s.lts.inForce.modulus - 1)
          else 0) ∧
  (∀ s t : State, exec .measurementSample s = .next t → t.obs.causes = s.obs.causes → s.tsq.state ≠ .running →
      ¬ (s.tsq.state = .inspecting ∧ s.tsq.step ≠ some .lifting) → ¬ (s.tsq.state = .tripped ∧ s.den = true) →
      t.srg.vRef = 0 ∧ t.srg.vTgt = 0 ∧ t.srg.holding = 0 ∧
      t.srg.phase = (if s.tsq.state = .arriving then s.srg.phase else none) ∧ t.cpt.target = s.cpt.target) ∧
  (∀ s t : State, exec .measurementSample s = .next t → t.obs.causes = s.obs.causes → s.tsq.state = .tripped →
      s.den = true → s.srg.ctlTarget = none →
      if s.obs.trippedFrom = some .inspecting ∧ s.braking = .stop then
        t.srg.vTgt = 0 ∧
        (t.obs.stopLatch = s.obs.stopLatch →
          t.srg.vRef = permittedSpeed t (towardSpeed s 0) ∧ t.srg.phase = some (risingOrFalling s t)) ∧
        (t.obs.stopLatch ≠ s.obs.stopLatch → t.srg.vRef = 0 ∧ t.srg.holding = 0)
      else t.srg.vRef = 0 ∧ t.srg.vTgt = 0 ∧ t.srg.phase = none)

/-- A DEM period begins by taking the holding duty as its active duty, and lasts M ticks (R67); a warning toggle
inverts WARN while the warning runs (R69), and with no warning running changes nothing, the model's choice
(assumption 11). -/
def Obligations.DutyAndWarningLines : Prop :=
  (∀ s : State, exec .demPeriod s =
    .next { s with srg := { s.srg with active := s.srg.holding, period := s.lts.inForce.modulus } }) ∧
  (∀ s : State, exec .warnToggle s =
    .next (if s.srg.warning.isSome then { s with srg := { s.srg with warn := !s.srg.warn } } else s))

/-- A brake as a lift command leaves it (R92, R94): as it is where it is commanded LIFTED already, else LIFTED, proven at
once by a reading LIFTED or PROVING for t_lift. -/
def liftedBrake (s : State) (b : BrakeRecord) : BrakeRecord :=
  if b.command = .lifted then b
  else if b.reading = .lifted then { b with command := .lifted, proof := .proven, timer := none }
  else { b with command := .lifted, proof := .proving, timer := some ⟨0, s.lts.tLift.toNat⟩ }

/-- DIR changes to a pending direction once the active duty is 0 and drive enable is off, not before (R68). In the
brake-release step and in step LIFTING of an inspection move the drive request is then raised (R117, R119, R121) and both
brakes are lifted (R92, R94). With no direction pending, or with one that may not be shown, the row changes nothing, the
model's choice (assumption 11); the mark of a request that waits is the model's (assumption 22). -/
def Obligations.PendingDirectionShown : Prop :=
  ∀ s : State,
    let lifting := decide (s.tsq.state = .inspecting ∧ s.tsq.step = some .lifting)
    (s.srg.active ≠ 0 ∨ s.den = true ∨ s.srg.dirPending = none → exec .dirPendingChange s = .next s) ∧
    (∀ d, s.srg.dirPending = some d → s.srg.active = 0 → s.den = false → s.releasing = false → lifting = false →
      exec .dirPendingChange s = .next { s with srg := { s.srg with dir := d, dirPending := none } }) ∧
    (∀ d, s.srg.dirPending = some d → s.srg.active = 0 → s.den = false → s.releasing = true ∨ lifting = true →
      s.obs.causes = [] → s.obs.brakes.sbk.command = .applied → s.obs.brakes.sbk.reading = .dropped →
      ∃ t, exec .dirPendingChange s = .next t ∧ DoorsTested s t ∧
        t = { s with
          srg := { s.srg with dir := d, dirPending := none }
          tsq := { s.tsq with driveRequest := true }
          obs := { s.obs with
            liftPending := true
            brakes := ⟨liftedBrake s s.obs.brakes.sbk, liftedBrake s s.obs.brakes.ebk⟩ }
          dru := t.dru })

/-- From v to t step WARNING of a departure begun by START from stop k has ended (R114, R115). With no car over capacity
every RELEASED side is ordered closed, and step CLOSURE begins with its timer; where all four sides are proven the
brake-release step follows at once, at a terminal with the carry-over (R116, R117, R151: Law 5). A car over capacity brings
the line back to STOPPED at its origin, with OVERLOAD. -/
def WarningStepEnded (k : Nat) (v t : State) : Prop :=
  let crowded := decide (v.lts.inForce.capacity < v.load .a ∨ v.lts.inForce.capacity < v.load .b)
  let doors := v.dru.mapCar (fun _ d => d.map (fun d =>
    if d.command = .released then { d with command := .closeOrdered, orders := 0 } else d))
  (crowded = false → allProven doors = false → t = { v with
    tsq := { v.tsq with step := some .closure, closureTimer := some ⟨0, (v.lts.closeTime * 1000).toNat⟩ }
    dru := doors }) ∧
  (crowded = false → allProven doors = true →
    (∀ st c, v.lts.carAtTerminal k st = some c →
      let b := v.bcu.batches.get st
      let boarded := min b.passed (v.load c)
      t.bcu.batches.get st =
        { b with boarded := boarded, carried := b.passed - boarded, passed := b.passed - boarded, state := .opened } ∧
      (t.bcu.batches.get st).boarded + (t.bcu.batches.get st).carried = b.passed) ∧
    t.bcu.loads = v.bcu.loads ∧ t.obs.envelope = true ∧ t.rmu.slipActive = true ∧ t.srg.frozen = true ∧
    t.obs.causes = v.obs.causes ∧ t.lts = v.lts ∧ t.cpt = v.cpt ∧ SameClocks v t ∧
    (∀ p, (v.lpu.ports.get p).subs.getLsbD 5 = true → (t.lpu.ports.get p).events.getLsbD 5 = true) ∧
    (v.obs.causes ≠ [] ∨ v.obs.brakes.sbk.reading = .dropped ∧ v.obs.brakes.sbk.command = .applied →
      t.tsq.state = .departing ∧ t.tsq.step = some .brakeRelease)) ∧
  (crowded = true → CameToStop k v t ∧
    t.bcu = (if v.lts.isTerminal k then { v.bcu with batches := openedBatches v.bcu.batches } else v.bcu) ∧
    t.lpu = (v.raising (stopEvents k v t ++ eventIf (batchChanged v.bcu.batches t.bcu.batches) .batchStateChanged ++
      [.overload])).lpu)

/-- The end of the warning (R69): WARN low, the timer idle, and the end reported to step WARNING, which goes on while
a batch of the origin terminal is not CLOSED (R114). With no warning running nothing changes (assumption 11). -/
def Obligations.WarningEnds : Prop :=
  ∀ s : State,
    (s.srg.warning = none → exec .warningEnd s = .next s) ∧
    (s.srg.warning.isSome = true →
      (s.tsq.state ≠ .departing ∨ s.tsq.step ≠ some .warning ∨
        (s.tsq.resume = false ∧ s.originIsTerminal = true ∧ s.bothClosed = false)) →
      exec .warningEnd s = .next { s with
        srg := { s.srg with warning := none, warn := false }, tsq := { s.tsq with warningEnded := true } })

/-- The end of the warning of a departure begun by START, the batches of a terminal closed: step WARNING ends (R114), with
step DOORS, CLOSURE, and the brake-release step or the return to the origin (`WarningStepEnded`). There a halt entry for the
origin is served, which is DEDUCED from R112 (assumption 12), and e_from, the marks of requests that wait and r_e2 are the
model's (assumptions 22 and 36). -/
def Obligations.WarningEndOrdersDoors : Prop :=
  ∀ (s : State) (k : Nat), s.srg.warning.isSome = true → s.tsq.state = .departing → s.tsq.step = some .warning →
    s.tsq.resume = false → s.tsq.origin = some k → (s.lts.isTerminal k = true → s.bothClosed = true) →
    ∃ t, exec .warningEnd s = .next t ∧ WarningStepEnded k { s with
      srg := { s.srg with warning := none, warn := false }, tsq := { s.tsq with warningEnded := true } } t

/-- From v to t the brake-release step (R117) of a departure begun by RESUME to the stop target g, DIR showing the trip's
direction: the band, factors and setting frozen (R54, R55), the envelope in force with its endpoint (R71, R72), the
windows cleared (R22), the slip check begun (R34), SUSPENDED batches opened (R152), the drive request raised (R119)
and SBK lifted (R92, R94). -/
def BrakesReleased (g : StopTarget) (v t : State) : Prop :=
  let d := v.tsq.direction
  let imbalance : Int := (match d with
    | .up => (v.load .b : Int) - v.load .a
    | .down => (v.load .a : Int) - v.load .b) * v.lts.mAvg
  let band := v.lts.selectBand imbalance
  let fRef := if v.tsq.mode = .reduced then v.lts.fReduced.toNat else 256
  let e := ahead d g.position v.lts.overrunAllow
  DoorsTested v t ∧
  t = { v with
    tsq := { v.tsq with
      step := some .brakeRelease, closureTimer := none, warningEnded := false, driveRequest := true }
    srg := { v.srg with
      band := some band, fRef := fRef, insp := decide (v.tsq.mode = .inspection), ctlTarget := none, frozen := true,
      dirPending := none }
    obs := { v.obs with
      envelope := true, fSup := fRef, inspSup := decide (v.tsq.mode = .inspection),
      aSup := some (v.lts.band band).aSup.toNat, direction := d, ctlStop := false, rollback := .running 0,
      endpoint := some e, eFrom := some g.position, rE2 := 2000 * distance d v.xs e, liftPending := true
      brakes := { v.obs.brakes with sbk := { v.obs.brakes.sbk with
        command := .lifted, proof := .proving, timer := some ⟨0, v.lts.tLift.toNat⟩ } } }
    rmu := { v.rmu with
      channels := v.rmu.channels.mapIdx (fun _ c => { c with window := [], partialMark := true })
      dM2 := 0, dSL := 0, slipActive := true }
    bcu := { v.bcu with batches := v.bcu.batches.mapStation (fun _ b =>
      if b.state = .suspended then { b with state := .opened, settle := none } else b) }
    dru := t.dru
    lpu := (v.raising (eventIf (v.bcu.batches.lower.state = .suspended ∨ v.bcu.batches.upper.state = .suspended)
      .batchStateChanged)).lpu }

/-- The brake-release step (R117) of a departure begun by RESUME, at the end of its warning, DIR showing the trip's
direction: what each block freezes, starts and commands (`BrakesReleased`); the mark of a request that waits is the model's
(assumption 22). -/
def Obligations.ResumeReleasesBrakes : Prop :=
  ∀ (s : State) (g : StopTarget), s.srg.warning.isSome = true → s.tsq.state = .departing →
    s.tsq.step = some .warning → s.tsq.resume = true → s.srg.dir = s.tsq.direction → s.cpt.target = some g →
    s.obs.causes = [] → s.obs.brakes.sbk.command = .applied → s.obs.brakes.sbk.reading = .dropped →
    s.obs.brakes.ebk.command = .lifted → s.tsq.origin = none →
    ∃ t, exec .warningEnd s = .next t ∧ BrakesReleased g { s with
      srg := { s.srg with warning := none, warn := false }, tsq := { s.tsq with warningEnded := true } } t

/-! ### Expiries and field lines -/

/-- SETTLE_EXPIRY settles the batch as if every pending entry had passed in full: the batch CLOSED, its list empty, its
timer idle (R147). The clauses say what follows in step WARNING: nothing while the other batch is not CLOSED or the
warning runs (R148), else the step ends (`WarningStepEnded`, R115); there a halt entry for the origin is served, which is
DEDUCED from R112 (assumption 12), and e_from, the marks of requests that wait and r_e2 are the model's (assumptions 22 and
36). With no settle timer running nothing changes, the model's choice (assumption 11). -/
def Obligations.SettleExpiryCounts : Prop :=
  ∀ (st : Station) (s : State),
    let b := s.bcu.batches.get st
    let settled : Batch := { b with
      passed := b.passed + (b.pending.map (·.persons)).sum, pending := [], state := .closed, settle := none }
    let bcu : Bcu := { s.bcu with batches := s.bcu.batches.set st settled }
    (b.settle = none → exec (.settleExpiry st) s = .next s) ∧
    (b.settle.isSome = true →
      (s.tsq.state ≠ .departing ∨ s.tsq.step ≠ some .warning ∨ s.tsq.warningEnded = false ∨
        (s.tsq.resume = false ∧ s.originIsTerminal = true ∧ ∃ x, (bcu.batches.get x).state ≠ .closed)) →
      exec (.settleExpiry st) s =
        .next (({ s with bcu := bcu } : State).raising (eventIf (b.state ≠ .closed) .batchStateChanged))) ∧
    (∀ k, b.settle.isSome = true → s.tsq.state = .departing → s.tsq.step = some .warning → s.tsq.warningEnded = true →
      s.tsq.resume = false → s.tsq.origin = some k →
      (s.lts.isTerminal k = true → ∀ x, (bcu.batches.get x).state = .closed) →
      ∃ t, exec (.settleExpiry st) s = .next t ∧
        WarningStepEnded k (({ s with bcu := bcu } : State).raising (eventIf (b.state ≠ .closed) .batchStateChanged)) t)

/-- CLOSURE_TIMER_EXPIRY abandons the departure to STOPPED at its origin, with DEPARTURE_FAILED (R116, R118), and an
open request where the origin is a terminal (R145); a halt entry for the origin is served, which is DEDUCED from R112
(assumption 12). Out of step CLOSURE it changes nothing (assumption 11). At the stop e_from and the marks of requests that
wait, and the r_e2 kept, are the model's (assumptions 22 and 36). -/
def Obligations.ClosureExpiryAbandons : Prop :=
  ∀ (s : State) (k : Nat),
    (s.tsq.state ≠ .departing ∨ s.tsq.step ≠ some .closure ∨ s.tsq.closureTimer = none →
      exec .closureTimerExpiry s = .next s) ∧
    (s.tsq.state = .departing → s.tsq.step = some .closure → s.tsq.closureTimer.isSome = true →
      s.tsq.origin = some k → ∃ t, exec .closureTimerExpiry s = .next t ∧ CameToStop k s t ∧
        t.bcu = (if s.lts.isTerminal k then { s.bcu with batches := openedBatches s.bcu.batches } else s.bcu) ∧
        t.lpu = (s.raising (stopEvents k s t ++
          eventIf (batchChanged s.bcu.batches t.bcu.batches) .batchStateChanged ++ [.departureFailed])).lpu)

/-- The fault cause of a brake and its source (Table 5-2). -/
def faultCause : Brake → CauseKind × CauseSource
  | .sbk => (.serviceBrakeFault, .lineSbkf)
  | .ebk => (.emergencyBrakeFault, .lineEbkf)

/-- From s to t a brake's record has become r, and its fault cause has been given (R83, R93 to R95). It joins the list where
the part is committed and its kind is not listed; its severity then raises the braking in force to EMERGENCY where it was
less (R86, R90): each brake commanded LIFTED is APPLIED with a fresh apply proof. Under EMERGENCY braking, or before a
COMMIT, nothing is commanded. The position of the entry between a homing and the next sample is the model's (assumption
39). -/
def BrakeFaulted (b : Brake) (r : BrakeRecord) (s t : State) : Prop :=
  let kind := (faultCause b).1
  (s.lts.committed = true → s.hasCause kind = false → CauseJoined kind (faultCause b).2 s t) ∧
  (s.lts.committed = false ∨ s.hasCause kind = true → t.obs.causes = s.obs.causes ∧ t.tsq.state = s.tsq.state) ∧
  (s.lts.committed = true → s.braking ≠ .emergency →
    EmergencyBraked t ∧ t.obs.brakes.get b = appliedBrake s r ∧
    (∀ x, x ≠ b → t.obs.brakes.get x = appliedBrake s (s.obs.brakes.get x))) ∧
  (s.lts.committed = false ∨ s.braking = .emergency →
    t.obs.brakes = s.obs.brakes.set b r ∧ t.obs.railBrake = s.obs.railBrake ∧ t.tsq = s.tsq ∧ t.srg = s.srg ∧
    t.bcu = s.bcu) ∧
  t.lts = s.lts ∧ t.rmu = s.rmu ∧ t.cpt = s.cpt ∧ SameClocks s t

/-- APPLY_PROOF_TIMEOUT and LIFT_PROOF_TIMEOUT: a proof still PROVING becomes FAILED and gives the brake's fault cause
(R93, R94), which trips the line where no cause is listed, and raises the braking in force to EMERGENCY (`BrakeFaulted`, R84,
R86, R90): each brake commanded LIFTED is then APPLIED with a fresh apply proof. A timer that does not run does nothing
(assumption 11). The position of the cause between a homing and the next sample is the model's (assumption 39). -/
def Obligations.ProofTimeoutFaults : Prop :=
  ∀ (b : Brake) (s : State),
    let r := s.obs.brakes.get b
    (¬ (r.command = .applied ∧ r.proof = .proving) → exec (.applyProofTimeout b) s = .next s) ∧
    (¬ (r.command = .lifted ∧ r.proof = .proving) → exec (.liftProofTimeout b) s = .next s) ∧
    (r.proof = .proving →
      ∃ t, exec (if r.command = .applied then .applyProofTimeout b else .liftProofTimeout b) s = .next t ∧
        BrakeFaulted b { r with proof := .failed, timer := none } s t)

/-- BRAKE_FEEDBACK_CHANGE (R95): the reading kept; a reading that agrees with the command proves it (R93, R94), and the
last proof of a lift request starts the trip (R92, R117) or takes an inspection move to step MOVING (R121); one that
leaves a PROVEN command fails the proof and gives the brake's fault cause (`BrakeFaulted`): a brake commanded APPLIED stays
so, FAILED, and one commanded LIFTED is APPLIED by the EMERGENCY braking, PROVEN by its reading. The position of the cause
between a homing and the next sample is the model's (assumption 39). A change to the reading already held
changes nothing, the model's choice (assumption 11); a proof that FAILED becomes PROVEN by a reading that agrees
(assumption 22). -/
def Obligations.FeedbackProvesOrFaults : Prop :=
  ∀ (b : Brake) (reading : Feedback) (s : State),
    let r := s.obs.brakes.get b
    let proven : BrakeRecord := { r with reading := reading, proof := .proven, timer := none }
    let agrees := decide ((reading = .lifted ∧ r.command = .lifted) ∨ (reading = .dropped ∧ r.command = .applied))
    (r.reading = reading → exec (.brakeFeedbackChange b reading) s = .next s) ∧
    (r.reading ≠ reading → agrees = true → s.obs.liftPending = false → s.obs.applyPending = false →
      ∃ t, exec (.brakeFeedbackChange b reading) s = .next t ∧
        (if b = .sbk ∧ r.proof ≠ .proven then DoorsTested s t else t.dru = s.dru) ∧
        t.obs = { s.obs with
          brakes := s.obs.brakes.set b proven } ∧
        t.lts = s.lts ∧ t.rmu = s.rmu ∧ t.cpt = s.cpt ∧ t.tsq = s.tsq ∧ t.srg = s.srg ∧ t.bcu = s.bcu ∧
        t.lpu = (s.raising (eventIf (someReleased s t) .doorsReleased)).lpu ∧ SameClocks s t) ∧
    (r.reading ≠ reading → agrees = true → r.command = .lifted → s.obs.liftPending = true → s.releasing = true →
      (∀ x, (s.obs.brakes.get x).command = .lifted ∧ (x ≠ b → (s.obs.brakes.get x).proof = .proven)) →
      ∃ t, exec (.brakeFeedbackChange b reading) s = .next t ∧
        t.tsq = { s.tsq with
          state := .running, step := none, resume := false, phase := none, lastChange := s.clock, move := none,
          warningEnded := false, closureTimer := none } ∧
        (t.obs.brakes.get b).proof = .proven ∧ t.obs.liftPending = false ∧ t.obs.causes = s.obs.causes ∧
        t.obs.envelope = s.obs.envelope ∧ t.lts = s.lts ∧ t.rmu = s.rmu ∧ t.cpt = s.cpt ∧ t.bcu = s.bcu ∧
        t.lpu = (s.raising [.tripStateChanged]).lpu ∧ SameClocks s t) ∧
    (r.reading ≠ reading → agrees = true → r.command = .lifted → s.obs.liftPending = true →
      s.tsq.state = .inspecting → s.tsq.step = some .lifting →
      (∀ x, (s.obs.brakes.get x).command = .lifted ∧ (x ≠ b → (s.obs.brakes.get x).proof = .proven)) →
      ∃ t, exec (.brakeFeedbackChange b reading) s = .next t ∧
        (if b = .sbk ∧ r.proof ≠ .proven then DoorsTested s t else t.dru = s.dru) ∧
        t = { s with
          tsq := { s.tsq with step := some .moving }
          obs := { s.obs with liftPending := false, brakes := s.obs.brakes.set b proven }
          dru := t.dru }) ∧
    (agrees = false → r.proof = .proving → r.reading ≠ reading → exec (.brakeFeedbackChange b reading) s = .next { s with
      obs := { s.obs with brakes := s.obs.brakes.set b ({ r with reading := reading }) } }) ∧
    (r.reading ≠ reading → agrees = false → r.proof = .proven →
      ∃ t, exec (.brakeFeedbackChange b reading) s = .next t ∧
        BrakeFaulted b { r with reading := reading, proof := .failed, timer := none } s t)

/-- The apply request of a sample at standstill: made in step STANDSTILL of an arrival, whose step becomes APPLY (R120), and
in step HOLDING of a move that has not made it (R122); SBK is commanded APPLIED (R92), and where it is proven at once the
arrival or the move ends at that sample. Without standstill nothing is commanded. The end of an arrival (R120): SBK's proof puts the line to STOPPED at its target, with the arrival test of both
cars and MISALIGNED_STOP where a car is misaligned (R51), and an open request at a terminal (R145); with the console silent
the line goes on to OUT_OF_SERVICE, its batches SUSPENDED and its doors shut (R123, R103). The end of an inspection move
(R122): SBK's proof in step HOLDING puts the line OUT_OF_SERVICE. At rest e_from and the marks of requests that wait, and the
r_e2 kept, are the model's (assumptions 22 and 36). -/
def Obligations.ArrivalEndsStopped : Prop :=
  (∀ (s : State) (k : Nat) (g : StopTarget), s.tsq.state = .arriving → s.tsq.step = some .apply →
      s.tsq.target = some k → s.cpt.target = some g → s.obs.applyPending = true →
      s.obs.liftPending = false → s.obs.brakes.sbk.command = .applied → s.obs.brakes.sbk.reading = .lifted →
      ∃ t, exec (.brakeFeedbackChange .sbk .dropped) s = .next t ∧
        t.tsq = { s.tsq with
          state := if s.tsq.silent then .outOfService else .stopped
          step := none, resume := false, phase := none, target := some k, lastChange := s.clock, move := none,
          halts := s.tsq.halts.filter (fun e => decide (e.stopIndex ≠ k)), driveRequest := false,
          warningEnded := false, closureTimer := none } ∧
        t.obs.brakes.sbk.proof = .proven ∧ t.obs.envelope = false ∧ t.srg.vRef = 0 ∧ t.srg.holding = 0 ∧
        (∀ c, ∃ r, (t.cpt.cars.get c).arrival = some r ∧ r.stopIndex = g.stopIndex ∧
          r.error = s.estimate c - s.lts.stopMark c g.stopIndex ∧
          r.result = (if s.lts.hasPlatform c g.stopIndex = false then .noPlatform
            else if s.rmu.known = true ∧ (r.error.natAbs : Int) ≤ s.lts.platformWindow then .aligned
            else .misaligned) ∧ (t.cpt.cars.get c).offset = (s.cpt.cars.get c).offset) ∧
        (∀ p, (t.lpu.ports.get p).events.getLsbD 13 = ((s.lpu.ports.get p).events.getLsbD 13 ||
          ((s.lpu.ports.get p).subs.getLsbD 13 &&
            [Car.a, Car.b].any (fun c => (t.cpt.cars.get c).arrival.any (fun r => r.result = .misaligned))))) ∧
        t.rmu = { s.rmu with slipActive := false } ∧ t.obs.causes = s.obs.causes ∧
        (∀ c side, ((t.dru.get c).get side).command = .released ↔ t.mayRelease c side = true) ∧
        t.bcu.loads = s.bcu.loads ∧
        t.bcu.batches = (if s.tsq.silent then
            s.bcu.batches.mapStation (fun _ b => { b with state := .suspended, settle := none })
          else if s.lts.isTerminal k then openedBatches s.bcu.batches else s.bcu.batches) ∧
        t.lts = s.lts ∧ SameClocks s t) ∧
  (∀ s : State, s.tsq.state = .inspecting → s.tsq.step = some .holding → s.obs.applyPending = true →
      s.obs.liftPending = false → s.obs.brakes.sbk.command = .applied → s.obs.brakes.sbk.reading = .lifted →
      ∃ t, exec (.brakeFeedbackChange .sbk .dropped) s = .next t ∧
        t.tsq = { s.tsq with
          state := .outOfService, step := none, resume := false, phase := none, lastChange := s.clock, move := none,
          driveRequest := false, warningEnded := false, closureTimer := none } ∧
        t.obs = { s.obs with
          envelope := false, vPerm2 := none, endpoint := none, eFrom := none, ctlStop := false, excursion := false,
          rollback := .standing 0, applyPending := false
          brakes := { s.obs.brakes with sbk :=
            { s.obs.brakes.sbk with reading := .dropped, proof := .proven, timer := none } } } ∧
        t.srg.vRef = 0 ∧ t.srg.holding = 0 ∧ t.srg.frozen = false ∧ t.rmu = { s.rmu with slipActive := false } ∧
        (∀ st, t.bcu.batches.get st = { s.bcu.batches.get st with state := .suspended, settle := none }) ∧
        t.bcu.loads = s.bcu.loads ∧ t.lts = s.lts ∧ t.cpt = s.cpt ∧ SameClocks s t) ∧
  (∀ s t : State, exec .measurementSample s = .next t → t.obs.causes = [] →
      let atStandstill := s.tsq.state = .arriving ∧ s.tsq.step = some .standstill
      let atHolding := s.tsq.state = .inspecting ∧ s.tsq.step = some .holding
      (atStandstill ∨ atHolding → t.standstill = false →
        t.tsq.state = s.tsq.state ∧ t.tsq.step = s.tsq.step ∧ t.obs.applyPending = s.obs.applyPending ∧
        t.obs.brakes.sbk.command = s.obs.brakes.sbk.command) ∧
      (atStandstill ∨ (atHolding ∧ s.obs.applyPending = false) → t.standstill = true → sbkHasToProve s →
        t.tsq.state = s.tsq.state ∧ t.tsq.step = some (if s.tsq.state = .arriving then .apply else .holding) ∧
        t.obs.applyPending = true ∧ t.obs.brakes.sbk.command = .applied ∧
        (s.obs.brakes.sbk.command = .lifted → t.obs.brakes.sbk = appliedBrake s s.obs.brakes.sbk) ∧
        t.obs.brakes.ebk.command = s.obs.brakes.ebk.command ∧ t.tsq.driveRequest = s.tsq.driveRequest) ∧
      (∀ k, atStandstill → s.tsq.target = some k → t.standstill = true → ¬ sbkHasToProve s →
        t.tsq.state = (if s.tsq.silent then .outOfService else .stopped) ∧ t.tsq.step = none ∧
        t.tsq.target = some k ∧ t.tsq.halts = s.tsq.halts.filter (fun e => decide (e.stopIndex ≠ k)) ∧
        t.tsq.driveRequest = false ∧ t.obs.envelope = false ∧ t.obs.applyPending = false ∧
        t.obs.brakes.sbk.command = .applied ∧ t.obs.brakes.sbk.proof = .proven) ∧
      (atHolding → s.obs.applyPending = false → t.standstill = true → ¬ sbkHasToProve s →
        t.tsq.state = .outOfService ∧ t.tsq.step = none ∧ t.tsq.move = none ∧ t.tsq.driveRequest = false ∧
        t.obs.envelope = false ∧ t.obs.applyPending = false ∧
        t.obs.brakes.sbk.command = .applied ∧ t.obs.brakes.sbk.proof = .proven) ∧
      (atHolding → s.obs.applyPending = true →
        t.tsq.state = .inspecting ∧ t.tsq.step = some .holding ∧ t.obs.applyPending = true ∧
        t.obs.brakes.sbk.command = s.obs.brakes.sbk.command))

/-- PFAIL_CHANGE (R85): the reading kept; ACTIVE gives POWER_FAIL, and SERVICE braking with it (R89). A change to the
reading already held changes nothing, the model's choice (assumption 11), as is the position of the cause between a homing
and the next sample (assumption 39). -/
def Obligations.PfailGivesCause : Prop :=
  ∀ (active : Bool) (s : State),
    (s.obs.pfail = active → exec (.pfailChange active) s = .next s) ∧
    (s.obs.pfail = true → active = false →
      exec (.pfailChange active) s = .next { s with obs := { s.obs with pfail := false } }) ∧
    (s.obs.pfail = false → active = true → s.lts.committed = false →
      exec (.pfailChange active) s = .next { s with obs := { s.obs with pfail := true } }) ∧
    (s.obs.pfail = false → active = true → s.lts.committed = true → s.hasCause .powerFail = false →
      ∃ t, exec (.pfailChange active) s = .next t ∧ t.obs.pfail = true ∧ CauseJoined .powerFail .linePfail s t ∧
        (s.obs.causes = [] → ServiceBraked t ∧ t.obs.brakes.ebk = s.obs.brakes.ebk ∧
          t.obs.railBrake = s.obs.railBrake) ∧
        t.lts = s.lts ∧ t.rmu = s.rmu ∧ t.cpt = s.cpt ∧ SameClocks s t)

/-- A halt request for a stop listed as a new entry (R108, R109), the line neither RUNNING nor STOPPED at the stop. -/
def haltListed (k : Nat) (src : HaltSource) (s : State) : State :=
  ({ s with tsq := { s.tsq with halts := s.tsq.halts ++ [⟨k, [src], s.clock⟩] } } : State).raising [.haltRequestAdded]

/-- A halt request for stop k from a source after the tests of R109, the line not STOPPED at k: the source joins the entry
that stands, or a new entry is listed with HALT_REQUEST_ADDED (R109); on a running trip not in CREEP the target moves to k
when the request is feasible, with TARGET_CHANGED: the line can still brake to the creep distance before k, k lies ahead,
and k is nearer than the target (R111). -/
def haltTaken (k : Nat) (src : HaltSource) (s : State) : State :=
  let listed : State :=
    if s.listed k then
      { s with tsq := { s.tsq with halts := s.tsq.halts.map (fun e =>
          if e.stopIndex = k ∧ ¬ src ∈ e.sources then { e with sources := e.sources ++ [src] } else e) } }
    else haltListed k src s
  let dist := distance s.tsq.direction s.xs (s.stopTarget k)
  let v := s.srg.vRef / 1000
  let nearer := s.tsq.target.any (fun g => beyond s.tsq.direction k g)
  if s.tsq.state = .running ∧ s.tsq.phase ≠ some .creep ∧
      dist ≥ ((v * v / (2 * s.aDec) : Nat) : Int) + s.lts.creepDist ∧ 0 < dist ∧ nearer = true then
    ({ listed with
      tsq := { listed.tsq with target := some k }
      cpt := { s.cpt with target := some ⟨k, s.stopTarget k, false⟩ } } : State).raising [.targetChanged]
  else listed

/-- CALL_LINE_CHANGE (R110): a line that goes ACTIVE asks for a halt at its mapped stop: refused, it changes its reading
alone; served at once where the line stands STOPPED there (R109); else listed, on a running trip with the test of R111.
One that goes INACTIVE, that is UNUSED, or that calls before COMMIT, changes its reading alone. A change to the reading
already held changes nothing, the model's choice (assumption 11). -/
def Obligations.CallLineAsksHalt : Prop :=
  ∀ (line : Fin 8) (active : Bool) (s : State),
    let read := { s with tsq := { s.tsq with callLines := s.tsq.callLines.set line active } }
    (s.tsq.callLines.get line = active → exec (.callLineChange line active) s = .next s) ∧
    (s.tsq.callLines.get line ≠ active → (active = false ∨ s.lts.call line = none ∨ s.lts.committed = false) →
      exec (.callLineChange line active) s = .next read) ∧
    (s.tsq.callLines.get line = false → active = true → s.lts.committed = true → ∀ x ∈ s.lts.call line,
      let refused := decide (s.tsq.state = .configuring ∨ s.lts.stopCount ≤ x.1 ∨ s.lts.onRequest x.1 = false)
      let there := decide (s.tsq.state = .stopped ∧ s.tsq.target = some x.1)
      exec (.callLineChange line active) s = .next
        (if refused then read else if there then read.raising [.haltRequestServed]
        else haltTaken x.1 (.call line x.2) read))

/-- CONSOLE_TIMEOUT (R123) and GATE_LINK_TIMEOUT (R186): the link DOWN with LINK_DOWN on every other port; a silent
console takes an early departure out of service (R118). An expiry of a timer that does not run changes nothing, the model's
choice (assumption 11). -/
def Obligations.ConsoleAndGateTimeouts : Prop :=
  (∀ s : State,
    (s.tsq.consoleTimer = none → exec .consoleTimeout s = .next s) ∧
    (s.tsq.consoleTimer.isSome = true → s.earlyDeparture = false →
      exec .consoleTimeout s = .next
        (({ s with tsq := { s.tsq with silent := true, consoleTimer := none } } : State).raisingLink .p0 .linkDown)) ∧
    (s.tsq.consoleTimer.isSome = true → s.earlyDeparture = true → ∃ t, exec .consoleTimeout s = .next t ∧
      t.tsq.state = .outOfService ∧ t.tsq.step = none ∧ t.tsq.silent = true ∧ t.tsq.consoleTimer = none ∧
      t.srg.warn = false ∧ (∀ st, (t.bcu.batches.get st).state = .suspended) ∧ t.lts = s.lts ∧ t.cpt = s.cpt ∧
      t.obs.causes = s.obs.causes ∧ SameClocks s t)) ∧
  (∀ (st : Station) (s : State),
    ((s.lpu.gateLinks.get st).timer = none → exec (.gateLinkTimeout st) s = .next s) ∧
    ((s.lpu.gateLinks.get st).timer.isSome = true → exec (.gateLinkTimeout st) s = .next
      (({ s with lpu := { s.lpu with gateLinks := s.lpu.gateLinks.set st ⟨false, none⟩ } } : State).raisingLink
        st.port .linkDown)))

/-- CAR_LINK_TIMEOUT makes the car's two counter snapshots absent and keeps its load (R139). -/
def Obligations.CarLinkLossDropsSnapshots : Prop :=
  ∀ (c : Car) (s : State), (s.lpu.carLinks.get c).timer.isSome = true →
    ∃ t, exec (.carLinkTimeout c) s = .next t ∧ (t.bcu.loads.get c).snap = none ∧
      (t.bcu.loads.get c).load = (s.bcu.loads.get c).load ∧ ∀ x, x ≠ c → t.bcu.loads.get x = s.bcu.loads.get x

/-- CAR_LINK_TIMEOUT (R184): the link DOWN, last_odo absent (R39), the doors tested (R127); a line that moves or is
about to is tripped by LINK_LOST with SERVICE braking; a departure before its brake-release step is abandoned with
DEPARTURE_FAILED, to STOPPED at its origin, or to STRANDED when it was begun by RESUME (R118); nothing more while the line
stands. A halt entry for the origin is then served, which is DEDUCED from R112 (assumption 12). A timer that does not run
does nothing, the model's choice (assumption 11). In a departure no side is RELEASED, which Law 3 says (doorLaw). At the
stop e_from and the marks of requests that wait, and the r_e2 kept, are the model's (assumptions 22 and 36), as is the
position of the cause between a homing and the next sample (assumption 39). -/
def Obligations.CarLinkLossTripsMovingLine : Prop :=
  ∀ (c : Car) (s : State),
    ((s.lpu.carLinks.get c).timer = none → exec (.carLinkTimeout c) s = .next s) ∧
    ((s.lpu.carLinks.get c).timer.isSome = true → s.moving = false → s.earlyDeparture = false →
      ∃ t, exec (.carLinkTimeout c) s = .next t ∧ DoorsTested s t ∧
        t.cpt = { s.cpt with cars := s.cpt.cars.set c { s.cpt.cars.get c with lastOdo := none } } ∧
        t.bcu = { s.bcu with loads := s.bcu.loads.set c { s.bcu.loads.get c with snap := none } } ∧
        t.lpu = { ((s.raisingLink c.port .linkDown).raising (eventIf (someReleased s t) .doorsReleased)).lpu with
          carLinks := s.lpu.carLinks.set c ⟨false, none⟩ } ∧
        t.lts = s.lts ∧ t.rmu = s.rmu ∧ t.tsq = s.tsq ∧ t.srg = s.srg ∧ t.obs = s.obs ∧ SameClocks s t) ∧
    ((s.lpu.carLinks.get c).timer.isSome = true → s.moving = true → s.lts.committed = true → s.obs.causes = [] →
      ∃ t, exec (.carLinkTimeout c) s = .next t ∧
        CauseJoined (match c with | .a => .linkLostA | .b => .linkLostB) (.port c.port) s t ∧ ServiceBraked t ∧
        (t.cpt.cars.get c).lastOdo = none ∧ (t.cpt.cars.get c).offset = (s.cpt.cars.get c).offset ∧
        t.lpu.carLinks = s.lpu.carLinks.set c ⟨false, none⟩ ∧ t.lts = s.lts ∧ t.rmu = s.rmu ∧ SameClocks s t) ∧
    ((s.lpu.carLinks.get c).timer.isSome = true → s.earlyDeparture = true → doorLaw s →
      let down : State := { s with
        cpt := { s.cpt with cars := s.cpt.cars.set c { s.cpt.cars.get c with lastOdo := none } }
        bcu := { s.bcu with loads := s.bcu.loads.set c { s.bcu.loads.get c with snap := none } }
        lpu := { (s.raisingLink c.port .linkDown).lpu with carLinks := s.lpu.carLinks.set c ⟨false, none⟩ } }
      ∃ t, exec (.carLinkTimeout c) s = .next t ∧
        (∀ k, s.tsq.origin = some k → s.tsq.resume = false → CameToStop k down t ∧
          t.bcu = (if s.lts.isTerminal k then { down.bcu with batches := openedBatches s.bcu.batches } else down.bcu) ∧
          t.lpu = (down.raising (stopEvents k down t ++
            eventIf (batchChanged s.bcu.batches t.bcu.batches) .batchStateChanged ++ [.departureFailed])).lpu) ∧
        (s.tsq.resume = true → t.tsq = { s.tsq with
            state := .stranded, step := none, resume := false, phase := none, lastChange := s.clock, move := none,
            driveRequest := false, warningEnded := false, closureTimer := none } ∧
          t.obs.envelope = false ∧ t.obs.rollback = .standing 0 ∧ t.obs.causes = s.obs.causes ∧
          t.obs.brakes = s.obs.brakes ∧ t.srg.warn = false ∧ t.srg.vRef = 0 ∧ t.dru = s.dru ∧ t.bcu = down.bcu ∧
          t.lts = s.lts ∧ t.cpt = down.cpt ∧
          t.lpu = (down.raising [.tripStateChanged, .departureFailed]).lpu ∧ SameClocks s t))

/-! ### The ports -/

/-- A byte taken by a receiver (R173): while HUNTING every byte but 0xC3 is discarded; a LEN of 0 or above 250 is
discarded; the bytes after LEN are collected up to the last CHECK byte; a line held low takes no byte (R174).
FRAME_COMPLETE with the last CHECK byte (R175): a wrong CHECK, or a full queue, discards the frame; a right one joins
the queue behind an entry that waits; on an empty queue it is taken at once (`takeFrame`, R176), and its reply waits for a
busy transmitter, or begins at once on an idle one, which leaves the queue empty (R177); before the last byte nothing changes
(assumptions 11 and 15). -/
def Obligations.ReceiverTakesBytes : Prop :=
  (∀ (p : PortId) (b : Byte) (s : State),
      let r := s.lpu.ports.get p
      let becomes (rx : Receiver) := s.updPort p (fun r => { r with rx := rx })
      (r.lineLow = true → exec (.receivedByte p b) s = .next s) ∧
      (r.lineLow = false → r.rx = .hunting →
        exec (.receivedByte p b) s = .next (if b = 0xC3 then becomes .awaitLen else s)) ∧
      (r.lineLow = false → r.rx = .awaitLen → exec (.receivedByte p b) s =
        .next (becomes (if 1 ≤ b.toNat ∧ b.toNat ≤ 250 then .collecting b.toNat [] else .hunting))) ∧
      (∀ len bytes, r.rx = .collecting len bytes → r.lineLow = false → bytes.length < len + 1 →
        exec (.receivedByte p b) s = .next (becomes (.collecting len (bytes ++ [b]))))) ∧
  (∀ (p : PortId) (kind hi lo : Byte) (payload : List Byte) (s : State),
      let r := s.lpu.ports.get p
      let len := payload.length + 1
      let good := decide (crc16 (BitVec.ofNat 8 len :: kind :: payload) = half hi lo)
      (r.rx = .hunting ∨ r.rx = .awaitLen ∨ r.lineLow = true → exec (.frameComplete p lo) s = .next s) ∧
      (r.lineLow = false → r.rx = .collecting len (kind :: payload ++ [hi]) → good = false ∨ 2 ≤ r.queue.length →
        exec (.frameComplete p lo) s = .next (s.updPort p (fun r => { r with rx := .hunting }))) ∧
      (r.lineLow = false → r.rx = .collecting len (kind :: payload ++ [hi]) → good = true → r.queue.length = 1 →
        r.tx.isSome = true → (∀ e ∈ r.queue, e.reply.isSome = true) →
        exec (.frameComplete p lo) s =
          .next (s.updPort p (fun r => { r with rx := .hunting, queue := r.queue ++ [⟨kind, payload, none⟩] }))) ∧
      (r.lineLow = false → r.rx = .collecting len (kind :: payload ++ [hi]) → good = true → r.queue = [] →
        let taken := takeFrame p kind payload
          (s.updPort p (fun r => { r with rx := .hunting, queue := [⟨kind, payload, none⟩] }))
        (r.tx.isSome = true → exec (.frameComplete p lo) s =
          .next (taken.2.updPort p (fun r => { r with queue := [⟨kind, payload, some taken.1⟩] }))) ∧
        (r.tx = none → exec (.frameComplete p lo) s =
          .next (sendReply p kind taken.1 (taken.2.updPort p (fun r => { r with queue := [] })))))) ∧
  (∀ (p : PortId) (lo : Byte) (len : Nat) (bytes : List Byte) (s : State),
      (s.lpu.ports.get p).rx = .collecting len bytes → bytes.length ≠ len + 1 → exec (.frameComplete p lo) s = .next s)

/-- A port that hears the bytes of a frame, from HUNTING with its line high, takes in that frame: its KIND and payload
join the receive queue (R173, R175, Table 10-1). -/
def Obligations.FrameIsReassembled : Prop :=
  ∀ (p : PortId) (f : ReplyFrame) (s : State), f.payload.length ≤ 249 → (s.lpu.ports.get p).rx = .hunting →
    (s.lpu.ports.get p).lineLow = false → s.hears p f.bytes = joinFrame p f.kind f.payload s

/-- The value bytes of a field of n bytes, high byte first, a negative value in two's complement (R178). -/
def be (n : Nat) (v : Int) : List Byte := (List.range n).map (fun i => BitVec.ofInt 8 (v / 256 ^ (n - 1 - i)))

/-- A yes/no field (R178). -/
def yesNo (b : Bool) : List Byte := be 1 (if b then 1 else 0)

/-- An optional field of n value bytes: the presence byte, then the value, or zeros (R178). -/
def optField (n : Nat) (v : Option Int) : List Byte :=
  match v with
  | none => be (n + 1) 0
  | some x => 1 :: be n x

/-- The CAR_ORDER to a car (R134, Table 7-2, Table 10-4): state, next stop, direction, the commands of its two sides and the
rail brake order, after the status OK. -/
def carOrder (c : Car) (s : State) : List Byte :=
  let d := match s.tsq.move with | some m => m.direction | none => s.tsq.direction
  be 1 0 ++ be 1 s.tsq.state.code ++ optField 1 (s.tsq.target.map Int.ofNat) ++ be 1 d.code ++
    be 1 ((s.dru.get c).get .left).command.code ++ be 1 ((s.dru.get c).get .right).command.code ++ yesNo s.obs.railBrake

/-- The door sides of a car once a CAR_ORDER has been sent to it (R129). -/
def ordersCounted (v : PerSide DoorRecord) : PerSide DoorRecord :=
  v.map (fun d => if d.command = .closeOrdered then { d with orders := min (d.orders + 1) 255 } else d)

/-- REPLY_END (R177): with nothing waiting the transmitter is idle; the reply of the taken entry begins at once and the entry
leaves the queue, a CAR_ORDER being formed at that moment and counted (R135, R129); then the next entry is taken (R175), its
reply waiting in the queue (`takeFrame` is the taking, by the tests of R176). FRAME_GAP and FRAMING_ERROR set the receiver
HUNTING (R172, R173); BREAK also empties the queue of frames not taken and holds the receiver until LINE_RETURNED_HIGH
(R174). Nothing else changes. -/
def Obligations.ReplyEndAndLineFaults : Prop :=
  (∀ (p : PortId) (s : State),
      let q := (s.lpu.ports.get p).queue
      let begun (kind : Byte) (reply : List Byte) (rest : List QueueEntry) : State :=
        s.updPort p (fun r => { r with tx := some ⟨kind + 128, reply⟩, queue := rest })
      (q = [] → exec (.replyEnd p) s = .next (s.updPort p (fun r => { r with tx := none }))) ∧
      (∀ (kind : Byte) (payload reply : List Byte), q = [⟨kind, payload, some (.fixed reply)⟩] →
        exec (.replyEnd p) s = .next (begun kind reply [])) ∧
      (∀ (kind : Byte) (payload : List Byte) (c : Car), q = [⟨kind, payload, some (.carOrder c)⟩] →
        exec (.replyEnd p) s =
          .next { begun kind (carOrder c s) [] with dru := s.dru.set c (ordersCounted (s.dru.get c)) }) ∧
      (∀ (kind kind' : Byte) (payload payload' reply : List Byte),
        q = [⟨kind, payload, some (.fixed reply)⟩, ⟨kind', payload', none⟩] →
        let x := takeFrame p kind' payload' (begun kind reply [⟨kind', payload', none⟩])
        exec (.replyEnd p) s =
          .next (x.2.updPort p (fun r => { r with queue := [⟨kind', payload', some x.1⟩] })))) ∧
  (∀ (p : PortId) (s : State),
      exec (.frameGap p) s = .next (s.updPort p (fun r => { r with rx := .hunting })) ∧
      exec (.framingError p) s = .next (s.updPort p (fun r => { r with rx := .hunting })) ∧
      exec (.breakDetected p) s = .next (s.updPort p (fun r =>
        { r with rx := .hunting, lineLow := true, queue := r.queue.filter (fun e => e.reply.isSome) })) ∧
      exec (.lineReturnedHigh p) s = .next (s.updPort p (fun r => { r with lineLow := false })))

/-- What the taking of a valid frame does to link supervision, the port at rest: on P0 the console timer restarts and the
silence ends, with LINK_UP (R123); on a gate port its link timer restarts and a DOWN link comes UP (R186); on a car
port nothing. A negative console_to gives a timer of 0 ms, the model's choice (assumption 34). -/
def Obligations.ValidFrameHeard : Prop :=
  ∀ s : State,
    let limit := (s.lts.consoleTo * 1000).toNat
    (s.portAtRest .p0 = true → s.ready .p0 =
      (if s.tsq.silent then
        ({ s with tsq := { s.tsq with silent := false, consoleTimer := some ⟨0, limit⟩ } } : State).raisingLink .p0 .linkUp
      else { s with tsq := { s.tsq with consoleTimer := some ⟨0, limit⟩ } })) ∧
    (∀ st : Station, s.portAtRest st.port = true → s.ready st.port =
      (let t : State := { s with lpu := { s.lpu with gateLinks := s.lpu.gateLinks.set st ⟨true, some ⟨0, limit⟩⟩ } }
      if (s.lpu.gateLinks.get st).up then t else t.raisingLink st.port .linkUp)) ∧
    (∀ c : Car, s.portAtRest c.port = true → s.ready c.port = s)

/-- The payload of a request, field after field, each of two, three or four bytes high byte first (Table 10-4, R178). -/
def requestPayload : Request → List Byte
  | .status x => [x]
  | .subscribe kinds => be 2 kinds.toNat
  | .start d => [d]
  | .mode m => [m]
  | .timeSet m => be 2 m.toNat
  | .haltCall k => [k]
  | .haltCancel k => [k]
  | .inspectMove d x => d :: be 4 x.toNat
  | .channelService c a => [c, a]
  | .tableWrite t i pr contents => t :: i :: pr :: contents
  | .tableRead t i => [t, i]
  | .carReport r =>
    be 3 r.odoNow.toNat ++ [r.markerPresent, r.markerId] ++ be 3 r.odoAtMarker.toNat ++
      [r.leftClosed, r.leftLocked, r.rightClosed, r.rightLocked] ++ be 2 r.inCounter.toNat ++ be 2 r.outCounter.toNat ++
      [r.haltButton, r.alarmHandle, r.faultFlag]
  | .ticket t =>
    [t.gate] ++ be 4 t.serial.toNat ++ [t.kindClass] ++ be 2 t.product.toNat ++ [t.concession, t.groupSize, t.rides] ++
      be 2 t.days.toNat ++ [t.bought]
  | .passage g ref n => [g, ref, n]
  | .events | .resume | .stop | .emergency | .acknowledge | .serviceOn | .serviceOff | .commit | .stationStatus => []

/-- The payload length that a request kind requires, in kind order from 1 (Table 10-4); that of TABLE_WRITE is 3 and the
length of its table's contents (R181). -/
def requiredLength (kind : Nat) (payload : List Byte) : Nat :=
  if kind = 17 then 3 + [4, 11, 6, 5, 8, 4, 2, 37, 5].getD ((payload.map (·.toNat)).headD 0) 0
  else [1, 0, 2, 1, 0, 0, 0, 0, 1, 0, 0, 2, 1, 1, 5, 2, 3, 2, 0, 19, 14, 3, 0].getD (kind - 1) 0

/-- The tests of R176 in their order: a KIND that is none of the 23 is answered UNKNOWN_KIND; one that its port may not send,
WRONG_PORT; one with a payload of another length, or with a field that its encoding does not define, BAD_ARGUMENT. None
reaches its owner; the frame is heard first (R123, R186; on P0 the model's choice, assumption 40). A frame with the KIND and
the payload that a request is laid out in does what the row of that request does (R178, assumption 3). -/
def Obligations.RequestsRefusedByPorts : Prop :=
  (∀ (c : Instr) (p : PortId) (r : Request) (s : State), requestOf c = some (p, r) →
    (permitted p r.kind = false → exec c s = .next ((s.ready p).answered p r.kind [4])) ∧
    (permitted p r.kind = true → encodingOk r = false → exec c s = .next ((s.ready p).answered p r.kind [3])) ∧
    (encodingOk r = true → (requestPayload r).length = requiredLength r.kind (requestPayload r)) ∧
    let taken := takeFrame p (BitVec.ofNat 8 r.kind) (requestPayload r) (finishReplies p s)
    exec c s = .next (sendReply p (BitVec.ofNat 8 r.kind) taken.1 taken.2)) ∧
  (∀ (p : PortId) (kind : Byte) (payload : List Byte) (s : State),
    let refused (status : Byte) : Prop := takeFrame p kind payload s = (.fixed [status], portHeard p s)
    (kind.toNat = 0 ∨ 24 ≤ kind.toNat → refused 5) ∧
    (1 ≤ kind.toNat ∧ kind.toNat ≤ 23 → permitted p kind.toNat = false → refused 4) ∧
    (permitted p kind.toNat = true → payload.length ≠ requiredLength kind.toNat payload → refused 3))

/-- Section 0 of STATUS, LINE (R180); the remaining travel of a move in mm truncated, the model's (assumption 18). -/
def lineSection (s : State) : List Byte :=
  let t := s.tsq
  let move : List Byte := match t.move with
    | none => be 16 0
    | some m => 1 :: (be 1 m.direction.code ++ be 4 m.distance ++ yesNo m.startKnown ++ optField 4 m.endpoint ++
        be 4 (Int.tdiv m.remaining 2000))
  let place (i : Nat) : List Byte := match t.halts[i]? with
    | none => be 7 0
    | some e => be 1 e.stopIndex ++ be 2 e.marks.toNat ++ be 4 e.time.toNat
  be 1 t.state.code ++ optField 1 (t.step.map (·.code)) ++ yesNo t.resume ++ optField 1 (t.phase.map (·.code)) ++
    be 1 t.direction.code ++ optField 1 (t.origin.map Int.ofNat) ++ optField 1 (t.target.map Int.ofNat) ++
    optField 4 (s.cpt.target.map (·.position)) ++ be 1 t.mode.code ++ be 4 t.lastChange.toNat ++ yesNo t.silent ++ move ++
    be 1 t.halts.length ++ place 0 ++ place 1 ++ place 2 ++ place 3 ++ place 4 ++ place 5 ++ be 4 s.clock.toNat ++
    optField 2 (s.timeOfDay.map Int.ofNat) ++ yesNo s.lts.committed ++ yesNo (!t.silent) ++ yesNo s.lpu.carLinks.a.up ++
    yesNo s.lpu.carLinks.b.up ++ yesNo s.lpu.gateLinks.lower.up ++ yesNo s.lpu.gateLinks.upper.up

/-- Section 1, MEASUREMENT (R180): v_ref in mm/s rounded down; d_t and the tracking error where R53 shows them, d_t as it
stands at the taking, the model's (assumption 35); DIR and WARN by the codes of the model (assumption 18). -/
def measurementSection (s : State) : List Byte :=
  let channel (i : Fin 4) : List Byte :=
    be 1 (s.rmu.channels.get i).state.code ++ be 1 (s.lts.role i) ++ be 2 (s.rmu.channels.get i).vch
  let r := s.srg
  channel 0 ++ channel 1 ++ channel 2 ++ channel 3 ++ be 4 s.xs ++ be 2 s.rmu.vSup ++ be 2 s.rmu.vAvg ++
    yesNo s.rmu.known ++ yesNo s.rmu.twoChannel ++ be 2 (r.vRef / 1000 : Nat) ++ be 2 r.vTgt ++
    optField 1 (r.band.map (fun b => (b.val : Int))) ++ be 2 r.fRef ++ yesNo r.insp ++ optField 1 (r.phase.map (·.code)) ++
    optField 4 (if s.showsTracking then s.targetDistance else none) ++ be 2 s.trackingError ++ be 2 r.active ++
    be 1 r.dir.code ++ yesNo r.warn

/-- Section 2, CARS (R180). -/
def carsSection (s : State) : List Byte :=
  let side (d : DoorRecord) : List Byte :=
    be 1 d.command.code ++ optField 1 (d.closed.map (fun b => if b then 1 else 0)) ++
      optField 1 (d.locked.map (fun b => if b then 1 else 0)) ++ optField 4 (d.reportTime.map (·.toNat)) ++
      be 1 d.orders ++ yesNo (decide (d.command = .holdClosed ∧ d.closed = some true ∧ d.locked = some true))
  let car (c : Car) : List Byte :=
    let u := s.cpt.cars.get c
    let marker : List Byte := match u.lastMarker with
      | none => be 14 0
      | some m => 1 :: (be 1 m.id.toNat ++ be 3 m.odo.toNat ++ be 4 m.error ++ be 1 m.result.code ++ be 4 m.time.toNat)
    let arrival : List Byte := match u.arrival with
      | none => be 7 0
      | some r => 1 :: (be 1 r.result.code ++ be 1 r.stopIndex ++ be 4 r.error)
    let counters : List Byte := match (s.bcu.loads.get c).snap with
      | none => be 5 0
      | some p => 1 :: (be 2 p.inC.toNat ++ be 2 p.outC.toNat)
    be 4 (s.estimate c) ++ be 2 u.offset ++ optField 3 (u.lastOdo.map (·.toNat)) ++ marker ++ arrival ++
      be 1 (s.bcu.loads.get c).load ++ counters ++ side ((s.dru.get c).get .left) ++ side ((s.dru.get c).get .right) ++
      yesNo (s.obs.carFault.get c)
  car .a ++ car .b ++ (match s.cpt.target with
    | none => be 7 0
    | some g => 1 :: (be 1 g.stopIndex ++ be 4 g.position ++ yesNo g.frozen))

/-- Section 3, SUPERVISION (R180): r_e2 in mm rounded toward minus infinity (R70); the measure in mm truncated and the
codes of the readings, LIFTED 1, the model's (assumption 18). -/
def supervisionSection (s : State) : List Byte :=
  let o := s.obs
  let brake (b : BrakeRecord) : List Byte := be 1 b.command.code ++ be 1 b.proof.code
  yesNo o.envelope ++ be 2 o.fSup ++ yesNo o.inspSup ++ optField 2 (o.aSup.map Int.ofNat) ++ be 1 o.direction.code ++
    optField 4 o.endpoint ++ be 4 (o.rE2 / 2000) ++ yesNo o.ctlStop ++
    optField 2 (o.vPerm2.map (fun v => (isqrt v : Int))) ++ yesNo o.excursion ++ yesNo s.standstill ++
    (match o.rollback with
    | .inactive => be 1 0 ++ be 4 0
    | .running rb2 => be 1 1 ++ be 4 (Int.tdiv rb2 2000)
    | .standing st2 => be 1 2 ++ be 4 (Int.tdiv st2 2000)) ++
    be 1 s.braking.code ++ optField 1 (o.trippedFrom.map (·.code)) ++ yesNo o.stopLatch ++ brake o.brakes.sbk ++
    brake o.brakes.ebk ++ yesNo (decide (o.brakes.sbk.reading = .lifted)) ++
    yesNo (decide (o.brakes.ebk.reading = .lifted)) ++ yesNo o.pfail ++ yesNo o.railBrake

/-- Section 4, CAUSES (R180). -/
def causesSection (s : State) : List Byte :=
  be 1 s.obs.causes.length ++ s.obs.causes.flatMap (fun e =>
    be 1 e.kind.code ++ be 1 e.source.code ++ optField 4 e.position ++ be 2 e.speed ++ be 4 e.time.toNat)

/-- Milliseconds left on a settle timer, as an optional field (R154, R180). -/
def settleLeft (b : Batch) : List Byte := optField 4 (b.settle.map (fun x => ((x.limit - x.elapsed : Nat) : Int)))

/-- Section 5, STATIONS (R180). -/
def stationsSection (s : State) : List Byte :=
  let station (b : Batch) : List Byte :=
    be 1 b.state.code ++ be 1 b.passed ++ be 1 b.pending.length ++ be 1 (b.pending.map (·.persons)).sum ++
      be 1 b.carried ++ be 1 b.boarded ++ be 1 b.lastRef ++ settleLeft b ++ be 1 b.recent.length
  station s.bcu.batches.lower ++ station s.bcu.batches.upper

/-- The content of STATION_STATUS (R154): the car at the platform is the one that stands there while the line is STOPPED at
a terminal, car A at the lower station of stop 0 and car B at the upper, the other way at the last stop (R151). -/
def stationContent (st : Station) (s : State) : List Byte :=
  let b := s.bcu.batches.get st
  let pending := (b.pending.map (·.persons)).sum
  let car : Option Car :=
    if s.tsq.state = .stopped then
      if s.tsq.target = some 0 then some (match st with | .lower => .a | .upper => .b)
      else if s.tsq.target.any (fun k => k + 1 = s.lts.stopCount) then some (match st with | .lower => .b | .upper => .a)
      else none
    else none
  be 1 st.code ++ be 1 b.state.code ++ be 1 b.passed ++ be 1 b.pending.length ++ be 1 pending ++
    be 1 (b.passed + pending : Nat) ++ be 1 s.lts.inForce.capacity ++ settleLeft b ++ be 1 b.carried ++ be 1 b.boarded ++
    be 1 (match car with | some .a => 0 | some .b => 1 | none => 2) ++
    optField 1 (car.map (fun c => (s.load c : Int))) ++ be 1 (match st with | .lower => 0 | .upper => 1) ++
    be 1 s.tsq.state.code ++ be 1 s.tsq.mode.code

/-- STATUS changes nothing but its port; its payload is the status OK, the section and the section's fields, of the lengths
of R180, the marks of a halt entry being those of its sources; STATION_STATUS too, with the fields of R154. Where R180 names
a field and no code or rounding, the bytes are the model's (assumption 18, DEDUCED): the two feedback readings as 1 for
LIFTED, the remaining travel of a move and the rollback measure truncated to mm, WARN and PFAIL as yes/no, DIR as a
direction code, and every value modulo its width; so are d_t, formed at the taking (assumption 35), r_e2 without an envelope
(assumption 36), and the console flag and P0 link after a silence, cleared by the STATUS itself (assumption 40). EVENTS answers with the port's event set and empties it; SUBSCRIBE replaces the subscription and
keeps of the event set the kinds subscribed to (R183). -/
def Obligations.StatusAndEventsAnswered : Prop :=
  (∀ s : State,
      (∀ sect : Fin 6, let u := s.ready .p0
        let content := [lineSection u, measurementSection u, carsSection u, supervisionSection u, causesSection u,
          stationsSection u].getD sect.val []
        exec (.status .p0 (BitVec.ofNat 8 sect.val)) s =
          .next (u.answered .p0 1 (0 :: BitVec.ofNat 8 sect.val :: content)) ∧
        content.length = [94, 48, 131, 40, 1 + 13 * u.obs.causes.length, 26].getD sect.val 0) ∧
      (∀ st : Station, let u := s.ready st.port
        exec (.stationStatus st.port) s = .next (u.answered st.port 23 (0 :: stationContent st u)))) ∧
  (∀ (e : HaltEntry) (k : Nat), k < 16 → e.marks.getLsbD k = e.sources.any (fun x => decide (x.mark = k))) ∧
  (∀ (p : PortId) (kinds : Half) (s : State),
      let u := s.ready p
      let set := (u.lpu.ports.get p).events
      exec (.events p) s =
        .next ((u.updPort p (fun r => { r with events := 0 })).answered p 2
          [0, set.extractLsb' 8 8, set.extractLsb' 0 8]) ∧
      exec (.subscribe p kinds) s =
        .next ((u.updPort p (fun r => { r with subs := kinds, events := set &&& kinds })).answered p 3 [0]))

/-! ### Trips and the line's modes -/

/-- What a request for a trip needs of the line (Table 6-4, conditions 3 to 7; R106): the first condition that fails, as
the code of NOT_CLEAR. -/
def tripBlock (u : State) : Option Byte :=
  if ¬ (u.tsq.mode = .normal ∨ u.tsq.mode = .reduced) then some 0
  else if (u.lpu.carLinks.get .a).up = false then some 3
  else if (u.lpu.carLinks.get .b).up = false then some 4
  else if u.rmu.twoChannel = false then some 5
  else if u.obs.causes ≠ [] then some 6
  else none

/-- The trip record, the warning and the doors at the beginning of a departure to stop j (R105, R106, R114, R69,
R128); the marks of requests that wait are the model's (assumption 22). -/
def departed (u : State) (j : Nat) : State :=
  { u with
    tsq := { u.tsq with
      state := .departing, step := some .warning, phase := none, target := some j, lastChange := u.clock,
      move := none, warningEnded := false, closureTimer := none }
    cpt := { u.cpt with target := some ⟨j, u.stopTarget j, false⟩ }
    srg := { u.srg with
      vRef := 0, holding := 0, warning := some ⟨0, (u.lts.warnTime * 1000).toNat⟩, warn := true }
    obs := { u.obs with liftPending := false, applyPending := false }
    dru := u.dru.mapCar (fun _ v => v.map (fun d =>
      if d.command = .released then { d with command := .closeOrdered, orders := 0 } else d)) }

/-- A departure to stop j as `departed` has it, but for the warning: with warn_time 0 no timer starts, WARN stays as it is,
and the end is reported at once (R69). -/
def departedUnwarned (u : State) (j : Nat) : State :=
  { departed u j with
    tsq := { (departed u j).tsq with warningEnded := true }, srg := { u.srg with vRef := 0, holding := 0 } }

/-- START taken (R105): the departure begins in step WARNING, to the nearest served stop beyond stop k in the
direction; at a terminal both batches are asked to close (R146). With warn_time 0 the step goes on only while a batch of the
origin terminal is not CLOSED, and else ends at once (R69, R114, `WarningStepEnded`). The marks of requests that wait are the
model's (assumption 22). -/
def Obligations.StartBeginsDeparture : Prop :=
  ∀ (direction : Byte) (d : Direction) (k j : Nat) (s : State),
    let u := s.ready .p0
    let batches := u.bcu.batches.mapStation (fun _ b =>
      if b.pending = [] then { b with state := .closed, settle := none }
      else { b with state := .closing, settle := some ⟨0, (u.lts.settleTime * 1000).toNat⟩ })
    Direction.ofCode direction = some d → u.tsq.state = .stopped → u.tsq.target = some k → tripBlock u = none →
    u.directionPossible d k = true → u.overloaded = false →
    j < u.lts.stopCount → beyond d k j = true → u.served j = true →
    (∀ i < u.lts.stopCount, beyond d k i = true → beyond d i j = true → u.served i = false) →
    let begun (v : State) : State :=
      let v : State := { v with tsq := { v.tsq with direction := d, origin := some k, resume := false } }
      if u.lts.isTerminal k then
        ({ v with bcu := { u.bcu with batches := batches } } : State).raising
          (.tripStateChanged :: eventIf (batchChanged u.bcu.batches batches) .batchStateChanged)
      else v.raising [.tripStateChanged]
    (1 ≤ u.lts.warnTime → exec (.start .p0 direction) s = .next ((begun (departed u j)).answered .p0 4 [0])) ∧
    (u.lts.warnTime ≤ 0 → u.lts.isTerminal k = true → (∃ st, (batches.get st).state ≠ .closed) →
      exec (.start .p0 direction) s = .next ((begun (departedUnwarned u j)).answered .p0 4 [0])) ∧
    (u.lts.warnTime ≤ 0 → (u.lts.isTerminal k = true → ∀ st, (batches.get st).state = .closed) →
      ∃ t, exec (.start .p0 direction) s = .next (t.answered .p0 4 [0]) ∧
        WarningStepEnded k (begun (departedUnwarned u j)) t)

/-- RESUME taken (R106): a STRANDED line departs to the nearest served stop ahead of its position, without an origin;
no batch is asked to close (R114). With warn_time 0 the brake-release step follows at once (R69, R114, `BrakesReleased`). The
marks of requests that wait are the model's (assumption 22). -/
def Obligations.ResumeBeginsDeparture : Prop :=
  ∀ (j : Nat) (s : State),
    let u := s.ready .p0
    let before (i : Nat) : Bool := decide (distance u.tsq.direction u.xs (u.stopTarget i) > 0)
    u.tsq.state = .stranded → tripBlock u = none → u.overloaded = false →
    j < u.lts.stopCount → before j = true → u.served j = true →
    (∀ i < u.lts.stopCount, before i = true → beyond u.tsq.direction i j = true → u.served i = false) →
    let begun (v : State) : State :=
      ({ v with tsq := { v.tsq with origin := none, resume := true } } : State).raising [.tripStateChanged]
    (1 ≤ u.lts.warnTime → exec (.resume .p0) s = .next ((begun (departed u j)).answered .p0 5 [0])) ∧
    (u.lts.warnTime ≤ 0 → u.srg.dir = u.tsq.direction → u.obs.brakes.sbk.command = .applied →
      u.obs.brakes.sbk.reading = .dropped → u.obs.brakes.ebk.command = .lifted →
      ∃ t, exec (.resume .p0) s = .next (t.answered .p0 5 [0]) ∧
        BrakesReleased ⟨j, u.stopTarget j, false⟩ (begun (departedUnwarned u j)) t)

/-- A START or a RESUME that fails a condition gives the reply of the first one that fails, and nothing changes (R104,
Table 6-4, R106). -/
def Obligations.TripRequestsRefused : Prop :=
  ∀ (direction : Byte) (d : Direction) (s : State), Direction.ofCode direction = some d →
    let u := s.ready .p0
    let start : List Byte :=
      if u.tsq.state ≠ .stopped then [1]
      else match tripBlock u with
        | some c => [2, c]
        | none => if u.directionPossible d (u.tsq.target.getD 0) = false then [2, 7]
          else if u.overloaded then [7] else [0]
    let resume : List Byte :=
      if u.tsq.state ≠ .stranded then [1]
      else match tripBlock u with
        | some c => [2, c]
        | none => if u.nearestServed = none then [2, 8] else if u.overloaded then [7] else [0]
    (start ≠ [0] → exec (.start .p0 direction) s = .next (u.answered .p0 4 start)) ∧
    (resume ≠ [0] → exec (.resume .p0) s = .next (u.answered .p0 5 resume))

/-- STOP (R113): STOP_DEMAND with its port as source; a running trip forms the controlled stop (R88, R65, R48) and keeps
its drive request, and no brake is commanded (R87). EMERGENCY (R113): EMERGENCY_DEMAND with its port as source, and
EMERGENCY braking at once (R90). In CONFIGURING both are refused. Under STOP braking the first sample at standstill sets the
stop latch, commands SBK APPLIED and withdraws the drive (R87, R119); the latch then stays, as it does clear before standstill
and, by the model's choice (assumption 41), at a sample that raises the braking. The position of the cause between a homing and the next
sample is the model's choice (assumption 39). -/
def Obligations.DemandsTrip : Prop :=
  (∀ (p : PortId) (s : State), permitted p 6 = true →
      let u := s.ready p
      (u.tsq.state = .configuring → exec (.stop p) s = .next (u.answered p 6 [1])) ∧
      (u.tsq.state ≠ .configuring → u.hasCause .stopDemand = true → exec (.stop p) s = .next (u.answered p 6 [0])) ∧
      (u.tsq.state ≠ .configuring → u.hasCause .stopDemand = false → u.lts.committed = true →
        ∃ t, exec (.stop p) s = .next (t.answered p 6 [0]) ∧ CauseJoined .stopDemand (.port p) u t ∧
          (u.obs.causes = [] → t.obs.brakes = u.obs.brakes ∧ t.tsq.driveRequest = u.tsq.driveRequest) ∧
          t.lts = u.lts ∧ t.rmu = u.rmu ∧ t.cpt.cars = u.cpt.cars ∧ t.bcu.loads = u.bcu.loads ∧
          t.lpu.carLinks = u.lpu.carLinks ∧ t.lpu.gateLinks = u.lpu.gateLinks ∧ SameClocks u t ∧
          (u.tsq.state = .running → u.obs.causes = [] →
            let v := u.srg.vRef / 1000
            let q : Int := (v * v / (2 * u.aDec) : Nat)
            t.srg.ctlTarget = some (ahead u.obs.direction u.xs q) ∧
            t.obs.endpoint = some (ahead u.obs.direction u.xs (q + u.lts.overrunAllow)) ∧
            t.obs.rE2 = 2000 * (q + u.lts.overrunAllow) ∧ t.obs.ctlStop = true ∧
            t.cpt.target = u.cpt.target.map (fun g => { g with frozen := true })))) ∧
  (∀ (p : PortId) (s : State), permitted p 7 = true →
      let u := s.ready p
      (u.tsq.state = .configuring → exec (.emergency p) s = .next (u.answered p 7 [1])) ∧
      (u.tsq.state ≠ .configuring → u.hasCause .emergencyDemand = true →
        exec (.emergency p) s = .next (u.answered p 7 [0])) ∧
      (u.tsq.state ≠ .configuring → u.hasCause .emergencyDemand = false → u.lts.committed = true →
        ∃ t, exec (.emergency p) s = .next (t.answered p 7 [0]) ∧
          CauseJoined .emergencyDemand (.port p) u t ∧ (u.braking ≠ .emergency → EmergencyBraked t) ∧
          t.lts = u.lts ∧ t.rmu = u.rmu ∧ t.cpt = u.cpt ∧ t.bcu.loads = u.bcu.loads ∧
          t.lpu.carLinks = u.lpu.carLinks ∧ t.lpu.gateLinks = u.lpu.gateLinks ∧ SameClocks u t)) ∧
  (∀ s : State, s.braking = .stop → ∃ t, exec .measurementSample s = .next t ∧
      (t.braking = .stop → t.standstill = true → s.obs.stopLatch = false →
        t.obs.stopLatch = true ∧ t.tsq.driveRequest = false ∧ t.den = false ∧ t.obs.brakes.sbk.command = .applied ∧
        (s.obs.brakes.sbk.command = .lifted → t.obs.brakes.sbk = appliedBrake s s.obs.brakes.sbk) ∧
        t.obs.brakes.ebk.command = s.obs.brakes.ebk.command) ∧
      (t.braking ≠ .stop ∨ t.standstill = false ∨ s.obs.stopLatch = true → t.obs.stopLatch = s.obs.stopLatch) ∧
      (t.braking = .stop → t.standstill = false ∨ s.obs.stopLatch = true → s.tsq.state = .tripped →
        t.obs.brakes.sbk.command = s.obs.brakes.sbk.command ∧ t.obs.brakes.ebk.command = s.obs.brakes.ebk.command ∧
        t.tsq.driveRequest = s.tsq.driveRequest))

/-- The first condition of Table 5-3 that fails, as the code of NOT_CLEAR (R96). -/
def acknowledgeBlock (u : State) : Option Byte :=
  let open_ (c : Car) : Bool :=
    decide (((u.dru.get c).get .left).locked ≠ some true ∨ ((u.dru.get c).get .right).locked ≠ some true)
  let stuck (b : BrakeRecord) : Bool := decide (b.command = .applied ∧ b.reading = .lifted)
  if u.standstill = false then some 9
  else if (u.lpu.carLinks.get .a).up = false then some 3
  else if (u.lpu.carLinks.get .b).up = false then some 4
  else if open_ .a then some 10
  else if open_ .b then some 11
  else if u.obs.pfail then some 12
  else if u.obs.carFault.a then some 13
  else if u.obs.carFault.b then some 14
  else if stuck u.obs.brakes.sbk then some 15
  else if stuck u.obs.brakes.ebk then some 16
  else none

/-- ACKNOWLEDGE: refused outside TRIPPED, or with the first condition of Table 5-3 that fails (R96); taken, it empties the
cause list, clears the stop latch and the rail brake order, lifts EBK, and leads to OUT_OF_SERVICE, STOPPED or STRANDED
(R97). SBK stays as it is commanded, the model's choice where that is LIFTED (assumption 29). -/
def Obligations.AcknowledgeClears : Prop :=
  ∀ s : State,
    let u := s.ready .p0
    (u.tsq.state ≠ .tripped → exec (.acknowledge .p0) s = .next (u.answered .p0 8 [1])) ∧
    (u.tsq.state = .tripped → ∀ c ∈ acknowledgeBlock u,
      exec (.acknowledge .p0) s = .next (u.answered .p0 8 [2, c])) ∧
    (u.tsq.state = .tripped → acknowledgeBlock u = none →
      ∃ t, exec (.acknowledge .p0) s = .next (t.answered .p0 8 [0]) ∧
        t.obs.causes = [] ∧ t.obs.stopLatch = false ∧ t.obs.railBrake = false ∧ t.obs.trippedFrom = none ∧
        t.obs.brakes.ebk.command = .lifted ∧ t.obs.brakes.sbk = u.obs.brakes.sbk ∧
        t.tsq.driveRequest = false ∧ t.tsq.lastChange = u.clock ∧ t.srg.vRef = 0 ∧ t.srg.ctlTarget = none ∧
        t.obs.envelope = false ∧ t.lts = u.lts ∧ t.cpt = u.cpt ∧ SameClocks u t ∧
        t.rmu = { u.rmu with slipActive := false } ∧ t.bcu.loads = u.bcu.loads ∧ DoorsTested u t ∧
        t.lpu = (u.raising (.causesCleared :: .tripStateChanged :: (eventIf (someReleased u t) .doorsReleased ++
          eventIf (decide (t.tsq.halts ≠ u.tsq.halts)) .haltRequestServed ++
          eventIf (batchChanged u.bcu.batches t.bcu.batches) .batchStateChanged))).lpu ∧
        (if u.obs.trippedFrom = some .outOfService ∨ u.obs.trippedFrom = some .inspecting then
          t.tsq.state = .outOfService ∧ t.tsq.target = u.tsq.target ∧ t.tsq.halts = u.tsq.halts
        else match u.standingStop with
          | some k => t.tsq.state = .stopped ∧ t.tsq.target = some k ∧
              t.tsq.halts = u.tsq.halts.filter (fun e => decide (e.stopIndex ≠ k)) ∧
              t.bcu = { u.bcu with batches := openedBatches u.bcu.batches }
          | none => t.tsq.state = .stranded ∧ t.tsq.target = u.tsq.target ∧ t.bcu = u.bcu))

/-- MODE for NORMAL, REDUCED or INSPECTION (Table 6-3): refused in CONFIGURING, and to or from INSPECTION anywhere but
OUT_OF_SERVICE; NOT_CLEAR with POSITION on leaving INSPECTION with the position unknown; else the mode is set, and NORMAL
to REDUCED lowers a frozen factor (R56). -/
def Obligations.ModeChangesLineMode : Prop :=
  ∀ (m : Fin 3) (s : State),
    let u := s.ready .p0
    let mode : LineMode := [.normal, .reduced, .inspection].getD m.val .normal
    let reply : List Byte :=
      if u.tsq.state = .configuring then [1]
      else if (mode = .inspection ∨ u.tsq.mode = .inspection) ∧ u.tsq.state ≠ .outOfService then [1]
      else if u.tsq.mode = .inspection ∧ mode ≠ .inspection ∧ u.rmu.known = false then [2, 1]
      else [0]
    let lowers := decide (u.srg.frozen = true ∧ u.tsq.mode = .normal ∧ mode = .reduced)
    exec (.mode .p0 (BitVec.ofNat 8 m.val)) s = .next (State.answered
      (if reply = [0] then { u with
        tsq := { u.tsq with mode := mode }
        srg := { u.srg with fRef := if lowers then u.lts.fReduced.toNat else u.srg.fRef } }
      else u) .p0 9 reply)

/-- MODE CONFIG (R189): taken in OUT_OF_SERVICE, where the trip state becomes CONFIGURING with the items of Tables 2-1,
4-1, 5-1 and 6-1, every channel UNMAPPED (R23), the committed flag clear and both batches SUSPENDED (R144); answered OK
without effect in CONFIGURING; refused in every other state. The marks of requests that wait are the model's (assumption
22). -/
def Obligations.ModeConfigEntersConfiguring : Prop :=
  ∀ s : State,
    let u := s.ready .p0
    (u.tsq.state = .configuring → exec (.modeConfig .p0) s = .next (u.answered .p0 9 [0])) ∧
    (u.tsq.state ≠ .configuring → u.tsq.state ≠ .outOfService →
      exec (.modeConfig .p0) s = .next (u.answered .p0 9 [1])) ∧
    (u.tsq.state = .outOfService → ∃ t, exec (.modeConfig .p0) s = .next (t.answered .p0 9 [0]) ∧
      t.lts = { u.lts with committed := false } ∧
      t.tsq = { u.tsq with
        state := .configuring, step := none, resume := false, phase := none, direction := .up, origin := none,
        target := none, mode := .config, lastChange := u.clock, move := none, halts := [], driveRequest := false,
        warningEnded := false, closureTimer := none } ∧
      t.cpt = { u.cpt with target := none } ∧
      t.srg = { u.srg with
        vRef := 0, vTgt := 0, band := none, fRef := 256, insp := false, phase := none, ctlTarget := none,
        holding := 0, active := 0, dirPending := none, warning := none, warn := false, frozen := false } ∧
      t.obs = { u.obs with
        envelope := false, fSup := 256, inspSup := false, aSup := none, endpoint := none, eFrom := none, rE2 := 0,
        ctlStop := false, vPerm2 := none, excursion := false, pS := 0, rollback := .inactive, causes := [],
        trippedFrom := none, stopLatch := false, liftPending := false, applyPending := false } ∧
      t.rmu = { u.rmu with
        channels := u.rmu.channels.mapIdx (fun _ _ => ⟨.unmapped, 0, 0, 0, [], true, 0⟩),
        vSup := 0, vAvg := 0, known := false, twoChannel := false, pA := 0, p1 := 0, p2 := 0, slipActive := false } ∧
      (∀ st, t.bcu.batches.get st = { u.bcu.batches.get st with state := .suspended, settle := none }) ∧
      t.bcu.loads = u.bcu.loads ∧ DoorsTested u t ∧
      t.lpu = (u.raising (.tripStateChanged ::
        eventIf (batchChanged u.bcu.batches t.bcu.batches) .batchStateChanged)).lpu ∧ SameClocks u t)

/-- SERVICE_ON (R102): in OUT_OF_SERVICE, in NORMAL or REDUCED, with the position known, a line that stands at a stop
becomes STOPPED there, its origin absent, with an open request at a terminal (R145); else the reply of the first
condition that fails. At the stop e_from and the marks of requests that wait, and the r_e2 kept, are the model's
(assumptions 22 and 36). -/
def Obligations.ServiceOnStops : Prop :=
  ∀ s : State,
    let u := s.ready .p0
    let reply : List Byte :=
      if u.tsq.state ≠ .outOfService then [1]
      else if ¬ (u.tsq.mode = .normal ∨ u.tsq.mode = .reduced) then [2, 0]
      else if u.rmu.known = false then [2, 1]
      else if ∀ i < u.lts.stopCount, u.standsAt i = false then [2, 2] else [0]
    (reply ≠ [0] → exec (.serviceOn .p0) s = .next (u.answered .p0 10 reply)) ∧
    (∀ k < u.lts.stopCount, u.standsAt k = true → (∀ i < k, u.standsAt i = false) → reply = [0] →
      let v : State := { u with tsq := { u.tsq with origin := none } }
      ∃ t, exec (.serviceOn .p0) s = .next (t.answered .p0 10 [0]) ∧ CameToStop k v t ∧
        t.bcu = (if u.lts.isTerminal k then { u.bcu with batches := openedBatches u.bcu.batches } else u.bcu) ∧
        t.lpu = (u.raising (stopEvents k u t ++
          eventIf (batchChanged u.bcu.batches t.bcu.batches) .batchStateChanged)).lpu)

/-- SERVICE_OFF (R103): taken in STOPPED, in STRANDED and before the brake-release step of a departure; the line goes
OUT_OF_SERVICE, its batches SUSPENDED (R144), its doors tested (R127); else refused. Out of service e_from and the marks of
requests that wait, and the r_e2 kept, are the model's (assumptions 22 and 36). -/
def Obligations.ServiceOffLeavesService : Prop :=
  ∀ s : State,
    let u := s.ready .p0
    let taken := decide (u.tsq.state = .stopped ∨ u.tsq.state = .stranded ∨
      (u.tsq.state = .departing ∧ u.tsq.step ≠ some .brakeRelease))
    (taken = false → exec (.serviceOff .p0) s = .next (u.answered .p0 11 [1])) ∧
    (taken = true → ∃ t, exec (.serviceOff .p0) s = .next (t.answered .p0 11 [0]) ∧
      t.tsq = { u.tsq with
        state := .outOfService, step := none, resume := false, phase := none, lastChange := u.clock, move := none,
        driveRequest := false, warningEnded := false, closureTimer := none } ∧
      t.obs = { u.obs with
        envelope := false, vPerm2 := none, endpoint := none, eFrom := none, ctlStop := false, excursion := false,
        rollback := .standing 0, liftPending := false, applyPending := false } ∧
      t.rmu = { u.rmu with slipActive := false } ∧
      t.srg = { u.srg with
        vRef := 0, holding := 0, warning := none, warn := false, frozen := false,
        dirPending := if u.tsq.state = .departing then none else u.srg.dirPending } ∧
      (∀ st, t.bcu.batches.get st = { u.bcu.batches.get st with state := .suspended, settle := none }) ∧
      t.bcu.loads = u.bcu.loads ∧ DoorsTested u t ∧ t.lts = u.lts ∧ t.cpt = u.cpt ∧ SameClocks u t ∧
      t.lpu = (u.raising (.tripStateChanged ::
        eventIf (batchChanged u.bcu.batches t.bcu.batches) .batchStateChanged)).lpu)

/-- HALT_CALL (R109): refused in CONFIGURING; BAD_ARGUMENT beyond the stops; BAD_STOP at a stop that is not ON_REQUEST;
served at once where the line is STOPPED; else its source joins the entry that stands, or a new entry is listed, and on a
running trip not in CREEP a feasible request moves the target, whether the entry is new or not (R111, `haltTaken`). -/
def Obligations.HaltCallLists : Prop :=
  ∀ (k : Byte) (s : State),
    let u := s.ready .p0
    let n := k.toNat
    let refusal : List Byte :=
      if u.tsq.state = .configuring then [1] else if u.lts.stopCount ≤ n then [3]
      else if u.lts.onRequest n = false then [6] else []
    (refusal ≠ [] → exec (.haltCall .p0 k) s = .next (u.answered .p0 13 refusal)) ∧
    (refusal = [] → u.tsq.state = .stopped → u.tsq.target = some n →
      exec (.haltCall .p0 k) s = .next ((u.raising [.haltRequestServed]).answered .p0 13 [0])) ∧
    (refusal = [] → ¬ (u.tsq.state = .stopped ∧ u.tsq.target = some n) →
      exec (.haltCall .p0 k) s = .next ((haltTaken n .console u).answered .p0 13 [0]))

/-- HALT_CANCEL (R112): refused in CONFIGURING and where the trip is already arriving at the stop; OK without effect
where no entry stands; else the entry is removed, and a trip to it goes on to the nearest served stop ahead, the model's
choice where a listed stop that was not feasible lies nearer (assumption 30). -/
def Obligations.HaltCancelRemoves : Prop :=
  ∀ (k : Byte) (s : State),
    let u := s.ready .p0
    let n := k.toNat
    let removed : State := { u with tsq := { u.tsq with
      halts := u.tsq.halts.filter (fun e => decide (e.stopIndex ≠ n)) } }
    let reply : List Byte :=
      if u.tsq.state = .configuring then [1] else if u.lts.stopCount ≤ n then [3]
      else if u.lts.onRequest n = false then [6] else if u.listed n = false then [0]
      else if u.tsq.target = some n ∧ (u.tsq.state = .arriving ∨
        (u.tsq.state = .running ∧ u.tsq.phase = some .creep)) then [1] else []
    (reply ≠ [] → exec (.haltCancel .p0 k) s = .next (u.answered .p0 14 reply)) ∧
    (reply = [] → ¬ (u.tsq.target = some n ∧ (u.tsq.state = .departing ∨ u.tsq.state = .running)) →
      exec (.haltCancel .p0 k) s = .next (removed.answered .p0 14 [0])) ∧
    (∀ j ∈ removed.nearestServed, reply = [] → u.tsq.target = some n →
      (u.tsq.state = .departing ∨ u.tsq.state = .running) →
      exec (.haltCancel .p0 k) s = .next (State.answered
        (({ removed with
          tsq := { removed.tsq with target := some j }
          cpt := { u.cpt with target := some ⟨j, u.stopTarget j, false⟩ } } : State).raising [.targetChanged])
        .p0 14 [0]))

/-- INSPECT_MOVE (R121): BAD_ARGUMENT for a distance outside 1 to 50,000 mm, refused outside OUT_OF_SERVICE, NOT_CLEAR
with MODE outside INSPECTION; taken, the trip state is INSPECTING in step LIFTING, band and setting frozen (R54, R55), the
envelope in force over the distance (R71, R72). With DIR showing its direction, or able to at once, SBK is lifted (R92); else
the direction is pending and no brake is lifted (R68). The absent e_from and the marks of requests that wait are the model's
(assumption 22). -/
def Obligations.InspectMoveBegins : Prop :=
  ∀ (direction : Byte) (d : Direction) (length : Long) (s : State), Direction.ofCode direction = some d →
    let u := s.ready .p0
    let dist : Int := length.toNat
    let refusal : List Byte :=
      if dist < 1 ∨ 50000 < dist then [3] else if u.tsq.state ≠ .outOfService then [1]
      else if u.tsq.mode ≠ .inspection then [2, 0] else []
    let imbalance : Int := (match d with
      | .up => (u.load .b : Int) - u.load .a
      | .down => (u.load .a : Int) - u.load .b) * u.lts.mAvg
    let band := u.lts.selectBand imbalance
    let ends (x : Int) : Option Int := if u.rmu.known then some (ahead d u.xs x) else none
    (refusal ≠ [] → exec (.inspectMove .p0 direction length) s = .next (u.answered .p0 15 refusal)) ∧
    let begun : State := ({ u with
      tsq := { u.tsq with
        state := .inspecting, step := some .lifting, resume := false, phase := none, lastChange := u.clock,
        move := some ⟨d, dist, u.rmu.known, ends dist, 2000 * dist⟩, warningEnded := false, closureTimer := none }
      srg := { u.srg with
        vRef := 0, holding := 0, warning := none, warn := false, band := some band, fRef := 256, insp := true,
        ctlTarget := none, frozen := true }
      obs := { u.obs with
        envelope := true, fSup := 256, inspSup := true, aSup := some (u.lts.band band).aSup.toNat, direction := d,
        ctlStop := false, rollback := .running 0, endpoint := ends (dist + u.lts.overrunAllow), eFrom := none,
        rE2 := 2000 * (dist + u.lts.overrunAllow), liftPending := false, applyPending := false }
      dru := u.dru.mapCar (fun _ v => v.map orderClose) } : State).raising [.tripStateChanged]
    (refusal = [] → u.srg.dir = d ∨ (u.srg.active = 0 ∧ u.tsq.driveRequest = false) → u.obs.causes = [] →
      u.obs.brakes.sbk.command = .applied → u.obs.brakes.sbk.reading = .dropped → u.obs.brakes.ebk.command = .lifted →
      exec (.inspectMove .p0 direction length) s = .next (({ begun with
        tsq := { begun.tsq with driveRequest := true }
        srg := { begun.srg with dir := d, dirPending := none }
        obs := { begun.obs with
          liftPending := true
          brakes := { u.obs.brakes with sbk := { u.obs.brakes.sbk with
            command := .lifted, proof := .proving, timer := some ⟨0, u.lts.tLift.toNat⟩ } } } } : State).answered
          .p0 15 [0])) ∧
    (refusal = [] → u.srg.dir ≠ d → u.srg.active ≠ 0 →
      exec (.inspectMove .p0 direction length) s = .next (({ begun with
        srg := { begun.srg with dirPending := some d } } : State).answered .p0 15 [0]))

/-- CHANNEL_SERVICE with REMOVE or RESTORE (R25): BAD_ARGUMENT for an UNMAPPED channel; refused outside OUT_OF_SERVICE,
for a main channel outside INSPECTION, and for the removal of the last main channel IN_SERVICE; else the channel's state is
set, and a change of a main channel clears the persistence counts (R33). -/
def Obligations.ChannelServiceSetsState : Prop :=
  ∀ (i : Fin 4) (remove : Bool) (s : State),
    let u := s.ready .p0
    let ch := u.rmu.channels.get i
    let main := decide (u.lts.role i = 0 ∨ u.lts.role i = 1)
    let next : ChannelState := if remove then .outOfService else .inService
    let reply : List Byte :=
      if ch.state = .unmapped then [3] else if u.tsq.state ≠ .outOfService then [1]
      else if main = true ∧ u.tsq.mode ≠ .inspection then [1]
      else if remove = true ∧ u.mainsInService = [i] then [1] else [0]
    let counts := decide (main = true ∧ ch.state ≠ next)
    exec (if remove then .channelServiceRemove .p0 (BitVec.ofNat 8 i.val)
        else .channelServiceRestore .p0 (BitVec.ofNat 8 i.val)) s =
      .next (State.answered (if reply = [0] then { u with
        rmu := { u.rmu with
          channels := u.rmu.channels.set i ({ ch with state := next })
          pA := if counts then 0 else u.rmu.pA
          p1 := if counts then 0 else u.rmu.p1
          p2 := if counts then 0 else u.rmu.p2 } } else u) .p0 16 reply)

/-- TIME_SET (R188): minutes from 0 to 1,439 set the time of day and begin a whole minute; a larger value is
BAD_ARGUMENT. TIME_OF_DAY_ADVANCE moves a set time of day by one minute, from 1,439 to 0; an unset one stays unset. -/
def Obligations.TimeOfDaySetAndAdvanced : Prop :=
  (∀ (minutes : Half) (s : State),
      let u := s.ready .p0
      (minutes.toNat ≤ 1439 → exec (.timeSet .p0 minutes) s =
        .next (({ u with timeOfDay := some minutes.toNat, minuteMs := 0 } : State).answered .p0 12 [0])) ∧
      (1440 ≤ minutes.toNat → exec (.timeSet .p0 minutes) s = .next (u.answered .p0 12 [3]))) ∧
  (∀ s : State,
      (s.timeOfDay = none → exec .timeOfDayAdvance s = .next s) ∧
      (∀ m ∈ s.timeOfDay, m < 1440 → exec .timeOfDayAdvance s =
        .next { s with timeOfDay := some (if m = 1439 then 0 else m + 1), minuteMs := 0 }))

/-! ### The tables -/

/-- The bytes of a table entry: its presence, its contents in the layout of R181 and, for a rule, its hit counter (R190). -/
def entryBytes (t : Lts) (table index : Nat) : List Byte :=
  let masked (m : Masked) : List Byte := [m.value, m.mask]
  let cared (c : Cared) : List Byte := [c.value, c.care]
  match table with
  | 0 => (t.params[index]?).elim [] (fun v => yesNo true ++ be 4 v.toInt)
  | 1 => (t.stops[index]?).elim [] (fun e => yesNo e.valid ++ be 4 e.val.markA.toNat ++ be 4 e.val.markB.toNat ++
      [e.val.sideA, e.val.sideB, e.val.service])
  | 2 => (t.segments[index]?).elim [] (fun e => yesNo e.valid ++ be 4 e.val.start.toNat ++ be 2 e.val.cap.toNat)
  | 3 => (t.markers[index]?).elim [] (fun e => yesNo e.valid ++ [e.val.id] ++ be 4 e.val.position.toNat)
  | 4 => (t.bands[index]?).elim [] (fun e => yesNo e.valid ++ be 2 e.val.bound.toInt ++ be 2 e.val.aAcc.toNat ++
      be 2 e.val.aDec.toNat ++ be 2 e.val.aSup.toNat)
  | 5 => (t.channels[index]?).elim [] (fun e => yesNo e.valid ++ [e.val.role] ++ be 2 e.val.pitch.toNat ++ [e.val.sense])
  | 6 => (t.calls[index]?).elim [] (fun e => yesNo e.valid ++ [e.val.stopIndex, e.val.car])
  | 7 => (t.rules[index]?).elim [] (fun e =>
      let r := e.slot.val
      yesNo e.slot.valid ++ [r.stage] ++ masked r.link ++ masked r.gate ++ masked r.kindClass ++
        be 2 r.product.value.toNat ++ be 2 r.product.mask.toNat ++ masked r.concession ++ masked r.groupSize ++
        masked r.range ++ cared r.station ++ cared r.ridesFlag ++ cared r.directionMatch ++ cared r.lineMode ++
        cared r.batchState ++ cared r.fillLevel ++ [r.actionKind, r.linkValue, r.outcome, r.persons, r.reasonCode,
          r.deductRide, r.passbackExempt, r.displayCode] ++ be 2 e.hits)
  | 8 => (t.ranges[index]?).elim [] (fun e =>
      yesNo e.valid ++ [e.val.source] ++ be 2 e.val.low.toNat ++ be 2 e.val.high.toNat)
  | _ => []

/-- Every entry of two states of the tables is the same, but for one entry of one table. -/
def SameBut (table index : Nat) (t u : Lts) : Prop :=
  (∀ i, ¬ (table = 0 ∧ i = index) → t.params[i]? = u.params[i]?) ∧
  (∀ i, ¬ (table = 1 ∧ i = index) → t.stops[i]? = u.stops[i]?) ∧
  (∀ i, ¬ (table = 2 ∧ i = index) → t.segments[i]? = u.segments[i]?) ∧
  (∀ i, ¬ (table = 3 ∧ i = index) → t.markers[i]? = u.markers[i]?) ∧
  (∀ i, ¬ (table = 4 ∧ i = index) → t.bands[i]? = u.bands[i]?) ∧
  (∀ i, ¬ (table = 5 ∧ i = index) → t.channels[i]? = u.channels[i]?) ∧
  (∀ i, ¬ (table = 6 ∧ i = index) → t.calls[i]? = u.calls[i]?) ∧
  (∀ i, ¬ (table = 7 ∧ i = index) → t.rules[i]? = u.rules[i]?) ∧
  (∀ i, ¬ (table = 8 ∧ i = index) → t.ranges[i]? = u.ranges[i]?) ∧
  t.committed = u.committed ∧ t.inForce = u.inForce

/-- TABLE_WRITE in CONFIGURING stores the entry named, presence byte and contents, and for a rule its hit counter at 0, and
leaves every other entry of every table, and all else, as it stands (R181, R190, R162). In any other trip state it is refused
and stores nothing. TABLE_READ answers in every trip state with the entry as it stands, whether or not it was ever written;
after power-on reset that is 0 in every byte of an entry, but for the role of a channel, which reads 3 (R181). -/
def Obligations.WrittenEntryReadsBack : Prop :=
  (∀ (table index presence : Byte) (contents : List Byte) (s : State),
      permitted .p0 17 = true → encodingOk (.tableWrite table index presence contents) = true →
      let u := s.ready .p0
      (u.tsq.state ≠ .configuring →
        exec (.tableWrite .p0 table index presence contents) s = .next (u.answered .p0 17 [1])) ∧
      (u.tsq.state = .configuring → ∃ t,
        exec (.tableWrite .p0 table index presence contents) s = .next (t.answered .p0 17 [0]) ∧
        SameBut table.toNat index.toNat t.lts u.lts ∧ ({ t with lts := u.lts } : State) = u ∧
        entryBytes t.lts table.toNat index.toNat = presence :: contents ++ (if table = 7 then [0, 0] else []) ∧
        ∀ v : State, v.ready .p0 = t → exec (.tableRead .p0 table index) v =
          .next (t.answered .p0 18 (0 :: presence :: contents ++ (if table = 7 then [0, 0] else []))))) ∧
  (∀ (table index : Byte) (s : State), encodingOk (.tableRead table index) = true →
      let u := s.ready .p0
      exec (.tableRead .p0 table index) s =
        .next (u.answered .p0 18 (0 :: entryBytes u.lts table.toNat index.toNat))) ∧
  (∀ table index : Byte, encodingOk (.tableRead table index) = true → table ≠ 0 →
      entryBytes State.reset.lts table.toNat index.toNat =
        (if table = 5 then [0, 3, 0, 0, 0]
        else List.replicate ([0, 12, 7, 6, 9, 0, 3, 40, 6].getD table.toNat 0) 0))

/-- The least and the greatest value of each parameter, in index order (Table 1-1, R12); a dependent bound is taken from the
values written. N and M, given as sets of values, have no range. -/
def paramRanges (t : Lts) : List (Int × Int) :=
  [(100000, 4000000), (500, 12000), (100, 1000), (500, 10000), (t.vCreep, 2000), (100, 5000), (10, 500), (10, 200),
   (100, 2000), (0, 512), (0, 512), (0, 512), (50, 1000), (100, 5000), (50, 5000), (0, 10000), (50, 2000), (10, 500),
   (8, 64), (64, 255), (100, min 1000 t.vLineMax), (1, 250), (40, 120), (0, 20), (1, 60), (5, 120), (100, 2000),
   (100, 2000), (100, 1000), (1, 60), (0, 60), (256, 4096), (0, 2), (0, 2)]

/-- Entry i fails a check of Table 1-3 that reports the lowest index that fails: parameters (R12), stop marks (R13), the sum
check (R14), segments and load bands (R15), markers and call map (R16), rules and range checkers (R17). -/
def entryFails (t : Lts) (check i : Nat) : Prop :=
  match check with
  | 1 => ∃ v ∈ t.params[i]?, ∃ r ∈ (paramRanges t)[i]?, ¬ (r.1 ≤ v.toInt ∧ v.toInt ≤ r.2 ∧
      (i = 18 → v.toInt ∈ [8, 16, 32, 64]) ∧ (i = 31 → v.toInt ∈ [256, 1024, 4096]))
  | 5 => i < t.stopCount ∧ ¬ (0 ≤ t.stopMark .b i ∧ t.stopMark .b i ≤ t.lineLength ∧
      (1 ≤ i → t.stopMark .a (i - 1) < t.stopMark .a i ∧ t.stopMark .b i < t.stopMark .b (i - 1)) ∧
      (t.stop i).sideA.toNat ≤ 3 ∧ (t.stop i).sideB.toNat ≤ 3 ∧ (t.stop i).service.toNat ≤ 2)
  | 6 => i < t.stopCount ∧ 2 * t.maxCorr < (t.stopMark .a i + t.stopMark .b i - t.lineLength).natAbs
  | 8 => ∃ e ∈ t.segments[i]?,
      if ∃ k < i + 1, t.segmentValid k = false then i = 0 ∨ e.valid = true
      else ¬ ((i = 0 → e.val.start = 0) ∧ (1 ≤ i → t.segmentStart (i - 1) < e.val.start.toNat) ∧
        e.val.start.toNat < t.lineLength ∧ t.vCreepSup ≤ e.val.cap.toNat ∧ e.val.cap.toNat ≤ t.vLineMax)
  | 9 => ∃ e ∈ t.bands[i]?, ¬ (e.valid = true ∧ -32767 ≤ e.val.bound.toInt ∧
      (∀ k, i = k + 1 → ∀ f ∈ t.bands[k]?, f.val.bound.toInt < e.val.bound.toInt) ∧
      (∀ a ∈ [e.val.aAcc, e.val.aDec, e.val.aSup], 100 ≤ a.toNat ∧ a.toNat ≤ 2000) ∧
      e.val.aDec.toNat ≤ e.val.aSup.toNat)
  | 11 => ∃ e ∈ t.markers[i]?, e.valid = true ∧ (e.val.id = 0 ∨ t.lineLength < e.val.position.toNat ∨
      ∃ k < i, ∃ f ∈ t.markers[k]?, f.valid = true ∧ f.val.id = e.val.id)
  | 12 => ∃ e ∈ t.calls[i]?, e.valid = true ∧ (2 ≤ e.val.car.toNat ∨ e.val.stopIndex = 0 ∨
      t.stopCount ≤ e.val.stopIndex.toNat + 1 ∨
      t.hasPlatform (if e.val.car = 0 then .a else .b) e.val.stopIndex.toNat = false)
  | 13 => ∃ e ∈ t.rules[i]?, let r := e.slot.val
      e.slot.valid = true ∧ (r.stage = 1 ∨ r.stage = 2) ∧
      (2 ≤ r.actionKind.toNat ∨ 3 ≤ r.outcome.toNat ∨ 16 ≤ r.persons.toNat ∨
        (∃ b ∈ [r.deductRide, r.passbackExempt, r.station.care, r.ridesFlag.care, r.directionMatch.care, r.lineMode.care,
          r.batchState.care, r.fillLevel.care], 2 ≤ b.toNat) ∨ (r.stage = 2 ∧ r.actionKind = 1))
  | 14 => ∃ e ∈ t.ranges[i]?, e.valid = true ∧ e.val.high.toNat < e.val.low.toNat
  | _ => False

/-- A terminal entry is ALWAYS, with a platform for each car (R14). -/
def terminalServed (t : Lts) (k : Nat) : Prop :=
  (t.stop k).service = 0 ∧ (t.stop k).sideA ≠ 0 ∧ (t.stop k).sideB ≠ 0

/-- The first entry of check 10 to fail by its own codes or pitch (R16). -/
def channelFails (t : Lts) (i : Fin 4) : Prop :=
  let e := t.channels.get i
  e.valid = true ∧ (4 ≤ e.val.role.toNat ∨ 2 ≤ e.val.sense.toNat ∨
    (e.val.role ≠ 3 ∧ (e.val.pitch = 0 ∨ 10000 < e.val.pitch.toNat)))

/-- Channel i is the second that holds a role. -/
def secondWithRole (t : Lts) (role : Nat) (i : Fin 4) : Prop :=
  t.role i = role ∧ ∃ j < i, t.role j = role ∧ ∀ k < i, t.role k = role → k = j

/-- A check of Table 1-3 fails with an index (R11 to R17). Of two second holders of a role in check 10, MAIN1's is reported
before the others': DEDUCED (assumption 26). -/
def checkFails (t : Lts) (check i : Nat) : Prop :=
  match check with
  | 2 => (t.margin2 ≤ t.margin1 ∧ i = 10) ∨ (t.margin1 < t.margin2 ∧ t.margin3 ≤ t.margin2 ∧ i = 11)
  | 3 => (t.stopValid 0 = false ∧ i = 0) ∨ (t.stopValid 0 = true ∧ t.stopValid 1 = false ∧ i = 1) ∨
      (t.stopValid 0 = true ∧ t.stopValid 1 = true ∧ t.stopValid i = true ∧ (∃ j < i, t.stopValid j = false) ∧
        ∀ k < i, t.stopValid k = true → ∀ j < k, t.stopValid j = true)
  | 4 => (t.stopMark .a 0 ≠ 0 ∧ i = 0) ∨
      (t.stopMark .a 0 = 0 ∧ t.stopMark .a (t.stopCount - 1) ≠ t.lineLength ∧ i = t.stopCount - 1)
  | 7 => (¬ terminalServed t 0 ∧ i = 0) ∨
      (terminalServed t 0 ∧ ¬ terminalServed t (t.stopCount - 1) ∧ i = t.stopCount - 1)
  | 10 => (∃ c : Fin 4, i = c.val ∧ channelFails t c ∧ ∀ d < c, ¬ channelFails t d) ∨
      ((∀ c, ¬ channelFails t c) ∧ (((∀ c, t.role c ≠ 0) ∧ i = 0) ∨
        ∃ c : Fin 4, i = c.val ∧ (∃ c, t.role c = 0) ∧ (secondWithRole t 0 c ∨
          ((∀ d, ¬ secondWithRole t 0 d) ∧ (secondWithRole t 1 c ∨ secondWithRole t 2 c) ∧
            ∀ d < c, ¬ secondWithRole t 1 d ∧ ¬ secondWithRole t 2 d))))
  | _ => entryFails t check i ∧ ∀ k < i, ¬ entryFails t check k

/-- What a COMMIT whose checks all pass makes of the part (R191), before a POWER_FAIL: the tables' contents as they were,
committed, with four values in force (R190) and the hit counters 0 (R162); the line OUT_OF_SERVICE in INSPECTION (Table
6-1); the channels in their roles' states, the position UNKNOWN, the persistence counts and the slip accumulators 0, the
slip check inactive (R23, R33, R34); the SRG and the OBS at their COMMIT values (Tables 4-1 and 5-1), both brakes under fresh
proofs (R92). The marks of requests that wait are the model's (assumption 22). -/
def Committed (u t : State) : Prop :=
  t.lts = { u.lts with
    committed := true
    rules := u.lts.rules.map (fun e => { e with hits := 0 })
    inForce := ⟨u.lts.windowLength.toNat, u.lts.modulusStored.toNat, u.lts.capacityStored.toNat, u.lts.maxCorr.toNat⟩ } ∧
  t.tsq = { u.tsq with
    state := .outOfService, step := none, resume := false, phase := none, direction := .up, origin := none, target := none,
    mode := .inspection, lastChange := u.clock, move := none, halts := [], driveRequest := false, warningEnded := false,
    closureTimer := none } ∧
  (∀ i, t.rmu.channels.get i = { u.rmu.channels.get i with
    state := if u.lts.role i ≤ 2 then .inService else .unmapped
    edges := 0, c := 0, d := 0, window := [], partialMark := true }) ∧
  t.rmu = { u.rmu with
    channels := t.rmu.channels, x2 := 0, known := false, pA := 0, p1 := 0, p2 := 0, dM2 := 0, dSL := 0,
    slipActive := false, twoChannel := decide ((∃ i, u.lts.role i = 0) ∧ ∃ i, u.lts.role i = 1) } ∧
  t.cpt = ⟨⟨⟨0, none, none, none⟩, ⟨0, none, none, none⟩⟩, none⟩ ∧
  t.obs = { u.obs with
    envelope := false, fSup := 256, inspSup := false, aSup := none, endpoint := none, eFrom := none, rE2 := 0,
    ctlStop := false, vPerm2 := none, excursion := false, pS := 0, rollback := .standing 0, causes := [],
    trippedFrom := none, stopLatch := false, railBrake := false, liftPending := false, applyPending := false
    brakes := ⟨{ u.obs.brakes.sbk with
        command := .applied
        proof := if u.obs.brakes.sbk.reading = .dropped then .proven else .proving
        timer := if u.obs.brakes.sbk.reading = .dropped then none else some ⟨0, u.lts.tApply.toNat⟩ },
      { u.obs.brakes.ebk with
        command := .lifted
        proof := if u.obs.brakes.ebk.reading = .lifted then .proven else .proving
        timer := if u.obs.brakes.ebk.reading = .lifted then none else some ⟨0, u.lts.tLift.toNat⟩ }⟩ } ∧
  t.standstill = u.standstill ∧
  t.srg = { u.srg with
    vRef := 0, vTgt := 0, band := none, fRef := 256, insp := false, phase := none, ctlTarget := none, holding := 0,
    active := 0, dirPending := none, warning := none, warn := false, frozen := false } ∧
  t.bcu.loads = u.bcu.loads ∧
  (∀ st, t.bcu.batches.get st = ⟨.suspended, 0, [], 0, [], none, 0, 0⟩) ∧ DoorsTested u t ∧
  t.lpu = (u.raising (.tripStateChanged :: .configCommitted ::
    eventIf (batchChanged u.bcu.batches t.bcu.batches) .batchStateChanged)).lpu ∧ SameClocks u t

/-- COMMIT (R191): refused outside CONFIGURING; VALIDATION_FAILED with the table and the index of the first check of
Table 1-3 that fails, each check stated by its rule (R11 to R17), nothing changed; which of two second holders of roles
check 10 reports is DEDUCED (assumption 26); with no check failing the commit is taken, and with PFAIL ACTIVE the line then
trips from OUT_OF_SERVICE by POWER_FAIL (R85, R89). In what a COMMIT leaves (`Committed`), e_from and the marks of requests
that wait are the model's (assumption 22). -/
def Obligations.CommitLeavesConfiguring : Prop :=
  ∀ s : State,
    let u := s.ready .p0
    (u.tsq.state ≠ .configuring → exec (.commit .p0) s = .next (u.answered .p0 19 [1])) ∧
    (u.tsq.state = .configuring → ∀ check i, checkFails u.lts check i →
      (∀ earlier < check, ∀ k, ¬ checkFails u.lts earlier k) →
      exec (.commit .p0) s = .next (u.answered .p0 19
        [9, [0, 0, 0, 1, 1, 1, 1, 1, 2, 4, 5, 3, 6, 7, 8].getD check 0, BitVec.ofNat 8 i])) ∧
    (u.tsq.state = .configuring → (∀ check i, ¬ checkFails u.lts check i) → ∃ v, Committed u v ∧
      (u.obs.pfail = false → exec (.commit .p0) s = .next (v.answered .p0 19 [0])) ∧
      (u.obs.pfail = true → ∃ t, exec (.commit .p0) s = .next (t.answered .p0 19 [0]) ∧
        CauseJoined .powerFail .linePfail v t ∧ ServiceBraked t ∧ t.obs.brakes = v.obs.brakes ∧
        t.obs.railBrake = false ∧ t.lts = v.lts ∧ t.rmu = v.rmu ∧ t.cpt = v.cpt ∧ t.bcu = v.bcu ∧ SameClocks v t))

/-! ### Cars and gates -/

/-- A car's load after a report (R138): the first report only takes the snapshots; a later one adds the in count and takes
off the out count, each modulo 65,536, held to 0 to 255. -/
def loadAfter (r : CarReport) (l : LoadRecord) : Nat :=
  match l.snap with
  | none => l.load
  | some p =>
    let v : Int := (l.load : Int) + (r.inCounter - p.inC).toNat - (r.outCounter - p.outC).toNat
    (max 0 (min v 255)).toNat

/-- A door side whose contacts a report has written, with its closure rules taken (R125, R130). -/
def sideReported (closed locked : Byte) (now : Long) (d : DoorRecord) : DoorRecord :=
  let shut := decide (closed = 1 ∧ locked = 1)
  let e := { d with closed := some (decide (closed = 1)), locked := some (decide (locked = 1)), reportTime := some now }
  if d.command = .closeOrdered ∧ shut = true ∧ 1 ≤ d.orders then { e with command := .holdClosed }
  else if d.command = .holdClosed ∧ shut = false then { e with command := .closeOrdered, orders := 0 }
  else e

/-- A door side after a test moment at which its five conditions hold or do not (R126, R128). -/
def sideTested (ok : Bool) (d : DoorRecord) : DoorRecord :=
  if ok = true ∧ d.command ≠ .released then { d with command := .released, orders := 0 }
  else if ok = false ∧ d.command = .released then { d with command := .closeOrdered, orders := 0 }
  else d

/-- The line after a test moment of its four door sides, DOORS_RELEASED raised where one is released (R127, R132). -/
def doorsTestedAt (s : State) : State :=
  let t : State := { s with dru := s.dru.mapCar (fun c v =>
    ⟨sideTested (s.mayRelease c .left) v.left, sideTested (s.mayRelease c .right) v.right⟩) }
  t.raising (eventIf (someReleased s t) .doorsReleased)

/-- The line with a car heard: its link UP with its timer restarted; a link that was DOWN raises LINK_UP on every other port
and has the doors tested (R185, R127). -/
def linkHeard (c : Car) (u : State) : State :=
  let up : State := { u with lpu := { u.lpu with
    carLinks := u.lpu.carLinks.set c ⟨true, some ⟨0, u.lts.carLinkTo.toNat⟩⟩ } }
  if (u.lpu.carLinks.get c).up then up else doorsTestedAt (up.raisingLink c.port .linkUp)

/-- The four door sides with a car's two sides reported (R125, R130). -/
def doorsReported (c : Car) (r : CarReport) (s : State) : PerCar (PerSide DoorRecord) :=
  s.dru.set c ⟨sideReported r.leftClosed r.leftLocked s.clock (s.dru.get c).left,
    sideReported r.rightClosed r.rightLocked s.clock (s.dru.get c).right⟩

/-- A report makes the all-proven condition true (R131). -/
def provesDoors (c : Car) (r : CarReport) (u : State) : Bool :=
  !allProven (linkHeard c u).dru && allProven (doorsReported c r (linkHeard c u))

/-- The line with a report taken that brings no marker and no cause and ends no step: the link, last_odo, the load and the
fault flag, the doors reported, with DOORS_PROVEN_CLOSED where they all become proven, and then tested (R179). -/
def reportTaken (c : Car) (r : CarReport) (u : State) : State :=
  let h := linkHeard c u
  doorsTestedAt (({ h with
    cpt := { h.cpt with cars := h.cpt.cars.set c { h.cpt.cars.get c with lastOdo := some r.odoNow } }
    bcu := { h.bcu with
      loads := h.bcu.loads.set c ⟨loadAfter r (h.bcu.loads.get c), some ⟨r.inCounter, r.outCounter⟩⟩ }
    obs := { h.obs with carFault := h.obs.carFault.set c (decide (r.faultFlag = 1)) }
    dru := doorsReported c r h } : State).raising (eventIf (provesDoors c r u) .doorsProvenClosed))

/-- The line with a CAR_ORDER begun in answer to a report, the order sequences of the car raised (R129, R135, R177). -/
def orderBegun (c : Car) (s : State) : State :=
  ({ s with dru := s.dru.set c (ordersCounted (s.dru.get c)) } : State).answered c.port 20 (carOrder c s)

/-- A stop that a press of a car's halt button may ask for: ahead (R107), ON_REQUEST, with a platform for the car (R110). -/
def buttonStop (c : Car) (u : State) (k : Nat) : Prop :=
  k < u.lts.stopCount ∧ u.isAhead k = true ∧ u.lts.onRequest k = true ∧ u.lts.hasPlatform c k = true

/-- The line after a press of a car's halt button: nothing without a stop to ask for or in CONFIGURING; served at once where
the line stands STOPPED; else listed (R109 to R111). -/
def Pressed (c : Car) (u v : State) : Prop :=
  ((∀ k, ¬ buttonStop c u k) → v = u) ∧
  (∀ k, buttonStop c u k → (∀ j, buttonStop c u j → j ≠ k → beyond u.tsq.direction k j = true) →
    v = if u.tsq.state = .configuring then u
      else if u.tsq.state = .stopped ∧ u.tsq.target = some k then u.raising [.haltRequestServed]
      else haltTaken k (.button c) u)

/-- A running check is made of a report's contacts (R133). -/
def doorsWatched (u : State) : Bool :=
  u.releasing || decide (u.tsq.state = .running) || decide (u.tsq.state = .arriving)

/-- A side is proven once a report shows it closed and locked: held closed, or ordered closed by an order sent before
(R130). -/
def closesWith (d : DoorRecord) (closed locked : Byte) : Prop :=
  closed = 1 ∧ locked = 1 ∧ (d.command = .holdClosed ∨ (d.command = .closeOrdered ∧ 1 ≤ d.orders))

/-- The contacts of a report give no cause, and its proof of closure ends no step (R116, R131, R133). -/
def DoorsQuiet (c : Car) (r : CarReport) (u : State) : Prop :=
  (doorsWatched u = false ∨ (r.leftLocked = 1 ∧ r.rightLocked = 1)) ∧
  ¬ (u.tsq.state = .departing ∧ u.tsq.step = some .closure ∧ provesDoors c r u = true)

/-- CAR_REPORT (R179). Every one that passes the tests brings its link up and restarts its timer (R185), sets last_odo (R40),
the load (R138) and the fault flag (R85), and is answered by the CAR_ORDER of the line as it then stands (R134, R135).
Without a marker, a handle that counts (R113), a fault, an unlocked side under the running check or a closure that ends a
step, the line after it is given whole, in every trip state (`reportTaken`, `orderBegun`): the halt button asks for the
nearest stop it may (R110, `Pressed`); a link that was DOWN raises LINK_UP and has the doors tested (R136); the car's sides
are reported (R125, R130, R131); all four are tested, with their releases and withdrawals (R126 to R128, R132); the reply's
order is counted (R129); nothing else changes. The alarm handle gives STOP_DEMAND (R113), the fault flag CAR_FAULT (R85), an
unlocked side under the running check DOOR_UNLOCKED_RUNNING, the side ordered closed (R133), a kind already listed staying
as it is (R83); of the doors at a handle or a fault the statement says nothing. The running check is made in the trip state
that the earlier blocks left (assumption 31). The closure of all four sides in step CLOSURE begins the brake-release step
(R116, R131). The bytes of an absent marker are ignored and a negative car_link_to gives 0 ms, the model's choices
(assumptions 33 and 34), as is the position of a cause between a homing and the next sample (assumption 39). -/
def Obligations.CarReportTaken : Prop :=
  ∀ (c : Car) (r : CarReport) (s : State), encodingOk (.carReport r) = true →
    let p := c.port
    let u := s.ready p
    ∃ t, exec (.carReport p r) s = .next t ∧
      (t.lpu.ports.get p).tx = some ⟨148, carOrder c t⟩ ∧
      t.lpu.carLinks = u.lpu.carLinks.set c ⟨true, some ⟨0, u.lts.carLinkTo.toNat⟩⟩ ∧
      (t.cpt.cars.get c).lastOdo = some r.odoNow ∧
      t.bcu.loads = u.bcu.loads.set c ⟨loadAfter r (u.bcu.loads.get c), some ⟨r.inCounter, r.outCounter⟩⟩ ∧
      t.obs.carFault = u.obs.carFault.set c (decide (r.faultFlag = 1)) ∧ t.lts = u.lts ∧ SameClocks u t ∧
      (r.markerPresent = 0 → r.alarmHandle = 0 ∨ u.tsq.state = .configuring → r.faultFlag = 0 → DoorsQuiet c r u →
        ∀ v, (if r.haltButton = 1 then Pressed c u v else v = u) → t = orderBegun c (reportTaken c r v)) ∧
      (r.markerPresent = 0 → r.alarmHandle = 1 → r.faultFlag = 0 → u.lts.committed = true → u.tsq.state ≠ .configuring →
        u.obs.causes = [] ∨ DoorsQuiet c r u →
        (u.hasCause .stopDemand = true → t.obs.causes = u.obs.causes) ∧
        (u.hasCause .stopDemand = false → CauseJoined .stopDemand (.car c) u t ∧ t.obs.brakes = u.obs.brakes)) ∧
      (r.markerPresent = 0 → r.alarmHandle = 0 → r.faultFlag = 1 → u.lts.committed = true →
        u.obs.causes = [] ∨ DoorsQuiet c r u →
        (u.hasCause .carFault = true → t.obs.causes = u.obs.causes) ∧
        (u.hasCause .carFault = false → CauseJoined .carFault (.car c) u t ∧
          (u.braking = .none ∨ u.braking = .stop → ServiceBraked t))) ∧
      (r.markerPresent = 0 → r.alarmHandle = 0 → r.faultFlag = 0 →
        (doorsWatched u = false ∨ (r.leftLocked = 1 ∧ r.rightLocked = 1) → t.obs.causes = u.obs.causes) ∧
        (doorsWatched u = true → r.leftLocked = 0 ∨ r.rightLocked = 0 → u.lts.committed = true →
          (r.leftLocked = 0 → (t.dru.get c).left.command = .closeOrdered) ∧
          (r.rightLocked = 0 → (t.dru.get c).right.command = .closeOrdered) ∧
          (u.hasCause .doorUnlockedRunning = true → t.obs.causes = u.obs.causes) ∧
          (u.hasCause .doorUnlockedRunning = false → CauseJoined .doorUnlockedRunning (.car c) u t ∧
            (u.braking = .none ∨ u.braking = .stop → ServiceBraked t)))) ∧
      (r.markerPresent = 0 → r.haltButton = 0 → r.alarmHandle = 0 → r.faultFlag = 0 → u.tsq.state = .departing →
        u.tsq.step = some .closure → u.obs.causes = [] → u.obs.brakes.sbk.command = .applied →
        u.obs.brakes.sbk.reading = .dropped → allProven u.dru = false →
        closesWith (u.dru.get c).left r.leftClosed r.leftLocked →
        closesWith (u.dru.get c).right r.rightClosed r.rightLocked →
        (∀ x side, x ≠ c → ((u.dru.get x).get side).command = .holdClosed ∧
          ((u.dru.get x).get side).closed = some true ∧ ((u.dru.get x).get side).locked = some true) →
        t.tsq.state = .departing ∧ t.tsq.step = some .brakeRelease ∧ t.tsq.closureTimer = none ∧
        t.obs.envelope = true ∧ t.obs.rollback = .running 0 ∧ t.rmu.slipActive = true ∧ t.srg.frozen = true ∧
        t.obs.causes = [] ∧ (∀ x side, ((t.dru.get x).get side).command = .holdClosed) ∧
        (∀ q, (u.lpu.ports.get q).subs.getLsbD 5 = true → (t.lpu.ports.get q).events.getLsbD 5 = true))

/-- The stop target of stop k with the offsets as they stand (R46): the place where the one car with a platform stands on its
mark, or the midpoint of both places rounded down. -/
def stopPlace (t : State) (k : Nat) : Int :=
  let a := t.lts.stopMark .a k - (t.cpt.cars.get .a).offset
  let b := t.lts.lineLength + (t.cpt.cars.get .b).offset - t.lts.stopMark .b k
  match t.lts.hasPlatform .a k, t.lts.hasPlatform .b k with
  | true, false => a
  | false, true => b
  | _, _ => (a + b) / 2

/-- A car report with a marker record (R43). Before COMMIT, with an id of no valid entry, or as a repeat, the record is
ignored. With the position UNKNOWN it homes the line (R37), and a move's endpoint is formed from the homed position (R122),
the remaining travel truncated to mm, which is the model's (assumption 18). With it KNOWN, it corrects the car's offset within
max_corr (R44, R45), and a stop target that is not frozen is formed anew by R46 while a frozen one stays (R47, R48); beyond
the tolerance it gives POSITION_MISMATCH and leaves the offset. -/
def Obligations.MarkerHomesOrCorrects : Prop :=
  ∀ (c : Car) (r : CarReport) (s : State), encodingOk (.carReport r) = true → r.markerPresent = 1 →
    let p := c.port
    let u := s.ready p
    let delta := (r.odoNow - r.odoAtMarker).toInt
    let car := u.cpt.cars.get c
    let estimate : Int := match c with
      | .a => u.xs + car.offset
      | .b => u.lts.lineLength - u.xs + car.offset
    let lim : Int := u.lts.inForce.maxCorr
    let repeats := decide (∃ l ∈ car.lastMarker, l.id = r.markerId ∧ l.odo = r.odoAtMarker)
    let quiet := decide (r.haltButton = 0 ∧ r.alarmHandle = 0)
    (u.lts.committed = false ∨ u.lts.markerPosition r.markerId = none ∨ repeats = true →
      ∃ t, exec (.carReport p r) s = .next t ∧ t.rmu.known = u.rmu.known ∧ t.rmu.x2 = u.rmu.x2 ∧
        t.cpt.cars = u.cpt.cars.set c { car with lastOdo := some r.odoNow } ∧
        (quiet = true → t.cpt.target = u.cpt.target)) ∧
    (∀ m, u.lts.committed = true → u.lts.markerPosition r.markerId = some m → repeats = false →
      let e := m - (estimate - delta)
      let homed : Int := match c with
        | .a => m - delta
        | .b => u.lts.lineLength - (m + delta)
      ∃ t, exec (.carReport p r) s = .next t ∧ t.lts = u.lts ∧
        (t.cpt.cars.get c).lastOdo = some r.odoNow ∧ (∀ x, x ≠ c → t.cpt.cars.get x = u.cpt.cars.get x) ∧
        (u.rmu.known = false →
          t.rmu.known = true ∧ t.rmu.x2 = 2000 * homed ∧
          (t.cpt.cars.get c).lastMarker = some ⟨r.markerId, r.odoAtMarker, 0, .homed, u.clock⟩ ∧
          (t.cpt.cars.get c).offset = car.offset ∧ (quiet = true → t.cpt.target = u.cpt.target) ∧
          (u.tsq.state = .inspecting → r.alarmHandle = 0 → r.faultFlag = 0 →
            t.tsq.move = u.tsq.move.map (fun v =>
              { v with endpoint := some (ahead v.direction homed (Int.tdiv v.remaining 2000)) }))) ∧
        (u.rmu.known = true → (e.natAbs : Int) ≤ u.lts.markerTol →
          t.rmu.known = true ∧ t.rmu.x2 = u.rmu.x2 ∧
          (t.cpt.cars.get c).offset = max (-lim) (min lim (car.offset + e)) ∧
          (t.cpt.cars.get c).lastMarker = some ⟨r.markerId, r.odoAtMarker, e,
            if (t.cpt.cars.get c).offset = car.offset + e then .accepted else .clamped, u.clock⟩ ∧
          (quiet = true → t.cpt.target = u.cpt.target.map (fun g =>
            if g.frozen = true ∨ (t.cpt.cars.get c).offset = car.offset then g
            else { g with position := stopPlace t g.stopIndex }))) ∧
        (u.rmu.known = true → u.lts.markerTol < (e.natAbs : Int) →
          t.rmu.x2 = u.rmu.x2 ∧ (t.cpt.cars.get c).offset = car.offset ∧ t.hasCause .positionMismatch = true ∧
          (t.cpt.cars.get c).lastMarker = some ⟨r.markerId, r.odoAtMarker, e, .mismatch, u.clock⟩ ∧
          (quiet = true → t.cpt.target = u.cpt.target)))

/-- The fields of the stage-1 key of a ticket (R157 to R161), the enumerated ones as codes of Table 10-5; a stored link
default that is none of the three gives a free value (assumption 9). -/
def KeyFormed (st : Station) (tk : Ticket) (u : State) (key : Key) : Prop :=
  let b := u.bcu.batches.get st
  let count := b.passed + (b.pending.map (·.persons)).sum
  let capacity := u.lts.inForce.capacity
  let stored := u.lts.params.get (match st with | .lower => 32 | .upper => 33)
  let place : Nat := match st with | .lower => 0 | .upper => 1
  key.stage = 1 ∧ key.station = place ∧ key.gate = tk.gate ∧ key.kindClass = tk.kindClass ∧ key.product = tk.product ∧
  key.concession = tk.concession ∧ key.groupSize = tk.groupSize ∧
  key.link = (if stored = 0 then 0 else if stored = 1 then tk.gate else if stored = 2 then BitVec.ofNat 8 place
    else Config.linkOfUndefinedDefault stored tk.gate) ∧
  key.ridesFlag = (if tk.rides = 0 then 0 else if tk.rides = 255 then 2 else 1) ∧
  key.directionMatch = (if tk.bought = 2 then 2 else if tk.bought.toNat = place then 0 else 1) ∧
  key.lineMode = u.tsq.mode.code ∧ key.batchState = b.state.code ∧
  key.fillLevel = (if 9 * capacity < 10 * count then 2 else if 2 * count < capacity then 0 else 1) ∧
  ∀ k : Fin 8, key.range.getLsbD k = true ↔
    let e := u.lts.ranges.get k
    let sources : List (Option Nat) := [u.timeOfDay, some tk.product.toNat, some tk.groupSize.toNat, some tk.rides.toNat,
      some tk.days.toNat, some count, some tk.concession.toNat]
    e.valid = true ∧ ∃ v ∈ (sources[e.val.source.toNat]?).join, e.val.low.toNat ≤ v ∧ v ≤ e.val.high.toNat

/-- A value agrees with another at every bit position set in a mask (R163). -/
def agreesUnder {n : Nat} (mask value v : BitVec n) : Prop :=
  ∀ i < n, mask.getLsbD i = true → v.getLsbD i = value.getLsbD i

/-- The contents of a rule entry match a key (R163): its stage, each masked field at the positions of its whole mask
(assumption 13), each enumerated field that is cared for. -/
def KeyMatched (r : RuleEntry) (k : Key) : Prop :=
  let cared (c : Cared) (v : Nat) : Prop := c.care = 0 ∨ c.value.toNat = v
  r.stage.toNat = k.stage ∧ agreesUnder r.link.mask r.link.value k.link ∧ agreesUnder r.gate.mask r.gate.value k.gate ∧
  agreesUnder r.kindClass.mask r.kindClass.value k.kindClass ∧ agreesUnder r.product.mask r.product.value k.product ∧
  agreesUnder r.concession.mask r.concession.value k.concession ∧
  agreesUnder r.groupSize.mask r.groupSize.value k.groupSize ∧ agreesUnder r.range.mask r.range.value k.range ∧
  cared r.station k.station ∧ cared r.ridesFlag k.ridesFlag ∧ cared r.directionMatch k.directionMatch ∧
  cared r.lineMode k.lineMode ∧ cared r.batchState k.batchState ∧ cared r.fillLevel k.fillLevel

/-- A rule entry is valid and matches a key (R163). -/
def ruleHit (e : RuleSlot) (k : Key) : Bool := e.slot.valid && e.slot.val.agrees k

/-- The match at a stage is rule i: the first that hits the key (R163). -/
def FirstHit (t : Lts) (k : Key) (i : Fin 128) : Prop :=
  ruleHit (t.rules.get i) k = true ∧ ∀ j < i, ruleHit (t.rules.get j) k = false

/-- No rule hits a key. -/
def NoHit (t : Lts) (k : Key) : Prop := ∀ e ∈ t.rules.toList, ruleHit e k = false

/-- The stage-2 key after a CONTINUE: stage 2 and the action's link value, the rest unchanged (R164). -/
def continued (k : Key) (r : RuleEntry) : Key := { k with stage := 2, link := r.linkValue }

/-- Rule r decides, found at stage 1 at index i, or at stage 2 at index j after a CONTINUE at index i (R164). -/
def Decides (t : Lts) (k : Key) (i : Fin 128) (j : Option (Fin 128)) (r : RuleEntry) : Prop :=
  FirstHit t k i ∧ r.actionKind ≠ 1 ∧ match j with
    | none => r = (t.rules.get i).slot.val
    | some j => (t.rules.get i).slot.val.actionKind = 1 ∧ FirstHit t (continued k (t.rules.get i).slot.val) j ∧
        r = (t.rules.get j).slot.val

/-- The tables with the hit counter of rule i raised by 1, up to 65,535 (R165). -/
def hitAt (t : Lts) (i : Fin 128) : Lts :=
  { t with rules := t.rules.set i { t.rules.get i with hits := min ((t.rules.get i).hits + 1) 65535 } }

/-- The part reason of a denial by the overriding checks, in their order: LINE_HALTED, DEPARTING, PASSBACK, FULL or BUSY, and
0 where all pass (R167, R168). -/
def overriding (u : State) (b : Batch) (r : RuleEntry) (serial : Long) (persons : Nat) : Nat :=
  let passback := b.recent.any (fun x =>
    decide (x.serial = serial ∧ ((u.clock - x.time).toNat : Int) < u.lts.passbackTime * 60000))
  if b.state = .suspended then 2
  else if b.state = .closing ∨ b.state = .closed then 3
  else if passback = true ∧ r.passbackExempt ≠ 1 then 4
  else if u.lts.inForce.capacity < b.passed + (b.pending.map (·.persons)).sum + persons then 5
  else if 16 ≤ b.pending.length then 6 else 0

/-- The VERDICT (R170, Table 9-4, Table 10-4): outcome, part reason, the deciding rule's codes, reference, persons, deduct,
the indices reached, and the batch after the classification. -/
def verdict (outcome reason ref persons : Nat) (r : Option RuleEntry) (deduct : Bool) (i j : Option (Fin 128))
    (b : Batch) : List Byte :=
  be 1 0 ++ be 1 outcome ++ be 1 reason ++
    [(r.map (·.reasonCode)).getD 0, (r.map (·.displayCode)).getD 0] ++ be 1 ref ++ be 1 persons ++ yesNo deduct ++
    optField 1 (i.map (fun x => (x.val : Int))) ++ optField 1 (j.map (fun x => (x.val : Int))) ++ be 1 b.state.code ++
    be 1 (b.passed + (b.pending.map (·.persons)).sum : Nat)

/-- TICKET: arguments outside their values are BAD_ARGUMENT (R155). The key is formed by R157 to R161 (`KeyFormed`, a link
default beyond the three being a free value, assumption 9) and matched by R163 (`KeyMatched`, assumption 13). A key that no
stage-1 rule matches, a CONTINUE whose stage-2 key none matches, or whose match continues again, is denied with NO_RULE
(R164). The deciding rule's REFER and DENY stand (R166); its ADMIT passes the overriding checks or is denied with the reason of the first that fails (R167, R168), and
else makes a pending admission (R142, R143, R169) under the first reference after the last one, 1 following 255, that no
entry holds (R141). Each rule found counts a hit (R165). -/
def Obligations.TicketJudged : Prop :=
  (∀ (r : RuleEntry) (k : Key), r.agrees k = true ↔ KeyMatched r k) ∧
  ∀ (st : Station) (tk : Ticket) (s : State),
    let p := st.port
    let u := s.ready p
    let b := u.bcu.batches.get st
    let key := stage1Key st tk u
    KeyFormed st tk u key ∧
    (encodingOk (.ticket tk) = true →
    (ticketArgumentsBad tk = true → exec (.ticket p tk) s = .next (u.answered p 21 [3])) ∧
    (ticketArgumentsBad tk = false →
      (NoHit u.lts key → exec (.ticket p tk) s = .next (u.answered p 21 (verdict 2 1 0 0 none false none none b))) ∧
      (∀ i, FirstHit u.lts key i → (u.lts.rules.get i).slot.val.actionKind = 1 →
        let key2 := continued key (u.lts.rules.get i).slot.val
        (NoHit u.lts key2 → exec (.ticket p tk) s =
          .next (({ u with lts := hitAt u.lts i } : State).answered p 21 (verdict 2 1 0 0 none false (some i) none b))) ∧
        (∀ j, FirstHit u.lts key2 j → (u.lts.rules.get j).slot.val.actionKind = 1 → exec (.ticket p tk) s =
          .next (({ u with lts := hitAt (hitAt u.lts i) j } : State).answered p 21
            (verdict 2 1 0 0 none false (some i) (some j) b)))) ∧
      (∀ i j r, Decides u.lts key i j r →
        let lts := match j with | none => hitAt u.lts i | some j => hitAt (hitAt u.lts i) j
        let persons := if r.persons = 0 then tk.groupSize.toNat else r.persons.toNat
        let why := overriding u b r tk.serial persons
        let reply (outcome reason : Nat) : State :=
          ({ u with lts := lts } : State).answered p 21 (verdict outcome reason 0 0 (some r) false (some i) j b)
        (r.outcome = 1 → exec (.ticket p tk) s = .next (reply 1 0)) ∧
        (2 ≤ r.outcome.toNat → exec (.ticket p tk) s = .next (reply 2 0)) ∧
        (r.outcome = 0 → why ≠ 0 → exec (.ticket p tk) s = .next (reply 2 why)) ∧
        let after (n : Nat) : Nat := ((if b.lastRef < 255 then b.lastRef else 0) + n) % 255 + 1
        (∀ n, r.outcome = 0 → why = 0 → (∀ k < n, ∃ x ∈ b.pending, x.reference = after k) →
          (∀ x ∈ b.pending, x.reference ≠ after n) →
          let ref := after n
          let kept := if b.recent.any (fun x => decide (x.serial = tk.serial))
            then b.recent.filter (fun x => decide (x.serial ≠ tk.serial))
            else if b.recent.length < 64 then b.recent else b.recent.tail
          let b' : Batch := { b with
            lastRef := ref
            pending := b.pending ++ [⟨ref, tk.gate.toNat, persons, tk.serial, u.clock⟩]
            recent := kept ++ [⟨tk.serial, u.clock⟩] }
          exec (.ticket p tk) s = .next (({ u with
            lts := lts
            bcu := { u.bcu with batches := u.bcu.batches.set st b' } } : State).answered p 21
              (verdict 0 0 ref persons (some r) (decide (r.deductRide = 1)) (some i) j b'))))))

/-- PASSAGE (R149): BAD_ARGUMENT outside its values; refused in CONFIGURING; STALE for a reference that no entry of the
gate holds; else at most the entry's persons pass and the entry leaves the list. Without entries left a CLOSING batch is
CLOSED (R146). In step WARNING of a departure that waits for the batches alone, the one that closes the last ends the step
(R148, R115, `WarningStepEnded`); there a halt entry for the origin is served, which is DEDUCED from R112 (assumption 12), and
e_from, the marks of requests that wait and r_e2 are the model's (assumptions 22 and 36). The reply shows the batch right after the passage (assumption 32). -/
def Obligations.PassageCounts : Prop :=
  ∀ (st : Station) (gate ref persons : Byte) (s : State),
    let p := st.port
    let u := s.ready p
    let b := u.bcu.batches.get st
    let bad := decide (7 < gate.toNat ∨ ref.toNat = 0 ∨ 15 < persons.toNat)
    let named (e : Admission) : Bool := decide (e.reference = ref.toNat ∧ e.gate = gate.toNat)
    (bad = true → exec (.passage p gate ref persons) s = .next (u.answered p 22 [3])) ∧
    (bad = false → u.tsq.state = .configuring → exec (.passage p gate ref persons) s = .next (u.answered p 22 [1])) ∧
    (bad = false → u.tsq.state ≠ .configuring → (∀ e ∈ b.pending, named e = false) →
      exec (.passage p gate ref persons) s = .next (u.answered p 22
        [8, BitVec.ofNat 8 b.state.code, BitVec.ofNat 8 b.platformCount])) ∧
    (bad = false → u.tsq.state ≠ .configuring → ∀ e ∈ b.pending, named e = true →
      (∀ x ∈ b.pending, x.reference = e.reference → x = e) →
      let rest := b.pending.filter (fun x => decide (x.reference ≠ e.reference))
      let ends := decide (b.state = .closing ∧ rest = [])
      let b' : Batch := { b with
        passed := b.passed + min persons.toNat e.persons, pending := rest
        state := if ends then .closed else b.state, settle := if ends then none else b.settle }
      let bcu : Bcu := { u.bcu with batches := u.bcu.batches.set st b' }
      let v : State := ({ u with bcu := bcu } : State).raising (eventIf ends .batchStateChanged)
      let reply : List Byte := [0, BitVec.ofNat 8 b'.state.code, BitVec.ofNat 8 b'.passed, BitVec.ofNat 8 b'.platformCount]
      (u.tsq.state ≠ .departing ∨ u.tsq.step ≠ some .warning ∨ u.tsq.warningEnded = false ∨
          (u.tsq.resume = false ∧ u.originIsTerminal = true ∧ ∃ x, (bcu.batches.get x).state ≠ .closed) →
        exec (.passage p gate ref persons) s = .next (v.answered p 22 reply)) ∧
      (∀ k, u.tsq.state = .departing → u.tsq.step = some .warning → u.tsq.warningEnded = true → u.tsq.resume = false →
        u.tsq.origin = some k → (u.lts.isTerminal k = true → ∀ x, (bcu.batches.get x).state = .closed) →
        ∃ t, exec (.passage p gate ref persons) s = .next (t.answered p 22 reply) ∧ WarningStepEnded k v t))

/-! ### What every step keeps -/

/-- Laws 1 and 9 (R84, R119): TRIPPED exactly while a cause is listed; the drive request stands only while the line moves
or a controlled stop is under way; drive enable only then, and not with braking that forbids it. -/
def Obligations.DriveLawsKept : Prop :=
  ∀ (c : Instr) (s t : State), trippedLaw s → requestLaw s → exec c s = .next t →
    trippedLaw t ∧ requestLaw t ∧ driveLaw t

/-- Laws 2 and 3 (R126): a side is RELEASED only while its five conditions hold; and, with Laws 1 and 9, never while
drive enable is on. -/
def Obligations.DoorLawsKept : Prop :=
  ∀ (c : Instr) (s t : State), doorLaw s → exec c s = .next t →
    doorLaw t ∧ (trippedLaw s → requestLaw s → shutLaw t)

/-- Laws 4 and 6 (R140, R142): the platform count never exceeds the capacity in force; the lists of serials and of
admissions keep their bounds. Law 7 (R108): the halt request list holds one entry per stop, for ON_REQUEST stops of the
line alone, and none in CONFIGURING. -/
def Obligations.BatchAndHaltLawsKept : Prop :=
  (∀ (c : Instr) (s t : State), platformLaw s → listsLaw s → exec c s = .next t → platformLaw t ∧ listsLaw t) ∧
  (∀ (c : Instr) (s t : State), haltLaw s → exec c s = .next t → haltLaw t)

/-- Law 8 (R63): the reference never exceeds the permitted speed. Law 12 (R45): each stretch offset stays within
max_corr. -/
def Obligations.ReferenceAndOffsetLawsKept : Prop :=
  (∀ (c : Instr) (s t : State), referenceLaw s → exec c s = .next t → referenceLaw t) ∧
  (∀ (c : Instr) (s t : State), offsetLaw s → exec c s = .next t → offsetLaw t)

/-- Laws 10 and 11 (R83, R90): each cause kind at most once; EMERGENCY braking holds EBK applied and the rail brake order
set. -/
def Obligations.CauseLawsKept : Prop :=
  ∀ (c : Instr) (s t : State), causeLaw s → emergencyLaw s → exec c s = .next t → causeLaw t ∧ emergencyLaw t

/-- The receive queues (R175, R177) and the event sets (R182, R183) keep their shape. -/
def Obligations.PortLawsKept : Prop :=
  ∀ (c : Instr) (s t : State), queueLaw s → eventLaw s → exec c s = .next t → queueLaw t ∧ eventLaw t
end

