-- ==== Sys2Proof/Laws/State.lean ====
section
/-! SUPPORT. One lemma per field per update of a block, so that no later proof unfolds a record update. -/

namespace Sys2Proof.Machine

/-! ### State.updLts -/

section
variable (s : State) (f : Lts → Lts)

@[simp] theorem updLts_lts : (s.updLts f).lts = f s.lts := rfl
@[simp] theorem updLts_rmu : (s.updLts f).rmu = s.rmu := rfl
@[simp] theorem updLts_cpt : (s.updLts f).cpt = s.cpt := rfl
@[simp] theorem updLts_tsq : (s.updLts f).tsq = s.tsq := rfl
@[simp] theorem updLts_srg : (s.updLts f).srg = s.srg := rfl
@[simp] theorem updLts_obs : (s.updLts f).obs = s.obs := rfl
@[simp] theorem updLts_dru : (s.updLts f).dru = s.dru := rfl
@[simp] theorem updLts_bcu : (s.updLts f).bcu = s.bcu := rfl
@[simp] theorem updLts_lpu : (s.updLts f).lpu = s.lpu := rfl
@[simp] theorem updLts_clock : (s.updLts f).clock = s.clock := rfl
@[simp] theorem updLts_timeOfDay : (s.updLts f).timeOfDay = s.timeOfDay := rfl
@[simp] theorem updLts_minuteMs : (s.updLts f).minuteMs = s.minuteMs := rfl
@[simp] theorem updLts_freeIndex : (s.updLts f).freeIndex = s.freeIndex := rfl
@[simp] theorem updLts_pending : (s.updLts f).pending = s.pending := rfl
@[simp] theorem updLts_updLts (g : Lts → Lts) : (s.updLts f).updLts g = s.updLts (fun x => g (f x)) := rfl

end

/-! ### State.updRmu -/

section
variable (s : State) (f : Rmu → Rmu)

@[simp] theorem updRmu_lts : (s.updRmu f).lts = s.lts := rfl
@[simp] theorem updRmu_rmu : (s.updRmu f).rmu = f s.rmu := rfl
@[simp] theorem updRmu_cpt : (s.updRmu f).cpt = s.cpt := rfl
@[simp] theorem updRmu_tsq : (s.updRmu f).tsq = s.tsq := rfl
@[simp] theorem updRmu_srg : (s.updRmu f).srg = s.srg := rfl
@[simp] theorem updRmu_obs : (s.updRmu f).obs = s.obs := rfl
@[simp] theorem updRmu_dru : (s.updRmu f).dru = s.dru := rfl
@[simp] theorem updRmu_bcu : (s.updRmu f).bcu = s.bcu := rfl
@[simp] theorem updRmu_lpu : (s.updRmu f).lpu = s.lpu := rfl
@[simp] theorem updRmu_clock : (s.updRmu f).clock = s.clock := rfl
@[simp] theorem updRmu_timeOfDay : (s.updRmu f).timeOfDay = s.timeOfDay := rfl
@[simp] theorem updRmu_minuteMs : (s.updRmu f).minuteMs = s.minuteMs := rfl
@[simp] theorem updRmu_freeIndex : (s.updRmu f).freeIndex = s.freeIndex := rfl
@[simp] theorem updRmu_pending : (s.updRmu f).pending = s.pending := rfl
@[simp] theorem updRmu_updRmu (g : Rmu → Rmu) : (s.updRmu f).updRmu g = s.updRmu (fun x => g (f x)) := rfl

end

/-! ### State.updCpt -/

section
variable (s : State) (f : Cpt → Cpt)

@[simp] theorem updCpt_lts : (s.updCpt f).lts = s.lts := rfl
@[simp] theorem updCpt_rmu : (s.updCpt f).rmu = s.rmu := rfl
@[simp] theorem updCpt_cpt : (s.updCpt f).cpt = f s.cpt := rfl
@[simp] theorem updCpt_tsq : (s.updCpt f).tsq = s.tsq := rfl
@[simp] theorem updCpt_srg : (s.updCpt f).srg = s.srg := rfl
@[simp] theorem updCpt_obs : (s.updCpt f).obs = s.obs := rfl
@[simp] theorem updCpt_dru : (s.updCpt f).dru = s.dru := rfl
@[simp] theorem updCpt_bcu : (s.updCpt f).bcu = s.bcu := rfl
@[simp] theorem updCpt_lpu : (s.updCpt f).lpu = s.lpu := rfl
@[simp] theorem updCpt_clock : (s.updCpt f).clock = s.clock := rfl
@[simp] theorem updCpt_timeOfDay : (s.updCpt f).timeOfDay = s.timeOfDay := rfl
@[simp] theorem updCpt_minuteMs : (s.updCpt f).minuteMs = s.minuteMs := rfl
@[simp] theorem updCpt_freeIndex : (s.updCpt f).freeIndex = s.freeIndex := rfl
@[simp] theorem updCpt_pending : (s.updCpt f).pending = s.pending := rfl
@[simp] theorem updCpt_updCpt (g : Cpt → Cpt) : (s.updCpt f).updCpt g = s.updCpt (fun x => g (f x)) := rfl

end

/-! ### State.updTsq -/

section
variable (s : State) (f : Tsq → Tsq)

@[simp] theorem updTsq_lts : (s.updTsq f).lts = s.lts := rfl
@[simp] theorem updTsq_rmu : (s.updTsq f).rmu = s.rmu := rfl
@[simp] theorem updTsq_cpt : (s.updTsq f).cpt = s.cpt := rfl
@[simp] theorem updTsq_tsq : (s.updTsq f).tsq = f s.tsq := rfl
@[simp] theorem updTsq_srg : (s.updTsq f).srg = s.srg := rfl
@[simp] theorem updTsq_obs : (s.updTsq f).obs = s.obs := rfl
@[simp] theorem updTsq_dru : (s.updTsq f).dru = s.dru := rfl
@[simp] theorem updTsq_bcu : (s.updTsq f).bcu = s.bcu := rfl
@[simp] theorem updTsq_lpu : (s.updTsq f).lpu = s.lpu := rfl
@[simp] theorem updTsq_clock : (s.updTsq f).clock = s.clock := rfl
@[simp] theorem updTsq_timeOfDay : (s.updTsq f).timeOfDay = s.timeOfDay := rfl
@[simp] theorem updTsq_minuteMs : (s.updTsq f).minuteMs = s.minuteMs := rfl
@[simp] theorem updTsq_freeIndex : (s.updTsq f).freeIndex = s.freeIndex := rfl
@[simp] theorem updTsq_pending : (s.updTsq f).pending = s.pending := rfl
@[simp] theorem updTsq_updTsq (g : Tsq → Tsq) : (s.updTsq f).updTsq g = s.updTsq (fun x => g (f x)) := rfl

end

/-! ### State.updSrg -/

section
variable (s : State) (f : Srg → Srg)

@[simp] theorem updSrg_lts : (s.updSrg f).lts = s.lts := rfl
@[simp] theorem updSrg_rmu : (s.updSrg f).rmu = s.rmu := rfl
@[simp] theorem updSrg_cpt : (s.updSrg f).cpt = s.cpt := rfl
@[simp] theorem updSrg_tsq : (s.updSrg f).tsq = s.tsq := rfl
@[simp] theorem updSrg_srg : (s.updSrg f).srg = f s.srg := rfl
@[simp] theorem updSrg_obs : (s.updSrg f).obs = s.obs := rfl
@[simp] theorem updSrg_dru : (s.updSrg f).dru = s.dru := rfl
@[simp] theorem updSrg_bcu : (s.updSrg f).bcu = s.bcu := rfl
@[simp] theorem updSrg_lpu : (s.updSrg f).lpu = s.lpu := rfl
@[simp] theorem updSrg_clock : (s.updSrg f).clock = s.clock := rfl
@[simp] theorem updSrg_timeOfDay : (s.updSrg f).timeOfDay = s.timeOfDay := rfl
@[simp] theorem updSrg_minuteMs : (s.updSrg f).minuteMs = s.minuteMs := rfl
@[simp] theorem updSrg_freeIndex : (s.updSrg f).freeIndex = s.freeIndex := rfl
@[simp] theorem updSrg_pending : (s.updSrg f).pending = s.pending := rfl
@[simp] theorem updSrg_updSrg (g : Srg → Srg) : (s.updSrg f).updSrg g = s.updSrg (fun x => g (f x)) := rfl

end

/-! ### State.updObs -/

section
variable (s : State) (f : Obs → Obs)

@[simp] theorem updObs_lts : (s.updObs f).lts = s.lts := rfl
@[simp] theorem updObs_rmu : (s.updObs f).rmu = s.rmu := rfl
@[simp] theorem updObs_cpt : (s.updObs f).cpt = s.cpt := rfl
@[simp] theorem updObs_tsq : (s.updObs f).tsq = s.tsq := rfl
@[simp] theorem updObs_srg : (s.updObs f).srg = s.srg := rfl
@[simp] theorem updObs_obs : (s.updObs f).obs = f s.obs := rfl
@[simp] theorem updObs_dru : (s.updObs f).dru = s.dru := rfl
@[simp] theorem updObs_bcu : (s.updObs f).bcu = s.bcu := rfl
@[simp] theorem updObs_lpu : (s.updObs f).lpu = s.lpu := rfl
@[simp] theorem updObs_clock : (s.updObs f).clock = s.clock := rfl
@[simp] theorem updObs_timeOfDay : (s.updObs f).timeOfDay = s.timeOfDay := rfl
@[simp] theorem updObs_minuteMs : (s.updObs f).minuteMs = s.minuteMs := rfl
@[simp] theorem updObs_freeIndex : (s.updObs f).freeIndex = s.freeIndex := rfl
@[simp] theorem updObs_pending : (s.updObs f).pending = s.pending := rfl
@[simp] theorem updObs_updObs (g : Obs → Obs) : (s.updObs f).updObs g = s.updObs (fun x => g (f x)) := rfl

end

/-! ### State.updDru -/

section
variable (s : State) (f : PerCar (PerSide DoorRecord) → PerCar (PerSide DoorRecord))

@[simp] theorem updDru_lts : (s.updDru f).lts = s.lts := rfl
@[simp] theorem updDru_rmu : (s.updDru f).rmu = s.rmu := rfl
@[simp] theorem updDru_cpt : (s.updDru f).cpt = s.cpt := rfl
@[simp] theorem updDru_tsq : (s.updDru f).tsq = s.tsq := rfl
@[simp] theorem updDru_srg : (s.updDru f).srg = s.srg := rfl
@[simp] theorem updDru_obs : (s.updDru f).obs = s.obs := rfl
@[simp] theorem updDru_dru : (s.updDru f).dru = f s.dru := rfl
@[simp] theorem updDru_bcu : (s.updDru f).bcu = s.bcu := rfl
@[simp] theorem updDru_lpu : (s.updDru f).lpu = s.lpu := rfl
@[simp] theorem updDru_clock : (s.updDru f).clock = s.clock := rfl
@[simp] theorem updDru_timeOfDay : (s.updDru f).timeOfDay = s.timeOfDay := rfl
@[simp] theorem updDru_minuteMs : (s.updDru f).minuteMs = s.minuteMs := rfl
@[simp] theorem updDru_freeIndex : (s.updDru f).freeIndex = s.freeIndex := rfl
@[simp] theorem updDru_pending : (s.updDru f).pending = s.pending := rfl
@[simp] theorem updDru_updDru (g : PerCar (PerSide DoorRecord) → PerCar (PerSide DoorRecord)) : (s.updDru f).updDru g = s.updDru (fun x => g (f x)) := rfl

end

/-! ### State.updBcu -/

section
variable (s : State) (f : Bcu → Bcu)

@[simp] theorem updBcu_lts : (s.updBcu f).lts = s.lts := rfl
@[simp] theorem updBcu_rmu : (s.updBcu f).rmu = s.rmu := rfl
@[simp] theorem updBcu_cpt : (s.updBcu f).cpt = s.cpt := rfl
@[simp] theorem updBcu_tsq : (s.updBcu f).tsq = s.tsq := rfl
@[simp] theorem updBcu_srg : (s.updBcu f).srg = s.srg := rfl
@[simp] theorem updBcu_obs : (s.updBcu f).obs = s.obs := rfl
@[simp] theorem updBcu_dru : (s.updBcu f).dru = s.dru := rfl
@[simp] theorem updBcu_bcu : (s.updBcu f).bcu = f s.bcu := rfl
@[simp] theorem updBcu_lpu : (s.updBcu f).lpu = s.lpu := rfl
@[simp] theorem updBcu_clock : (s.updBcu f).clock = s.clock := rfl
@[simp] theorem updBcu_timeOfDay : (s.updBcu f).timeOfDay = s.timeOfDay := rfl
@[simp] theorem updBcu_minuteMs : (s.updBcu f).minuteMs = s.minuteMs := rfl
@[simp] theorem updBcu_freeIndex : (s.updBcu f).freeIndex = s.freeIndex := rfl
@[simp] theorem updBcu_pending : (s.updBcu f).pending = s.pending := rfl
@[simp] theorem updBcu_updBcu (g : Bcu → Bcu) : (s.updBcu f).updBcu g = s.updBcu (fun x => g (f x)) := rfl

end

/-! ### State.updLpu -/

section
variable (s : State) (f : Lpu → Lpu)

@[simp] theorem updLpu_lts : (s.updLpu f).lts = s.lts := rfl
@[simp] theorem updLpu_rmu : (s.updLpu f).rmu = s.rmu := rfl
@[simp] theorem updLpu_cpt : (s.updLpu f).cpt = s.cpt := rfl
@[simp] theorem updLpu_tsq : (s.updLpu f).tsq = s.tsq := rfl
@[simp] theorem updLpu_srg : (s.updLpu f).srg = s.srg := rfl
@[simp] theorem updLpu_obs : (s.updLpu f).obs = s.obs := rfl
@[simp] theorem updLpu_dru : (s.updLpu f).dru = s.dru := rfl
@[simp] theorem updLpu_bcu : (s.updLpu f).bcu = s.bcu := rfl
@[simp] theorem updLpu_lpu : (s.updLpu f).lpu = f s.lpu := rfl
@[simp] theorem updLpu_clock : (s.updLpu f).clock = s.clock := rfl
@[simp] theorem updLpu_timeOfDay : (s.updLpu f).timeOfDay = s.timeOfDay := rfl
@[simp] theorem updLpu_minuteMs : (s.updLpu f).minuteMs = s.minuteMs := rfl
@[simp] theorem updLpu_freeIndex : (s.updLpu f).freeIndex = s.freeIndex := rfl
@[simp] theorem updLpu_pending : (s.updLpu f).pending = s.pending := rfl
@[simp] theorem updLpu_updLpu (g : Lpu → Lpu) : (s.updLpu f).updLpu g = s.updLpu (fun x => g (f x)) := rfl

end

end Sys2Proof.Machine
end

