-- ==== Sys2Proof/Laws/Ops.lean ====
section
/-! SUPPORT. What each shared operation of Machine/Ops.lean leaves alone: one lemma per operation, so that a proof
about a command need not unfold the operations it goes through. -/

namespace Sys2Proof.Machine

/-- An event changes the LPU alone (R182). -/
@[simp] theorem raiseOn_keeps (scope : PortId → Bool) (e : EventKind) (s : State) :
    (raiseOn scope e s).lts = s.lts ∧ (raiseOn scope e s).rmu = s.rmu ∧ (raiseOn scope e s).cpt = s.cpt ∧
    (raiseOn scope e s).tsq = s.tsq ∧ (raiseOn scope e s).srg = s.srg ∧ (raiseOn scope e s).obs = s.obs ∧
    (raiseOn scope e s).dru = s.dru ∧ (raiseOn scope e s).bcu = s.bcu ∧ (raiseOn scope e s).clock = s.clock ∧
    (raiseOn scope e s).timeOfDay = s.timeOfDay ∧ (raiseOn scope e s).minuteMs = s.minuteMs ∧
    (raiseOn scope e s).freeIndex = s.freeIndex ∧ (raiseOn scope e s).pending = s.pending := by
  simp [raiseOn]

/-- An event on every port changes the LPU alone (R182). -/
@[simp] theorem raise_keeps (e : EventKind) (s : State) :
    (raise e s).lts = s.lts ∧ (raise e s).rmu = s.rmu ∧ (raise e s).cpt = s.cpt ∧ (raise e s).tsq = s.tsq ∧
    (raise e s).srg = s.srg ∧ (raise e s).obs = s.obs ∧ (raise e s).dru = s.dru ∧ (raise e s).bcu = s.bcu ∧
    (raise e s).clock = s.clock ∧ (raise e s).timeOfDay = s.timeOfDay ∧ (raise e s).minuteMs = s.minuteMs ∧
    (raise e s).freeIndex = s.freeIndex ∧ (raise e s).pending = s.pending := by
  simp [raise]

/-- A link event changes the LPU alone (R182). -/
@[simp] theorem raiseLink_keeps (e : EventKind) (p : PortId) (s : State) :
    (raiseLink e p s).lts = s.lts ∧ (raiseLink e p s).rmu = s.rmu ∧ (raiseLink e p s).cpt = s.cpt ∧
    (raiseLink e p s).tsq = s.tsq ∧ (raiseLink e p s).srg = s.srg ∧ (raiseLink e p s).obs = s.obs ∧
    (raiseLink e p s).dru = s.dru ∧ (raiseLink e p s).bcu = s.bcu ∧ (raiseLink e p s).clock = s.clock ∧
    (raiseLink e p s).timeOfDay = s.timeOfDay ∧ (raiseLink e p s).minuteMs = s.minuteMs ∧
    (raiseLink e p s).freeIndex = s.freeIndex ∧ (raiseLink e p s).pending = s.pending := by
  simp [raiseLink]

/-- A test moment changes door records and event sets alone (R127, R132). -/
@[simp] theorem testDoors_keeps (s : State) :
    (testDoors s).lts = s.lts ∧ (testDoors s).rmu = s.rmu ∧ (testDoors s).cpt = s.cpt ∧ (testDoors s).tsq = s.tsq ∧
    (testDoors s).srg = s.srg ∧ (testDoors s).obs = s.obs ∧ (testDoors s).bcu = s.bcu ∧
    (testDoors s).clock = s.clock ∧ (testDoors s).timeOfDay = s.timeOfDay ∧ (testDoors s).minuteMs = s.minuteMs ∧
    (testDoors s).freeIndex = s.freeIndex ∧ (testDoors s).pending = s.pending := by
  unfold testDoors; split <;> simp

/-- A batch update changes the BCU and event sets alone (R153). -/
@[simp] theorem setBatch_keeps (st : Station) (b : Batch) (s : State) :
    (setBatch st b s).lts = s.lts ∧ (setBatch st b s).rmu = s.rmu ∧ (setBatch st b s).cpt = s.cpt ∧
    (setBatch st b s).tsq = s.tsq ∧ (setBatch st b s).srg = s.srg ∧ (setBatch st b s).obs = s.obs ∧
    (setBatch st b s).dru = s.dru ∧ (setBatch st b s).clock = s.clock ∧ (setBatch st b s).timeOfDay = s.timeOfDay ∧
    (setBatch st b s).minuteMs = s.minuteMs ∧ (setBatch st b s).freeIndex = s.freeIndex ∧
    (setBatch st b s).pending = s.pending := by
  unfold setBatch; split <;> simp

/-- Suspension changes the BCU and event sets alone (R144). -/
@[simp] theorem suspendBatch_keeps (st : Station) (s : State) :
    (suspendBatch st s).lts = s.lts ∧ (suspendBatch st s).rmu = s.rmu ∧ (suspendBatch st s).cpt = s.cpt ∧
    (suspendBatch st s).tsq = s.tsq ∧ (suspendBatch st s).srg = s.srg ∧ (suspendBatch st s).obs = s.obs ∧
    (suspendBatch st s).dru = s.dru ∧ (suspendBatch st s).clock = s.clock ∧
    (suspendBatch st s).timeOfDay = s.timeOfDay ∧ (suspendBatch st s).minuteMs = s.minuteMs ∧
    (suspendBatch st s).freeIndex = s.freeIndex ∧ (suspendBatch st s).pending = s.pending := by
  simp [suspendBatch]

/-- Suspension of both changes the BCU and event sets alone (R144). -/
@[simp] theorem suspendBatches_keeps (s : State) :
    (suspendBatches s).lts = s.lts ∧ (suspendBatches s).rmu = s.rmu ∧ (suspendBatches s).cpt = s.cpt ∧
    (suspendBatches s).tsq = s.tsq ∧ (suspendBatches s).srg = s.srg ∧ (suspendBatches s).obs = s.obs ∧
    (suspendBatches s).dru = s.dru ∧ (suspendBatches s).clock = s.clock ∧
    (suspendBatches s).timeOfDay = s.timeOfDay ∧ (suspendBatches s).minuteMs = s.minuteMs ∧
    (suspendBatches s).freeIndex = s.freeIndex ∧ (suspendBatches s).pending = s.pending := by
  simp [suspendBatches]

/-- An open request changes the BCU and event sets alone (R145). -/
@[simp] theorem openBatch_keeps (st : Station) (s : State) :
    (openBatch st s).lts = s.lts ∧ (openBatch st s).rmu = s.rmu ∧ (openBatch st s).cpt = s.cpt ∧
    (openBatch st s).tsq = s.tsq ∧ (openBatch st s).srg = s.srg ∧ (openBatch st s).obs = s.obs ∧
    (openBatch st s).dru = s.dru ∧ (openBatch st s).clock = s.clock ∧ (openBatch st s).timeOfDay = s.timeOfDay ∧
    (openBatch st s).minuteMs = s.minuteMs ∧ (openBatch st s).freeIndex = s.freeIndex ∧
    (openBatch st s).pending = s.pending := by
  simp [openBatch]

/-- Open requests change the BCU and event sets alone (R145). -/
@[simp] theorem openBatches_keeps (s : State) :
    (openBatches s).lts = s.lts ∧ (openBatches s).rmu = s.rmu ∧ (openBatches s).cpt = s.cpt ∧
    (openBatches s).tsq = s.tsq ∧ (openBatches s).srg = s.srg ∧ (openBatches s).obs = s.obs ∧
    (openBatches s).dru = s.dru ∧ (openBatches s).clock = s.clock ∧ (openBatches s).timeOfDay = s.timeOfDay ∧
    (openBatches s).minuteMs = s.minuteMs ∧ (openBatches s).freeIndex = s.freeIndex ∧
    (openBatches s).pending = s.pending := by
  simp [openBatches]

/-- A brake update changes the OBS, the door records and event sets alone (R91, R127). -/
@[simp] theorem setBrake_keeps (b : Brake) (r : BrakeRecord) (s : State) :
    (setBrake b r s).lts = s.lts ∧ (setBrake b r s).rmu = s.rmu ∧ (setBrake b r s).cpt = s.cpt ∧
    (setBrake b r s).tsq = s.tsq ∧ (setBrake b r s).srg = s.srg ∧ (setBrake b r s).bcu = s.bcu ∧
    (setBrake b r s).clock = s.clock ∧ (setBrake b r s).timeOfDay = s.timeOfDay ∧
    (setBrake b r s).minuteMs = s.minuteMs ∧ (setBrake b r s).freeIndex = s.freeIndex ∧
    (setBrake b r s).pending = s.pending := by
  unfold setBrake; split <;> simp

/-- An APPLIED command changes the OBS, the door records and event sets alone (R93). -/
@[simp] theorem applyBrake_keeps (b : Brake) (s : State) :
    (applyBrake b s).lts = s.lts ∧ (applyBrake b s).rmu = s.rmu ∧ (applyBrake b s).cpt = s.cpt ∧
    (applyBrake b s).tsq = s.tsq ∧ (applyBrake b s).srg = s.srg ∧ (applyBrake b s).bcu = s.bcu ∧
    (applyBrake b s).clock = s.clock ∧ (applyBrake b s).timeOfDay = s.timeOfDay ∧
    (applyBrake b s).minuteMs = s.minuteMs ∧ (applyBrake b s).freeIndex = s.freeIndex ∧
    (applyBrake b s).pending = s.pending := by
  unfold applyBrake; split <;> simp

/-- A LIFTED command changes the OBS, the door records and event sets alone (R94). -/
@[simp] theorem liftBrake_keeps (b : Brake) (s : State) :
    (liftBrake b s).lts = s.lts ∧ (liftBrake b s).rmu = s.rmu ∧ (liftBrake b s).cpt = s.cpt ∧
    (liftBrake b s).tsq = s.tsq ∧ (liftBrake b s).srg = s.srg ∧ (liftBrake b s).bcu = s.bcu ∧
    (liftBrake b s).clock = s.clock ∧ (liftBrake b s).timeOfDay = s.timeOfDay ∧
    (liftBrake b s).minuteMs = s.minuteMs ∧ (liftBrake b s).freeIndex = s.freeIndex ∧
    (liftBrake b s).pending = s.pending := by
  unfold liftBrake; split <;> simp

/-- The trip record at a change of state (R100). -/
@[simp] theorem recordTrip_keeps (n : TripState) (st : Option Step) (s : State) :
    (recordTrip n st s).lts = s.lts ∧ (recordTrip n st s).rmu = s.rmu ∧ (recordTrip n st s).cpt = s.cpt ∧
    (recordTrip n st s).srg = s.srg ∧ (recordTrip n st s).obs = s.obs ∧ (recordTrip n st s).dru = s.dru ∧
    (recordTrip n st s).bcu = s.bcu ∧ (recordTrip n st s).clock = s.clock ∧
    (recordTrip n st s).timeOfDay = s.timeOfDay ∧ (recordTrip n st s).minuteMs = s.minuteMs ∧
    (recordTrip n st s).freeIndex = s.freeIndex ∧ (recordTrip n st s).pending = s.pending := by
  simp [recordTrip]

/-- The OBS on a new trip state (R100). -/
@[simp] theorem obsOnTrip_keeps (n : TripState) (s : State) :
    (obsOnTrip n s).lts = s.lts ∧ (obsOnTrip n s).rmu = s.rmu ∧ (obsOnTrip n s).cpt = s.cpt ∧
    (obsOnTrip n s).tsq = s.tsq ∧ (obsOnTrip n s).srg = s.srg ∧ (obsOnTrip n s).dru = s.dru ∧
    (obsOnTrip n s).bcu = s.bcu ∧ (obsOnTrip n s).lpu = s.lpu ∧ (obsOnTrip n s).clock = s.clock ∧
    (obsOnTrip n s).timeOfDay = s.timeOfDay ∧ (obsOnTrip n s).minuteMs = s.minuteMs ∧
    (obsOnTrip n s).freeIndex = s.freeIndex ∧ (obsOnTrip n s).pending = s.pending := by
  simp [obsOnTrip]

/-- The BCU on a new trip state (R100, R144). -/
@[simp] theorem bcuOnTrip_keeps (n : TripState) (s : State) :
    (bcuOnTrip n s).lts = s.lts ∧ (bcuOnTrip n s).rmu = s.rmu ∧ (bcuOnTrip n s).cpt = s.cpt ∧
    (bcuOnTrip n s).tsq = s.tsq ∧ (bcuOnTrip n s).srg = s.srg ∧ (bcuOnTrip n s).obs = s.obs ∧
    (bcuOnTrip n s).dru = s.dru ∧ (bcuOnTrip n s).clock = s.clock ∧ (bcuOnTrip n s).timeOfDay = s.timeOfDay ∧
    (bcuOnTrip n s).minuteMs = s.minuteMs ∧ (bcuOnTrip n s).freeIndex = s.freeIndex ∧
    (bcuOnTrip n s).pending = s.pending := by
  unfold bcuOnTrip; split <;> simp

/-- The reference at rest (R57, R63). -/
@[simp] theorem restReference_keeps (s : State) :
    (restReference s).lts = s.lts ∧ (restReference s).rmu = s.rmu ∧ (restReference s).cpt = s.cpt ∧
    (restReference s).tsq = s.tsq ∧ (restReference s).obs = s.obs ∧ (restReference s).dru = s.dru ∧
    (restReference s).bcu = s.bcu ∧ (restReference s).lpu = s.lpu ∧ (restReference s).clock = s.clock ∧
    (restReference s).timeOfDay = s.timeOfDay ∧ (restReference s).minuteMs = s.minuteMs ∧
    (restReference s).freeIndex = s.freeIndex ∧ (restReference s).pending = s.pending := by
  unfold restReference; split <;> simp

/-- The SRG on a new trip state (R100). -/
@[simp] theorem srgOnTrip_keeps (o n : TripState) (s : State) :
    (srgOnTrip o n s).lts = s.lts ∧ (srgOnTrip o n s).rmu = s.rmu ∧ (srgOnTrip o n s).cpt = s.cpt ∧
    (srgOnTrip o n s).tsq = s.tsq ∧ (srgOnTrip o n s).obs = s.obs ∧ (srgOnTrip o n s).dru = s.dru ∧
    (srgOnTrip o n s).bcu = s.bcu ∧ (srgOnTrip o n s).lpu = s.lpu ∧ (srgOnTrip o n s).clock = s.clock ∧
    (srgOnTrip o n s).timeOfDay = s.timeOfDay ∧ (srgOnTrip o n s).minuteMs = s.minuteMs ∧
    (srgOnTrip o n s).freeIndex = s.freeIndex ∧ (srgOnTrip o n s).pending = s.pending := by
  simp [srgOnTrip]

/-- The RMU on a new trip state (R100, R34). -/
@[simp] theorem rmuOnTrip_keeps (n : TripState) (s : State) :
    (rmuOnTrip n s).lts = s.lts ∧ (rmuOnTrip n s).cpt = s.cpt ∧ (rmuOnTrip n s).tsq = s.tsq ∧
    (rmuOnTrip n s).srg = s.srg ∧ (rmuOnTrip n s).obs = s.obs ∧ (rmuOnTrip n s).dru = s.dru ∧
    (rmuOnTrip n s).bcu = s.bcu ∧ (rmuOnTrip n s).lpu = s.lpu ∧ (rmuOnTrip n s).clock = s.clock ∧
    (rmuOnTrip n s).timeOfDay = s.timeOfDay ∧ (rmuOnTrip n s).minuteMs = s.minuteMs ∧
    (rmuOnTrip n s).freeIndex = s.freeIndex ∧ (rmuOnTrip n s).pending = s.pending := by
  simp [rmuOnTrip]

/-- A change of the trip state leaves the tables, the CPT and the clocks (R100). -/
@[simp] theorem changeTrip_keeps (n : TripState) (st : Option Step) (s : State) :
    (changeTrip n st s).lts = s.lts ∧ (changeTrip n st s).cpt = s.cpt ∧ (changeTrip n st s).clock = s.clock ∧
    (changeTrip n st s).timeOfDay = s.timeOfDay ∧ (changeTrip n st s).minuteMs = s.minuteMs ∧
    (changeTrip n st s).freeIndex = s.freeIndex ∧ (changeTrip n st s).pending = s.pending := by
  unfold changeTrip; split <;> simp

/-- A cause that joins changes the cause list and event sets (R83). -/
@[simp] theorem joinCause_keeps (k : CauseKind) (src : CauseSource) (s : State) :
    (joinCause k src s).lts = s.lts ∧ (joinCause k src s).rmu = s.rmu ∧ (joinCause k src s).cpt = s.cpt ∧
    (joinCause k src s).tsq = s.tsq ∧ (joinCause k src s).srg = s.srg ∧ (joinCause k src s).dru = s.dru ∧
    (joinCause k src s).bcu = s.bcu ∧ (joinCause k src s).clock = s.clock ∧
    (joinCause k src s).timeOfDay = s.timeOfDay ∧ (joinCause k src s).minuteMs = s.minuteMs ∧
    (joinCause k src s).freeIndex = s.freeIndex ∧ (joinCause k src s).pending = s.pending := by
  simp [joinCause]

/-- The drive request dropped (R119, R67). -/
@[simp] theorem dropDrive_keeps (s : State) :
    (dropDrive s).lts = s.lts ∧ (dropDrive s).rmu = s.rmu ∧ (dropDrive s).cpt = s.cpt ∧ (dropDrive s).obs = s.obs ∧
    (dropDrive s).dru = s.dru ∧ (dropDrive s).bcu = s.bcu ∧ (dropDrive s).lpu = s.lpu ∧
    (dropDrive s).clock = s.clock ∧ (dropDrive s).timeOfDay = s.timeOfDay ∧ (dropDrive s).minuteMs = s.minuteMs ∧
    (dropDrive s).freeIndex = s.freeIndex ∧ (dropDrive s).pending = s.pending := by
  simp [dropDrive]

/-- The reference stopped (R65). -/
@[simp] theorem stopReference_keeps (s : State) :
    (stopReference s).lts = s.lts ∧ (stopReference s).rmu = s.rmu ∧ (stopReference s).cpt = s.cpt ∧
    (stopReference s).tsq = s.tsq ∧ (stopReference s).obs = s.obs ∧ (stopReference s).dru = s.dru ∧
    (stopReference s).bcu = s.bcu ∧ (stopReference s).lpu = s.lpu ∧ (stopReference s).clock = s.clock ∧
    (stopReference s).timeOfDay = s.timeOfDay ∧ (stopReference s).minuteMs = s.minuteMs ∧
    (stopReference s).freeIndex = s.freeIndex ∧ (stopReference s).pending = s.pending := by
  simp [stopReference]

/-- SERVICE braking (R89). -/
@[simp] theorem serviceBraking_keeps (s : State) :
    (serviceBraking s).lts = s.lts ∧ (serviceBraking s).rmu = s.rmu ∧ (serviceBraking s).cpt = s.cpt ∧
    (serviceBraking s).bcu = s.bcu ∧ (serviceBraking s).clock = s.clock ∧
    (serviceBraking s).timeOfDay = s.timeOfDay ∧ (serviceBraking s).minuteMs = s.minuteMs ∧
    (serviceBraking s).freeIndex = s.freeIndex ∧ (serviceBraking s).pending = s.pending := by
  simp [serviceBraking]

/-- EMERGENCY braking (R90). -/
@[simp] theorem emergencyBraking_keeps (s : State) :
    (emergencyBraking s).lts = s.lts ∧ (emergencyBraking s).rmu = s.rmu ∧ (emergencyBraking s).cpt = s.cpt ∧
    (emergencyBraking s).bcu = s.bcu ∧ (emergencyBraking s).clock = s.clock ∧
    (emergencyBraking s).timeOfDay = s.timeOfDay ∧ (emergencyBraking s).minuteMs = s.minuteMs ∧
    (emergencyBraking s).freeIndex = s.freeIndex ∧ (emergencyBraking s).pending = s.pending := by
  simp [emergencyBraking]

/-- The controlled stop (R88). -/
@[simp] theorem controlledStop_keeps (s : State) :
    (controlledStop s).lts = s.lts ∧ (controlledStop s).rmu = s.rmu ∧ (controlledStop s).tsq = s.tsq ∧
    (controlledStop s).dru = s.dru ∧ (controlledStop s).bcu = s.bcu ∧ (controlledStop s).lpu = s.lpu ∧
    (controlledStop s).clock = s.clock ∧ (controlledStop s).timeOfDay = s.timeOfDay ∧
    (controlledStop s).minuteMs = s.minuteMs ∧ (controlledStop s).freeIndex = s.freeIndex ∧
    (controlledStop s).pending = s.pending := by
  simp [controlledStop]

/-- STOP braking joining an empty list (R87). -/
@[simp] theorem stopAction_keeps (s : State) :
    (stopAction s).lts = s.lts ∧ (stopAction s).rmu = s.rmu ∧ (stopAction s).tsq = s.tsq ∧
    (stopAction s).dru = s.dru ∧ (stopAction s).bcu = s.bcu ∧ (stopAction s).lpu = s.lpu ∧
    (stopAction s).clock = s.clock ∧ (stopAction s).timeOfDay = s.timeOfDay ∧
    (stopAction s).minuteMs = s.minuteMs ∧ (stopAction s).freeIndex = s.freeIndex ∧
    (stopAction s).pending = s.pending := by
  unfold stopAction; split <;> simp

/-- The action of a braking that rises (R89, R90). -/
@[simp] theorem brakingAction_keeps (b : Braking) (s : State) :
    (brakingAction b s).lts = s.lts ∧ (brakingAction b s).rmu = s.rmu ∧ (brakingAction b s).cpt = s.cpt ∧
    (brakingAction b s).bcu = s.bcu ∧ (brakingAction b s).clock = s.clock ∧
    (brakingAction b s).timeOfDay = s.timeOfDay ∧ (brakingAction b s).minuteMs = s.minuteMs ∧
    (brakingAction b s).freeIndex = s.freeIndex ∧ (brakingAction b s).pending = s.pending := by
  unfold brakingAction; split <;> (try split) <;> simp

/-- A trip (R84). -/
@[simp] theorem trip_keeps (s : State) :
    (trip s).lts = s.lts ∧ (trip s).cpt = s.cpt ∧ (trip s).clock = s.clock ∧ (trip s).timeOfDay = s.timeOfDay ∧
    (trip s).minuteMs = s.minuteMs ∧ (trip s).freeIndex = s.freeIndex ∧ (trip s).pending = s.pending := by
  simp [trip]

/-- A cause leaves the tables, the clocks and the queue of commands (R83 to R90). -/
@[simp] theorem giveCause_keeps (k : CauseKind) (src : CauseSource) (s : State) :
    (giveCause k src s).lts = s.lts ∧ (giveCause k src s).clock = s.clock ∧
    (giveCause k src s).timeOfDay = s.timeOfDay ∧ (giveCause k src s).minuteMs = s.minuteMs ∧
    (giveCause k src s).freeIndex = s.freeIndex ∧ (giveCause k src s).pending = s.pending := by
  simp only [giveCause]; split <;> (try split) <;> (try split) <;> simp

/-- A brake fault (R93 to R95). -/
@[simp] theorem brakeFault_keeps (b : Brake) (s : State) :
    (brakeFault b s).lts = s.lts ∧ (brakeFault b s).clock = s.clock ∧ (brakeFault b s).timeOfDay = s.timeOfDay ∧
    (brakeFault b s).minuteMs = s.minuteMs ∧ (brakeFault b s).freeIndex = s.freeIndex ∧
    (brakeFault b s).pending = s.pending := by
  cases b <;> simp [brakeFault]

/-- A stop named to the CPT (R47). -/
@[simp] theorem nameStop_keeps (k : Nat) (s : State) :
    (nameStop k s).lts = s.lts ∧ (nameStop k s).rmu = s.rmu ∧ (nameStop k s).tsq = s.tsq ∧
    (nameStop k s).srg = s.srg ∧ (nameStop k s).obs = s.obs ∧ (nameStop k s).dru = s.dru ∧
    (nameStop k s).bcu = s.bcu ∧ (nameStop k s).lpu = s.lpu ∧ (nameStop k s).clock = s.clock ∧
    (nameStop k s).timeOfDay = s.timeOfDay ∧ (nameStop k s).minuteMs = s.minuteMs ∧
    (nameStop k s).freeIndex = s.freeIndex ∧ (nameStop k s).pending = s.pending := by
  simp [nameStop]

/-- The target recomputed (R47). -/
@[simp] theorem recomputeTarget_keeps (s : State) :
    (recomputeTarget s).lts = s.lts ∧ (recomputeTarget s).rmu = s.rmu ∧ (recomputeTarget s).tsq = s.tsq ∧
    (recomputeTarget s).srg = s.srg ∧ (recomputeTarget s).obs = s.obs ∧ (recomputeTarget s).dru = s.dru ∧
    (recomputeTarget s).bcu = s.bcu ∧ (recomputeTarget s).lpu = s.lpu ∧ (recomputeTarget s).clock = s.clock ∧
    (recomputeTarget s).timeOfDay = s.timeOfDay ∧ (recomputeTarget s).minuteMs = s.minuteMs ∧
    (recomputeTarget s).freeIndex = s.freeIndex ∧ (recomputeTarget s).pending = s.pending := by
  simp [recomputeTarget]

/-- A halt entry served (R112). -/
@[simp] theorem serveHalt_keeps (k : Nat) (s : State) :
    (serveHalt k s).lts = s.lts ∧ (serveHalt k s).rmu = s.rmu ∧ (serveHalt k s).cpt = s.cpt ∧
    (serveHalt k s).srg = s.srg ∧ (serveHalt k s).obs = s.obs ∧ (serveHalt k s).dru = s.dru ∧
    (serveHalt k s).bcu = s.bcu ∧ (serveHalt k s).clock = s.clock ∧ (serveHalt k s).timeOfDay = s.timeOfDay ∧
    (serveHalt k s).minuteMs = s.minuteMs ∧ (serveHalt k s).freeIndex = s.freeIndex ∧
    (serveHalt k s).pending = s.pending := by
  unfold serveHalt; split <;> simp

/-- A target moved (R107). -/
@[simp] theorem moveTarget_keeps (k : Nat) (s : State) :
    (moveTarget k s).lts = s.lts ∧ (moveTarget k s).rmu = s.rmu ∧ (moveTarget k s).srg = s.srg ∧
    (moveTarget k s).obs = s.obs ∧ (moveTarget k s).dru = s.dru ∧ (moveTarget k s).bcu = s.bcu ∧
    (moveTarget k s).clock = s.clock ∧ (moveTarget k s).timeOfDay = s.timeOfDay ∧
    (moveTarget k s).minuteMs = s.minuteMs ∧ (moveTarget k s).freeIndex = s.freeIndex ∧
    (moveTarget k s).pending = s.pending := by
  simp [moveTarget]

/-- The feasibility test (R111). -/
@[simp] theorem testFeasibility_keeps (k : Nat) (s : State) :
    (testFeasibility k s).lts = s.lts ∧ (testFeasibility k s).rmu = s.rmu ∧ (testFeasibility k s).srg = s.srg ∧
    (testFeasibility k s).obs = s.obs ∧ (testFeasibility k s).dru = s.dru ∧ (testFeasibility k s).bcu = s.bcu ∧
    (testFeasibility k s).clock = s.clock ∧ (testFeasibility k s).timeOfDay = s.timeOfDay ∧
    (testFeasibility k s).minuteMs = s.minuteMs ∧ (testFeasibility k s).freeIndex = s.freeIndex ∧
    (testFeasibility k s).pending = s.pending := by
  unfold testFeasibility; split <;> simp

/-- A halt request listed (R109). -/
@[simp] theorem listHalt_keeps (k : Nat) (src : HaltSource) (s : State) :
    (listHalt k src s).lts = s.lts ∧ (listHalt k src s).rmu = s.rmu ∧ (listHalt k src s).cpt = s.cpt ∧
    (listHalt k src s).srg = s.srg ∧ (listHalt k src s).obs = s.obs ∧ (listHalt k src s).dru = s.dru ∧
    (listHalt k src s).bcu = s.bcu ∧ (listHalt k src s).clock = s.clock ∧
    (listHalt k src s).timeOfDay = s.timeOfDay ∧ (listHalt k src s).minuteMs = s.minuteMs ∧
    (listHalt k src s).freeIndex = s.freeIndex ∧ (listHalt k src s).pending = s.pending := by
  unfold listHalt; split <;> simp

/-- A halt request (R109). -/
@[simp] theorem haltRequest_keeps (k : Nat) (src : HaltSource) (s : State) :
    (haltRequest k src s).2.lts = s.lts ∧ (haltRequest k src s).2.rmu = s.rmu ∧
    (haltRequest k src s).2.srg = s.srg ∧ (haltRequest k src s).2.obs = s.obs ∧
    (haltRequest k src s).2.dru = s.dru ∧ (haltRequest k src s).2.bcu = s.bcu ∧
    (haltRequest k src s).2.clock = s.clock ∧ (haltRequest k src s).2.timeOfDay = s.timeOfDay ∧
    (haltRequest k src s).2.minuteMs = s.minuteMs ∧ (haltRequest k src s).2.freeIndex = s.freeIndex ∧
    (haltRequest k src s).2.pending = s.pending := by
  simp only [haltRequest]; split <;> (try split) <;> (try split) <;> (try split) <;> simp

/-- Open requests at a terminal (R145). -/
@[simp] theorem openAtTerminal_keeps (k : Nat) (s : State) :
    (openAtTerminal k s).lts = s.lts ∧ (openAtTerminal k s).rmu = s.rmu ∧ (openAtTerminal k s).cpt = s.cpt ∧
    (openAtTerminal k s).tsq = s.tsq ∧ (openAtTerminal k s).srg = s.srg ∧ (openAtTerminal k s).obs = s.obs ∧
    (openAtTerminal k s).dru = s.dru ∧ (openAtTerminal k s).clock = s.clock ∧
    (openAtTerminal k s).timeOfDay = s.timeOfDay ∧ (openAtTerminal k s).minuteMs = s.minuteMs ∧
    (openAtTerminal k s).freeIndex = s.freeIndex ∧ (openAtTerminal k s).pending = s.pending := by
  unfold openAtTerminal; split <;> simp

/-- The line STOPPED at a stop (R100, R112). -/
@[simp] theorem stopAt_keeps (k : Nat) (s : State) :
    (stopAt k s).lts = s.lts ∧ (stopAt k s).cpt = s.cpt ∧ (stopAt k s).clock = s.clock ∧
    (stopAt k s).timeOfDay = s.timeOfDay ∧ (stopAt k s).minuteMs = s.minuteMs ∧
    (stopAt k s).freeIndex = s.freeIndex ∧ (stopAt k s).pending = s.pending := by
  simp [stopAt]

/-- A departure abandoned to its origin (R118). -/
@[simp] theorem abandonToOrigin_keeps (s : State) :
    (abandonToOrigin s).lts = s.lts ∧ (abandonToOrigin s).cpt = s.cpt ∧ (abandonToOrigin s).clock = s.clock ∧
    (abandonToOrigin s).timeOfDay = s.timeOfDay ∧ (abandonToOrigin s).minuteMs = s.minuteMs ∧
    (abandonToOrigin s).freeIndex = s.freeIndex ∧ (abandonToOrigin s).pending = s.pending := by
  simp [abandonToOrigin]

/-- The arrival test (R51). -/
@[simp] theorem arrivalTest_keeps (s : State) :
    (arrivalTest s).lts = s.lts ∧ (arrivalTest s).rmu = s.rmu ∧ (arrivalTest s).tsq = s.tsq ∧
    (arrivalTest s).srg = s.srg ∧ (arrivalTest s).obs = s.obs ∧ (arrivalTest s).dru = s.dru ∧
    (arrivalTest s).bcu = s.bcu ∧ (arrivalTest s).clock = s.clock ∧ (arrivalTest s).timeOfDay = s.timeOfDay ∧
    (arrivalTest s).minuteMs = s.minuteMs ∧ (arrivalTest s).freeIndex = s.freeIndex ∧
    (arrivalTest s).pending = s.pending := by
  simp only [arrivalTest]; split <;> (try split) <;> simp

/-- "Brakes lifted" reported (R117, R121). -/
@[simp] theorem brakesLifted_keeps (s : State) :
    (brakesLifted s).lts = s.lts ∧ (brakesLifted s).cpt = s.cpt ∧ (brakesLifted s).clock = s.clock ∧
    (brakesLifted s).timeOfDay = s.timeOfDay ∧ (brakesLifted s).minuteMs = s.minuteMs ∧
    (brakesLifted s).freeIndex = s.freeIndex ∧ (brakesLifted s).pending = s.pending := by
  unfold brakesLifted; split <;> (try split) <;> simp

/-- The report of a lift request (R92). -/
@[simp] theorem reportLifted_keeps (s : State) :
    (reportLifted s).lts = s.lts ∧ (reportLifted s).cpt = s.cpt ∧ (reportLifted s).clock = s.clock ∧
    (reportLifted s).timeOfDay = s.timeOfDay ∧ (reportLifted s).minuteMs = s.minuteMs ∧
    (reportLifted s).freeIndex = s.freeIndex ∧ (reportLifted s).pending = s.pending := by
  unfold reportLifted; split <;> simp

/-- The lift request (R92). -/
@[simp] theorem liftRequest_keeps (s : State) :
    (liftRequest s).lts = s.lts ∧ (liftRequest s).cpt = s.cpt ∧ (liftRequest s).clock = s.clock ∧
    (liftRequest s).timeOfDay = s.timeOfDay ∧ (liftRequest s).minuteMs = s.minuteMs ∧
    (liftRequest s).freeIndex = s.freeIndex ∧ (liftRequest s).pending = s.pending := by
  unfold liftRequest; split <;> simp

/-- The end of an arrival (R120). -/
@[simp] theorem arrivalEnd_keeps (s : State) :
    (arrivalEnd s).lts = s.lts ∧ (arrivalEnd s).clock = s.clock ∧ (arrivalEnd s).timeOfDay = s.timeOfDay ∧
    (arrivalEnd s).minuteMs = s.minuteMs ∧ (arrivalEnd s).freeIndex = s.freeIndex ∧
    (arrivalEnd s).pending = s.pending := by
  simp only [arrivalEnd]; split <;> simp

/-- The end of a move (R122). -/
@[simp] theorem moveEnd_keeps (s : State) :
    (moveEnd s).lts = s.lts ∧ (moveEnd s).cpt = s.cpt ∧ (moveEnd s).clock = s.clock ∧
    (moveEnd s).timeOfDay = s.timeOfDay ∧ (moveEnd s).minuteMs = s.minuteMs ∧ (moveEnd s).freeIndex = s.freeIndex ∧
    (moveEnd s).pending = s.pending := by
  simp [moveEnd]

/-- "SBK proven" reported (R120, R122). -/
@[simp] theorem sbkProven_keeps (s : State) :
    (sbkProven s).lts = s.lts ∧ (sbkProven s).clock = s.clock ∧ (sbkProven s).timeOfDay = s.timeOfDay ∧
    (sbkProven s).minuteMs = s.minuteMs ∧ (sbkProven s).freeIndex = s.freeIndex ∧
    (sbkProven s).pending = s.pending := by
  unfold sbkProven; split <;> (try split) <;> simp

/-- The report of an apply request (R92). -/
@[simp] theorem reportApplied_keeps (s : State) :
    (reportApplied s).lts = s.lts ∧ (reportApplied s).clock = s.clock ∧ (reportApplied s).timeOfDay = s.timeOfDay ∧
    (reportApplied s).minuteMs = s.minuteMs ∧ (reportApplied s).freeIndex = s.freeIndex ∧
    (reportApplied s).pending = s.pending := by
  unfold reportApplied; split <;> simp

/-- The apply request (R92). -/
@[simp] theorem applyRequest_keeps (s : State) :
    (applyRequest s).lts = s.lts ∧ (applyRequest s).clock = s.clock ∧ (applyRequest s).timeOfDay = s.timeOfDay ∧
    (applyRequest s).minuteMs = s.minuteMs ∧ (applyRequest s).freeIndex = s.freeIndex ∧
    (applyRequest s).pending = s.pending := by
  simp [applyRequest]

/-- DIR reported (R68, R117). -/
@[simp] theorem directionShown_keeps (s : State) :
    (directionShown s).lts = s.lts ∧ (directionShown s).cpt = s.cpt ∧ (directionShown s).clock = s.clock ∧
    (directionShown s).timeOfDay = s.timeOfDay ∧ (directionShown s).minuteMs = s.minuteMs ∧
    (directionShown s).freeIndex = s.freeIndex ∧ (directionShown s).pending = s.pending := by
  unfold directionShown; split <;> simp

/-- A direction handed to the SRG (R68). -/
@[simp] theorem handDirection_keeps (d : Direction) (s : State) :
    (handDirection d s).lts = s.lts ∧ (handDirection d s).cpt = s.cpt ∧ (handDirection d s).clock = s.clock ∧
    (handDirection d s).timeOfDay = s.timeOfDay ∧ (handDirection d s).minuteMs = s.minuteMs ∧
    (handDirection d s).freeIndex = s.freeIndex ∧ (handDirection d s).pending = s.pending := by
  unfold handDirection; split <;> (try split) <;> simp

/-- The freeze (R54, R55). -/
@[simp] theorem freeze_keeps (d : Direction) (s : State) :
    (freeze d s).lts = s.lts ∧ (freeze d s).rmu = s.rmu ∧ (freeze d s).cpt = s.cpt ∧ (freeze d s).tsq = s.tsq ∧
    (freeze d s).obs = s.obs ∧ (freeze d s).dru = s.dru ∧ (freeze d s).bcu = s.bcu ∧ (freeze d s).lpu = s.lpu ∧
    (freeze d s).clock = s.clock ∧ (freeze d s).timeOfDay = s.timeOfDay ∧ (freeze d s).minuteMs = s.minuteMs ∧
    (freeze d s).freeIndex = s.freeIndex ∧ (freeze d s).pending = s.pending := by
  simp [freeze]

/-- The envelope of a departure (R71). -/
@[simp] theorem envelopeForTrip_keeps (s : State) :
    (envelopeForTrip s).lts = s.lts ∧ (envelopeForTrip s).rmu = s.rmu ∧ (envelopeForTrip s).cpt = s.cpt ∧
    (envelopeForTrip s).tsq = s.tsq ∧ (envelopeForTrip s).srg = s.srg ∧ (envelopeForTrip s).dru = s.dru ∧
    (envelopeForTrip s).bcu = s.bcu ∧ (envelopeForTrip s).lpu = s.lpu ∧ (envelopeForTrip s).clock = s.clock ∧
    (envelopeForTrip s).timeOfDay = s.timeOfDay ∧ (envelopeForTrip s).minuteMs = s.minuteMs ∧
    (envelopeForTrip s).freeIndex = s.freeIndex ∧ (envelopeForTrip s).pending = s.pending := by
  simp [envelopeForTrip]

/-- The envelope of a move (R71). -/
@[simp] theorem envelopeForMove_keeps (d : Direction) (x : Int) (s : State) :
    (envelopeForMove d x s).lts = s.lts ∧ (envelopeForMove d x s).rmu = s.rmu ∧
    (envelopeForMove d x s).cpt = s.cpt ∧ (envelopeForMove d x s).tsq = s.tsq ∧
    (envelopeForMove d x s).srg = s.srg ∧ (envelopeForMove d x s).dru = s.dru ∧
    (envelopeForMove d x s).bcu = s.bcu ∧ (envelopeForMove d x s).lpu = s.lpu ∧
    (envelopeForMove d x s).clock = s.clock ∧ (envelopeForMove d x s).timeOfDay = s.timeOfDay ∧
    (envelopeForMove d x s).minuteMs = s.minuteMs ∧ (envelopeForMove d x s).freeIndex = s.freeIndex ∧
    (envelopeForMove d x s).pending = s.pending := by
  simp [envelopeForMove]

/-- The carry-over of a terminal (R151). -/
@[simp] theorem carryOverAt_keeps (k : Nat) (st : Station) (s : State) :
    (carryOverAt k st s).lts = s.lts ∧ (carryOverAt k st s).rmu = s.rmu ∧ (carryOverAt k st s).cpt = s.cpt ∧
    (carryOverAt k st s).tsq = s.tsq ∧ (carryOverAt k st s).srg = s.srg ∧ (carryOverAt k st s).obs = s.obs ∧
    (carryOverAt k st s).dru = s.dru ∧ (carryOverAt k st s).clock = s.clock ∧
    (carryOverAt k st s).timeOfDay = s.timeOfDay ∧ (carryOverAt k st s).minuteMs = s.minuteMs ∧
    (carryOverAt k st s).freeIndex = s.freeIndex ∧ (carryOverAt k st s).pending = s.pending := by
  unfold carryOverAt; split <;> simp

/-- The carry-over (R151). -/
@[simp] theorem carryOver_keeps (s : State) :
    (carryOver s).lts = s.lts ∧ (carryOver s).rmu = s.rmu ∧ (carryOver s).cpt = s.cpt ∧ (carryOver s).tsq = s.tsq ∧
    (carryOver s).srg = s.srg ∧ (carryOver s).obs = s.obs ∧ (carryOver s).dru = s.dru ∧
    (carryOver s).clock = s.clock ∧ (carryOver s).timeOfDay = s.timeOfDay ∧ (carryOver s).minuteMs = s.minuteMs ∧
    (carryOver s).freeIndex = s.freeIndex ∧ (carryOver s).pending = s.pending := by
  unfold carryOver; split <;> (try split) <;> simp

/-- A SUSPENDED batch opened at release (R152). -/
@[simp] theorem openIfSuspended_keeps (st : Station) (s : State) :
    (openIfSuspended st s).lts = s.lts ∧ (openIfSuspended st s).rmu = s.rmu ∧ (openIfSuspended st s).cpt = s.cpt ∧
    (openIfSuspended st s).tsq = s.tsq ∧ (openIfSuspended st s).srg = s.srg ∧ (openIfSuspended st s).obs = s.obs ∧
    (openIfSuspended st s).dru = s.dru ∧ (openIfSuspended st s).clock = s.clock ∧
    (openIfSuspended st s).timeOfDay = s.timeOfDay ∧ (openIfSuspended st s).minuteMs = s.minuteMs ∧
    (openIfSuspended st s).freeIndex = s.freeIndex ∧ (openIfSuspended st s).pending = s.pending := by
  unfold openIfSuspended; split <;> simp

/-- The blocks at the brake-release step (R117). -/
@[simp] theorem releaseActions_keeps (s : State) :
    (releaseActions s).lts = s.lts ∧ (releaseActions s).cpt = s.cpt ∧ (releaseActions s).dru = s.dru ∧
    (releaseActions s).clock = s.clock ∧ (releaseActions s).timeOfDay = s.timeOfDay ∧
    (releaseActions s).minuteMs = s.minuteMs ∧ (releaseActions s).freeIndex = s.freeIndex ∧
    (releaseActions s).pending = s.pending := by
  simp [releaseActions]

/-- Step BRAKE_RELEASE (R117). -/
@[simp] theorem brakeRelease_keeps (s : State) :
    (brakeRelease s).lts = s.lts ∧ (brakeRelease s).cpt = s.cpt ∧ (brakeRelease s).clock = s.clock ∧
    (brakeRelease s).timeOfDay = s.timeOfDay ∧ (brakeRelease s).minuteMs = s.minuteMs ∧
    (brakeRelease s).freeIndex = s.freeIndex ∧ (brakeRelease s).pending = s.pending := by
  simp [brakeRelease]

/-- The closure report (R116, R131). -/
@[simp] theorem closureReport_keeps (s : State) :
    (closureReport s).lts = s.lts ∧ (closureReport s).cpt = s.cpt ∧ (closureReport s).clock = s.clock ∧
    (closureReport s).timeOfDay = s.timeOfDay ∧ (closureReport s).minuteMs = s.minuteMs ∧
    (closureReport s).freeIndex = s.freeIndex ∧ (closureReport s).pending = s.pending := by
  unfold closureReport; split <;> simp

/-- Step CLOSURE entered (R115). -/
@[simp] theorem enterClosure_keeps (s : State) :
    (enterClosure s).lts = s.lts ∧ (enterClosure s).cpt = s.cpt ∧ (enterClosure s).clock = s.clock ∧
    (enterClosure s).timeOfDay = s.timeOfDay ∧ (enterClosure s).minuteMs = s.minuteMs ∧
    (enterClosure s).freeIndex = s.freeIndex ∧ (enterClosure s).pending = s.pending := by
  simp only [enterClosure]; split <;> simp

/-- Step DOORS (R115). -/
@[simp] theorem doorsStep_keeps (s : State) :
    (doorsStep s).lts = s.lts ∧ (doorsStep s).cpt = s.cpt ∧ (doorsStep s).clock = s.clock ∧
    (doorsStep s).timeOfDay = s.timeOfDay ∧ (doorsStep s).minuteMs = s.minuteMs ∧
    (doorsStep s).freeIndex = s.freeIndex ∧ (doorsStep s).pending = s.pending := by
  simp only [doorsStep]; split <;> simp

/-- The end of step WARNING (R114). -/
@[simp] theorem endWarningStep_keeps (s : State) :
    (endWarningStep s).lts = s.lts ∧ (endWarningStep s).cpt = s.cpt ∧ (endWarningStep s).clock = s.clock ∧
    (endWarningStep s).timeOfDay = s.timeOfDay ∧ (endWarningStep s).minuteMs = s.minuteMs ∧
    (endWarningStep s).freeIndex = s.freeIndex ∧ (endWarningStep s).pending = s.pending := by
  unfold endWarningStep; split <;> (try split) <;> simp

/-- A CLOSING request (R146). -/
@[simp] theorem closeBatch_keeps (st : Station) (s : State) :
    (closeBatch st s).lts = s.lts ∧ (closeBatch st s).rmu = s.rmu ∧ (closeBatch st s).cpt = s.cpt ∧
    (closeBatch st s).tsq = s.tsq ∧ (closeBatch st s).srg = s.srg ∧ (closeBatch st s).obs = s.obs ∧
    (closeBatch st s).dru = s.dru ∧ (closeBatch st s).clock = s.clock ∧ (closeBatch st s).timeOfDay = s.timeOfDay ∧
    (closeBatch st s).minuteMs = s.minuteMs ∧ (closeBatch st s).freeIndex = s.freeIndex ∧
    (closeBatch st s).pending = s.pending := by
  simp [closeBatch]

/-- The warning begun (R69). -/
@[simp] theorem startWarning_keeps (s : State) :
    (startWarning s).lts = s.lts ∧ (startWarning s).rmu = s.rmu ∧ (startWarning s).cpt = s.cpt ∧
    (startWarning s).obs = s.obs ∧ (startWarning s).dru = s.dru ∧ (startWarning s).bcu = s.bcu ∧
    (startWarning s).lpu = s.lpu ∧ (startWarning s).clock = s.clock ∧ (startWarning s).timeOfDay = s.timeOfDay ∧
    (startWarning s).minuteMs = s.minuteMs ∧ (startWarning s).freeIndex = s.freeIndex ∧
    (startWarning s).pending = s.pending := by
  unfold startWarning; split <;> simp

/-- A departure begun (R114). -/
@[simp] theorem beginDeparture_keeps (s : State) :
    (beginDeparture s).lts = s.lts ∧ (beginDeparture s).cpt = s.cpt ∧ (beginDeparture s).clock = s.clock ∧
    (beginDeparture s).timeOfDay = s.timeOfDay ∧ (beginDeparture s).minuteMs = s.minuteMs ∧
    (beginDeparture s).freeIndex = s.freeIndex ∧ (beginDeparture s).pending = s.pending := by
  simp only [beginDeparture]; split <;> simp

end Sys2Proof.Machine
end

