-- ==== Sys2Proof/Laws/Items.lean ====
section
/-! SUPPORT. What each shared operation leaves alone inside the blocks it changes: one lemma per operation, over the
items of Tables 2-1, 3-1, 4-1, 5-1 and 6-1. -/

namespace Sys2Proof.Machine

@[simp] theorem setBatch_items (st : Station) (b : Batch) (s : State) :
    (setBatch st b s).bcu.loads = s.bcu.loads := by
  unfold setBatch; split <;> simp

@[simp] theorem suspendBatches_items (s : State) :
    (suspendBatches s).bcu.loads = s.bcu.loads := by
  simp [suspendBatches, suspendBatch]

@[simp] theorem openBatch_items (st : Station) (s : State) :
    (openBatch st s).bcu.loads = s.bcu.loads := by
  simp [openBatch]

@[simp] theorem openBatches_items (s : State) :
    (openBatches s).bcu.loads = s.bcu.loads := by
  simp [openBatches]

@[simp] theorem setBrake_items (b : Brake) (r : BrakeRecord) (s : State) :
    (setBrake b r s).obs.envelope = s.obs.envelope ∧ (setBrake b r s).obs.fSup = s.obs.fSup ∧
    (setBrake b r s).obs.inspSup = s.obs.inspSup ∧ (setBrake b r s).obs.aSup = s.obs.aSup ∧
    (setBrake b r s).obs.direction = s.obs.direction ∧ (setBrake b r s).obs.endpoint = s.obs.endpoint ∧
    (setBrake b r s).obs.eFrom = s.obs.eFrom ∧ (setBrake b r s).obs.rE2 = s.obs.rE2 ∧
    (setBrake b r s).obs.ctlStop = s.obs.ctlStop ∧ (setBrake b r s).obs.vPerm2 = s.obs.vPerm2 ∧
    (setBrake b r s).obs.excursion = s.obs.excursion ∧ (setBrake b r s).obs.pS = s.obs.pS ∧
    (setBrake b r s).obs.still = s.obs.still ∧
    (setBrake b r s).obs.rollback = s.obs.rollback ∧ (setBrake b r s).obs.causes = s.obs.causes ∧
    (setBrake b r s).obs.trippedFrom = s.obs.trippedFrom ∧ (setBrake b r s).obs.stopLatch = s.obs.stopLatch ∧
    (setBrake b r s).obs.railBrake = s.obs.railBrake ∧ (setBrake b r s).obs.pfail = s.obs.pfail ∧
    (setBrake b r s).obs.carFault = s.obs.carFault ∧ (setBrake b r s).obs.liftPending = s.obs.liftPending ∧
    (setBrake b r s).obs.applyPending = s.obs.applyPending := by
  unfold setBrake; split <;> simp

@[simp] theorem applyBrake_items (b : Brake) (s : State) :
    (applyBrake b s).obs.envelope = s.obs.envelope ∧ (applyBrake b s).obs.fSup = s.obs.fSup ∧
    (applyBrake b s).obs.inspSup = s.obs.inspSup ∧ (applyBrake b s).obs.aSup = s.obs.aSup ∧
    (applyBrake b s).obs.direction = s.obs.direction ∧ (applyBrake b s).obs.endpoint = s.obs.endpoint ∧
    (applyBrake b s).obs.eFrom = s.obs.eFrom ∧ (applyBrake b s).obs.rE2 = s.obs.rE2 ∧
    (applyBrake b s).obs.ctlStop = s.obs.ctlStop ∧ (applyBrake b s).obs.vPerm2 = s.obs.vPerm2 ∧
    (applyBrake b s).obs.excursion = s.obs.excursion ∧ (applyBrake b s).obs.pS = s.obs.pS ∧
    (applyBrake b s).obs.still = s.obs.still ∧
    (applyBrake b s).obs.rollback = s.obs.rollback ∧ (applyBrake b s).obs.causes = s.obs.causes ∧
    (applyBrake b s).obs.trippedFrom = s.obs.trippedFrom ∧ (applyBrake b s).obs.stopLatch = s.obs.stopLatch ∧
    (applyBrake b s).obs.railBrake = s.obs.railBrake ∧ (applyBrake b s).obs.pfail = s.obs.pfail ∧
    (applyBrake b s).obs.carFault = s.obs.carFault ∧ (applyBrake b s).obs.liftPending = s.obs.liftPending ∧
    (applyBrake b s).obs.applyPending = s.obs.applyPending := by
  unfold applyBrake; split <;> simp

@[simp] theorem liftBrake_items (b : Brake) (s : State) :
    (liftBrake b s).obs.envelope = s.obs.envelope ∧ (liftBrake b s).obs.fSup = s.obs.fSup ∧
    (liftBrake b s).obs.inspSup = s.obs.inspSup ∧ (liftBrake b s).obs.aSup = s.obs.aSup ∧
    (liftBrake b s).obs.direction = s.obs.direction ∧ (liftBrake b s).obs.endpoint = s.obs.endpoint ∧
    (liftBrake b s).obs.eFrom = s.obs.eFrom ∧ (liftBrake b s).obs.rE2 = s.obs.rE2 ∧
    (liftBrake b s).obs.ctlStop = s.obs.ctlStop ∧ (liftBrake b s).obs.vPerm2 = s.obs.vPerm2 ∧
    (liftBrake b s).obs.excursion = s.obs.excursion ∧ (liftBrake b s).obs.pS = s.obs.pS ∧
    (liftBrake b s).obs.still = s.obs.still ∧
    (liftBrake b s).obs.rollback = s.obs.rollback ∧ (liftBrake b s).obs.causes = s.obs.causes ∧
    (liftBrake b s).obs.trippedFrom = s.obs.trippedFrom ∧ (liftBrake b s).obs.stopLatch = s.obs.stopLatch ∧
    (liftBrake b s).obs.railBrake = s.obs.railBrake ∧ (liftBrake b s).obs.pfail = s.obs.pfail ∧
    (liftBrake b s).obs.carFault = s.obs.carFault ∧ (liftBrake b s).obs.liftPending = s.obs.liftPending ∧
    (liftBrake b s).obs.applyPending = s.obs.applyPending := by
  unfold liftBrake; split <;> simp

@[simp] theorem recordTrip_items (n : TripState) (st : Option Step) (s : State) :
    (recordTrip n st s).tsq.direction = s.tsq.direction ∧ (recordTrip n st s).tsq.origin = s.tsq.origin ∧
    (recordTrip n st s).tsq.target = s.tsq.target ∧ (recordTrip n st s).tsq.mode = s.tsq.mode ∧
    (recordTrip n st s).tsq.silent = s.tsq.silent ∧ (recordTrip n st s).tsq.halts = s.tsq.halts ∧
    (recordTrip n st s).tsq.consoleTimer = s.tsq.consoleTimer ∧
    (recordTrip n st s).tsq.callLines = s.tsq.callLines := by
  simp [recordTrip]

@[simp] theorem obsOnTrip_items (n : TripState) (s : State) :
    (obsOnTrip n s).obs.fSup = s.obs.fSup ∧ (obsOnTrip n s).obs.inspSup = s.obs.inspSup ∧
    (obsOnTrip n s).obs.aSup = s.obs.aSup ∧ (obsOnTrip n s).obs.direction = s.obs.direction ∧
    (obsOnTrip n s).obs.rE2 = s.obs.rE2 ∧ (obsOnTrip n s).obs.pS = s.obs.pS ∧
    (obsOnTrip n s).obs.still = s.obs.still ∧
    (obsOnTrip n s).obs.causes = s.obs.causes ∧ (obsOnTrip n s).obs.trippedFrom = s.obs.trippedFrom ∧
    (obsOnTrip n s).obs.stopLatch = s.obs.stopLatch ∧ (obsOnTrip n s).obs.brakes = s.obs.brakes ∧
    (obsOnTrip n s).obs.railBrake = s.obs.railBrake ∧ (obsOnTrip n s).obs.pfail = s.obs.pfail ∧
    (obsOnTrip n s).obs.carFault = s.obs.carFault := by
  simp only [obsOnTrip, updObs_obs]; split <;> simp

@[simp] theorem bcuOnTrip_items (n : TripState) (s : State) :
    (bcuOnTrip n s).bcu.loads = s.bcu.loads := by
  unfold bcuOnTrip; split <;> simp

@[simp] theorem restReference_items (s : State) :
    (restReference s).srg.vTgt = s.srg.vTgt ∧ (restReference s).srg.band = s.srg.band ∧
    (restReference s).srg.fRef = s.srg.fRef ∧ (restReference s).srg.insp = s.srg.insp ∧
    (restReference s).srg.phase = s.srg.phase ∧ (restReference s).srg.ctlTarget = s.srg.ctlTarget ∧
    (restReference s).srg.active = s.srg.active ∧ (restReference s).srg.period = s.srg.period ∧
    (restReference s).srg.dir = s.srg.dir ∧ (restReference s).srg.dirPending = s.srg.dirPending ∧
    (restReference s).srg.warning = s.srg.warning ∧ (restReference s).srg.warn = s.srg.warn ∧
    (restReference s).srg.frozen = s.srg.frozen := by
  unfold restReference; split <;> simp [Srg.zeroed]

@[simp] theorem srgOnTrip_items (o n : TripState) (s : State) :
    (srgOnTrip o n s).srg.vTgt = s.srg.vTgt ∧ (srgOnTrip o n s).srg.band = s.srg.band ∧
    (srgOnTrip o n s).srg.fRef = s.srg.fRef ∧ (srgOnTrip o n s).srg.insp = s.srg.insp ∧
    (srgOnTrip o n s).srg.phase = s.srg.phase ∧ (srgOnTrip o n s).srg.active = s.srg.active ∧
    (srgOnTrip o n s).srg.period = s.srg.period ∧ (srgOnTrip o n s).srg.dir = s.srg.dir := by
  simp [srgOnTrip, Srg.onTrip]

@[simp] theorem rmuOnTrip_items (n : TripState) (s : State) :
    (rmuOnTrip n s).rmu.channels = s.rmu.channels ∧ (rmuOnTrip n s).rmu.x2 = s.rmu.x2 ∧
    (rmuOnTrip n s).rmu.dx2 = s.rmu.dx2 ∧ (rmuOnTrip n s).rmu.vSup = s.rmu.vSup ∧
    (rmuOnTrip n s).rmu.vAvg = s.rmu.vAvg ∧ (rmuOnTrip n s).rmu.known = s.rmu.known ∧
    (rmuOnTrip n s).rmu.twoChannel = s.rmu.twoChannel ∧ (rmuOnTrip n s).rmu.pA = s.rmu.pA ∧
    (rmuOnTrip n s).rmu.p1 = s.rmu.p1 ∧ (rmuOnTrip n s).rmu.p2 = s.rmu.p2 ∧ (rmuOnTrip n s).rmu.dM2 = s.rmu.dM2 ∧
    (rmuOnTrip n s).rmu.dSL = s.rmu.dSL := by
  simp [rmuOnTrip]

@[simp] theorem changeTrip_items (n : TripState) (st : Option Step) (s : State) :
    (changeTrip n st s).tsq.direction = s.tsq.direction ∧ (changeTrip n st s).tsq.origin = s.tsq.origin ∧
    (changeTrip n st s).tsq.target = s.tsq.target ∧ (changeTrip n st s).tsq.mode = s.tsq.mode ∧
    (changeTrip n st s).tsq.silent = s.tsq.silent ∧ (changeTrip n st s).tsq.halts = s.tsq.halts ∧
    (changeTrip n st s).tsq.consoleTimer = s.tsq.consoleTimer ∧
    (changeTrip n st s).tsq.callLines = s.tsq.callLines ∧ (changeTrip n st s).srg.vTgt = s.srg.vTgt ∧
    (changeTrip n st s).srg.band = s.srg.band ∧ (changeTrip n st s).srg.fRef = s.srg.fRef ∧
    (changeTrip n st s).srg.insp = s.srg.insp ∧ (changeTrip n st s).srg.phase = s.srg.phase ∧
    (changeTrip n st s).srg.active = s.srg.active ∧ (changeTrip n st s).srg.period = s.srg.period ∧
    (changeTrip n st s).srg.dir = s.srg.dir ∧ (changeTrip n st s).obs.fSup = s.obs.fSup ∧
    (changeTrip n st s).obs.inspSup = s.obs.inspSup ∧ (changeTrip n st s).obs.aSup = s.obs.aSup ∧
    (changeTrip n st s).obs.direction = s.obs.direction ∧ (changeTrip n st s).obs.rE2 = s.obs.rE2 ∧
    (changeTrip n st s).obs.pS = s.obs.pS ∧
    (changeTrip n st s).obs.still = s.obs.still ∧ (changeTrip n st s).obs.causes = s.obs.causes ∧
    (changeTrip n st s).obs.trippedFrom = s.obs.trippedFrom ∧ (changeTrip n st s).obs.stopLatch = s.obs.stopLatch ∧
    (changeTrip n st s).obs.brakes = s.obs.brakes ∧ (changeTrip n st s).obs.railBrake = s.obs.railBrake ∧
    (changeTrip n st s).obs.pfail = s.obs.pfail ∧ (changeTrip n st s).obs.carFault = s.obs.carFault ∧
    (changeTrip n st s).rmu.channels = s.rmu.channels ∧ (changeTrip n st s).rmu.x2 = s.rmu.x2 ∧
    (changeTrip n st s).rmu.dx2 = s.rmu.dx2 ∧ (changeTrip n st s).rmu.vSup = s.rmu.vSup ∧
    (changeTrip n st s).rmu.vAvg = s.rmu.vAvg ∧ (changeTrip n st s).rmu.known = s.rmu.known ∧
    (changeTrip n st s).rmu.twoChannel = s.rmu.twoChannel ∧ (changeTrip n st s).rmu.pA = s.rmu.pA ∧
    (changeTrip n st s).rmu.p1 = s.rmu.p1 ∧ (changeTrip n st s).rmu.p2 = s.rmu.p2 ∧
    (changeTrip n st s).rmu.dM2 = s.rmu.dM2 ∧ (changeTrip n st s).rmu.dSL = s.rmu.dSL ∧
    (changeTrip n st s).bcu.loads = s.bcu.loads := by
  unfold changeTrip; split <;> simp

@[simp] theorem joinCause_items (k : CauseKind) (src : CauseSource) (s : State) :
    (joinCause k src s).obs.envelope = s.obs.envelope ∧ (joinCause k src s).obs.fSup = s.obs.fSup ∧
    (joinCause k src s).obs.inspSup = s.obs.inspSup ∧ (joinCause k src s).obs.aSup = s.obs.aSup ∧
    (joinCause k src s).obs.direction = s.obs.direction ∧ (joinCause k src s).obs.endpoint = s.obs.endpoint ∧
    (joinCause k src s).obs.eFrom = s.obs.eFrom ∧ (joinCause k src s).obs.rE2 = s.obs.rE2 ∧
    (joinCause k src s).obs.ctlStop = s.obs.ctlStop ∧ (joinCause k src s).obs.vPerm2 = s.obs.vPerm2 ∧
    (joinCause k src s).obs.excursion = s.obs.excursion ∧ (joinCause k src s).obs.pS = s.obs.pS ∧
    (joinCause k src s).obs.still = s.obs.still ∧
    (joinCause k src s).obs.rollback = s.obs.rollback ∧ (joinCause k src s).obs.trippedFrom = s.obs.trippedFrom ∧
    (joinCause k src s).obs.stopLatch = s.obs.stopLatch ∧ (joinCause k src s).obs.brakes = s.obs.brakes ∧
    (joinCause k src s).obs.railBrake = s.obs.railBrake ∧ (joinCause k src s).obs.pfail = s.obs.pfail ∧
    (joinCause k src s).obs.carFault = s.obs.carFault ∧ (joinCause k src s).obs.liftPending = s.obs.liftPending ∧
    (joinCause k src s).obs.applyPending = s.obs.applyPending := by
  simp [joinCause]

@[simp] theorem dropDrive_items (s : State) :
    (dropDrive s).tsq.state = s.tsq.state ∧ (dropDrive s).tsq.step = s.tsq.step ∧
    (dropDrive s).tsq.resume = s.tsq.resume ∧ (dropDrive s).tsq.phase = s.tsq.phase ∧
    (dropDrive s).tsq.direction = s.tsq.direction ∧ (dropDrive s).tsq.origin = s.tsq.origin ∧
    (dropDrive s).tsq.target = s.tsq.target ∧ (dropDrive s).tsq.mode = s.tsq.mode ∧
    (dropDrive s).tsq.lastChange = s.tsq.lastChange ∧ (dropDrive s).tsq.silent = s.tsq.silent ∧
    (dropDrive s).tsq.move = s.tsq.move ∧ (dropDrive s).tsq.halts = s.tsq.halts ∧
    (dropDrive s).tsq.warningEnded = s.tsq.warningEnded ∧ (dropDrive s).tsq.closureTimer = s.tsq.closureTimer ∧
    (dropDrive s).tsq.consoleTimer = s.tsq.consoleTimer ∧ (dropDrive s).tsq.callLines = s.tsq.callLines ∧
    (dropDrive s).srg.vRef = s.srg.vRef ∧ (dropDrive s).srg.vTgt = s.srg.vTgt ∧
    (dropDrive s).srg.band = s.srg.band ∧ (dropDrive s).srg.fRef = s.srg.fRef ∧
    (dropDrive s).srg.insp = s.srg.insp ∧ (dropDrive s).srg.phase = s.srg.phase ∧
    (dropDrive s).srg.ctlTarget = s.srg.ctlTarget ∧ (dropDrive s).srg.active = s.srg.active ∧
    (dropDrive s).srg.period = s.srg.period ∧ (dropDrive s).srg.dir = s.srg.dir ∧
    (dropDrive s).srg.dirPending = s.srg.dirPending ∧ (dropDrive s).srg.warning = s.srg.warning ∧
    (dropDrive s).srg.warn = s.srg.warn ∧ (dropDrive s).srg.frozen = s.srg.frozen := by
  simp [dropDrive]

@[simp] theorem stopReference_items (s : State) :
    (stopReference s).srg.band = s.srg.band ∧ (stopReference s).srg.fRef = s.srg.fRef ∧
    (stopReference s).srg.insp = s.srg.insp ∧ (stopReference s).srg.phase = s.srg.phase ∧
    (stopReference s).srg.active = s.srg.active ∧ (stopReference s).srg.period = s.srg.period ∧
    (stopReference s).srg.dir = s.srg.dir ∧ (stopReference s).srg.dirPending = s.srg.dirPending ∧
    (stopReference s).srg.warning = s.srg.warning ∧ (stopReference s).srg.warn = s.srg.warn ∧
    (stopReference s).srg.frozen = s.srg.frozen := by
  simp [stopReference]

@[simp] theorem serviceBraking_items (s : State) :
    (serviceBraking s).tsq.state = s.tsq.state ∧ (serviceBraking s).tsq.step = s.tsq.step ∧
    (serviceBraking s).tsq.resume = s.tsq.resume ∧ (serviceBraking s).tsq.phase = s.tsq.phase ∧
    (serviceBraking s).tsq.direction = s.tsq.direction ∧ (serviceBraking s).tsq.origin = s.tsq.origin ∧
    (serviceBraking s).tsq.target = s.tsq.target ∧ (serviceBraking s).tsq.mode = s.tsq.mode ∧
    (serviceBraking s).tsq.lastChange = s.tsq.lastChange ∧ (serviceBraking s).tsq.silent = s.tsq.silent ∧
    (serviceBraking s).tsq.move = s.tsq.move ∧ (serviceBraking s).tsq.halts = s.tsq.halts ∧
    (serviceBraking s).tsq.warningEnded = s.tsq.warningEnded ∧
    (serviceBraking s).tsq.closureTimer = s.tsq.closureTimer ∧
    (serviceBraking s).tsq.consoleTimer = s.tsq.consoleTimer ∧ (serviceBraking s).tsq.callLines = s.tsq.callLines ∧
    (serviceBraking s).srg.band = s.srg.band ∧ (serviceBraking s).srg.fRef = s.srg.fRef ∧
    (serviceBraking s).srg.insp = s.srg.insp ∧ (serviceBraking s).srg.phase = s.srg.phase ∧
    (serviceBraking s).srg.active = s.srg.active ∧ (serviceBraking s).srg.period = s.srg.period ∧
    (serviceBraking s).srg.dir = s.srg.dir ∧ (serviceBraking s).srg.dirPending = s.srg.dirPending ∧
    (serviceBraking s).srg.warning = s.srg.warning ∧ (serviceBraking s).srg.warn = s.srg.warn ∧
    (serviceBraking s).srg.frozen = s.srg.frozen ∧ (serviceBraking s).obs.envelope = s.obs.envelope ∧
    (serviceBraking s).obs.fSup = s.obs.fSup ∧ (serviceBraking s).obs.inspSup = s.obs.inspSup ∧
    (serviceBraking s).obs.aSup = s.obs.aSup ∧ (serviceBraking s).obs.direction = s.obs.direction ∧
    (serviceBraking s).obs.endpoint = s.obs.endpoint ∧ (serviceBraking s).obs.eFrom = s.obs.eFrom ∧
    (serviceBraking s).obs.rE2 = s.obs.rE2 ∧ (serviceBraking s).obs.ctlStop = s.obs.ctlStop ∧
    (serviceBraking s).obs.vPerm2 = s.obs.vPerm2 ∧ (serviceBraking s).obs.excursion = s.obs.excursion ∧
    (serviceBraking s).obs.pS = s.obs.pS ∧
    (serviceBraking s).obs.still = s.obs.still ∧ (serviceBraking s).obs.rollback = s.obs.rollback ∧
    (serviceBraking s).obs.causes = s.obs.causes ∧ (serviceBraking s).obs.trippedFrom = s.obs.trippedFrom ∧
    (serviceBraking s).obs.stopLatch = s.obs.stopLatch ∧ (serviceBraking s).obs.railBrake = s.obs.railBrake ∧
    (serviceBraking s).obs.pfail = s.obs.pfail ∧ (serviceBraking s).obs.carFault = s.obs.carFault ∧
    (serviceBraking s).obs.liftPending = s.obs.liftPending ∧
    (serviceBraking s).obs.applyPending = s.obs.applyPending := by
  simp [serviceBraking]

@[simp] theorem emergencyBraking_items (s : State) :
    (emergencyBraking s).tsq.state = s.tsq.state ∧ (emergencyBraking s).tsq.step = s.tsq.step ∧
    (emergencyBraking s).tsq.resume = s.tsq.resume ∧ (emergencyBraking s).tsq.phase = s.tsq.phase ∧
    (emergencyBraking s).tsq.direction = s.tsq.direction ∧ (emergencyBraking s).tsq.origin = s.tsq.origin ∧
    (emergencyBraking s).tsq.target = s.tsq.target ∧ (emergencyBraking s).tsq.mode = s.tsq.mode ∧
    (emergencyBraking s).tsq.lastChange = s.tsq.lastChange ∧ (emergencyBraking s).tsq.silent = s.tsq.silent ∧
    (emergencyBraking s).tsq.move = s.tsq.move ∧ (emergencyBraking s).tsq.halts = s.tsq.halts ∧
    (emergencyBraking s).tsq.warningEnded = s.tsq.warningEnded ∧
    (emergencyBraking s).tsq.closureTimer = s.tsq.closureTimer ∧
    (emergencyBraking s).tsq.consoleTimer = s.tsq.consoleTimer ∧
    (emergencyBraking s).tsq.callLines = s.tsq.callLines ∧ (emergencyBraking s).srg.band = s.srg.band ∧
    (emergencyBraking s).srg.fRef = s.srg.fRef ∧ (emergencyBraking s).srg.insp = s.srg.insp ∧
    (emergencyBraking s).srg.phase = s.srg.phase ∧ (emergencyBraking s).srg.active = s.srg.active ∧
    (emergencyBraking s).srg.period = s.srg.period ∧ (emergencyBraking s).srg.dir = s.srg.dir ∧
    (emergencyBraking s).srg.dirPending = s.srg.dirPending ∧ (emergencyBraking s).srg.warning = s.srg.warning ∧
    (emergencyBraking s).srg.warn = s.srg.warn ∧ (emergencyBraking s).srg.frozen = s.srg.frozen ∧
    (emergencyBraking s).obs.envelope = s.obs.envelope ∧ (emergencyBraking s).obs.fSup = s.obs.fSup ∧
    (emergencyBraking s).obs.inspSup = s.obs.inspSup ∧ (emergencyBraking s).obs.aSup = s.obs.aSup ∧
    (emergencyBraking s).obs.direction = s.obs.direction ∧ (emergencyBraking s).obs.endpoint = s.obs.endpoint ∧
    (emergencyBraking s).obs.eFrom = s.obs.eFrom ∧ (emergencyBraking s).obs.rE2 = s.obs.rE2 ∧
    (emergencyBraking s).obs.ctlStop = s.obs.ctlStop ∧ (emergencyBraking s).obs.vPerm2 = s.obs.vPerm2 ∧
    (emergencyBraking s).obs.excursion = s.obs.excursion ∧ (emergencyBraking s).obs.pS = s.obs.pS ∧
    (emergencyBraking s).obs.still = s.obs.still ∧
    (emergencyBraking s).obs.rollback = s.obs.rollback ∧ (emergencyBraking s).obs.causes = s.obs.causes ∧
    (emergencyBraking s).obs.trippedFrom = s.obs.trippedFrom ∧
    (emergencyBraking s).obs.stopLatch = s.obs.stopLatch ∧ (emergencyBraking s).obs.pfail = s.obs.pfail ∧
    (emergencyBraking s).obs.carFault = s.obs.carFault ∧ (emergencyBraking s).obs.liftPending = s.obs.liftPending ∧
    (emergencyBraking s).obs.applyPending = s.obs.applyPending := by
  simp [emergencyBraking]

@[simp] theorem controlledStop_items (s : State) :
    (controlledStop s).srg.vRef = s.srg.vRef ∧ (controlledStop s).srg.vTgt = s.srg.vTgt ∧
    (controlledStop s).srg.band = s.srg.band ∧ (controlledStop s).srg.fRef = s.srg.fRef ∧
    (controlledStop s).srg.insp = s.srg.insp ∧ (controlledStop s).srg.phase = s.srg.phase ∧
    (controlledStop s).srg.holding = s.srg.holding ∧ (controlledStop s).srg.active = s.srg.active ∧
    (controlledStop s).srg.period = s.srg.period ∧ (controlledStop s).srg.dir = s.srg.dir ∧
    (controlledStop s).srg.dirPending = s.srg.dirPending ∧ (controlledStop s).srg.warning = s.srg.warning ∧
    (controlledStop s).srg.warn = s.srg.warn ∧ (controlledStop s).srg.frozen = s.srg.frozen ∧
    (controlledStop s).obs.envelope = s.obs.envelope ∧ (controlledStop s).obs.fSup = s.obs.fSup ∧
    (controlledStop s).obs.inspSup = s.obs.inspSup ∧ (controlledStop s).obs.aSup = s.obs.aSup ∧
    (controlledStop s).obs.direction = s.obs.direction ∧ (controlledStop s).obs.eFrom = s.obs.eFrom ∧
    (controlledStop s).obs.vPerm2 = s.obs.vPerm2 ∧ (controlledStop s).obs.excursion = s.obs.excursion ∧
    (controlledStop s).obs.pS = s.obs.pS ∧
    (controlledStop s).obs.still = s.obs.still ∧ (controlledStop s).obs.rollback = s.obs.rollback ∧
    (controlledStop s).obs.causes = s.obs.causes ∧ (controlledStop s).obs.trippedFrom = s.obs.trippedFrom ∧
    (controlledStop s).obs.stopLatch = s.obs.stopLatch ∧ (controlledStop s).obs.brakes = s.obs.brakes ∧
    (controlledStop s).obs.railBrake = s.obs.railBrake ∧ (controlledStop s).obs.pfail = s.obs.pfail ∧
    (controlledStop s).obs.carFault = s.obs.carFault ∧ (controlledStop s).obs.liftPending = s.obs.liftPending ∧
    (controlledStop s).obs.applyPending = s.obs.applyPending ∧ (controlledStop s).cpt.cars = s.cpt.cars := by
  simp [controlledStop]

@[simp] theorem stopAction_items (s : State) :
    (stopAction s).srg.vRef = s.srg.vRef ∧ (stopAction s).srg.band = s.srg.band ∧
    (stopAction s).srg.fRef = s.srg.fRef ∧ (stopAction s).srg.insp = s.srg.insp ∧
    (stopAction s).srg.phase = s.srg.phase ∧ (stopAction s).srg.holding = s.srg.holding ∧
    (stopAction s).srg.active = s.srg.active ∧ (stopAction s).srg.period = s.srg.period ∧
    (stopAction s).srg.dir = s.srg.dir ∧ (stopAction s).srg.dirPending = s.srg.dirPending ∧
    (stopAction s).srg.warning = s.srg.warning ∧ (stopAction s).srg.warn = s.srg.warn ∧
    (stopAction s).srg.frozen = s.srg.frozen ∧ (stopAction s).obs.envelope = s.obs.envelope ∧
    (stopAction s).obs.fSup = s.obs.fSup ∧ (stopAction s).obs.inspSup = s.obs.inspSup ∧
    (stopAction s).obs.aSup = s.obs.aSup ∧ (stopAction s).obs.direction = s.obs.direction ∧
    (stopAction s).obs.eFrom = s.obs.eFrom ∧ (stopAction s).obs.vPerm2 = s.obs.vPerm2 ∧
    (stopAction s).obs.excursion = s.obs.excursion ∧ (stopAction s).obs.pS = s.obs.pS ∧
    (stopAction s).obs.still = s.obs.still ∧
    (stopAction s).obs.rollback = s.obs.rollback ∧ (stopAction s).obs.causes = s.obs.causes ∧
    (stopAction s).obs.trippedFrom = s.obs.trippedFrom ∧ (stopAction s).obs.stopLatch = s.obs.stopLatch ∧
    (stopAction s).obs.brakes = s.obs.brakes ∧ (stopAction s).obs.railBrake = s.obs.railBrake ∧
    (stopAction s).obs.pfail = s.obs.pfail ∧ (stopAction s).obs.carFault = s.obs.carFault ∧
    (stopAction s).obs.liftPending = s.obs.liftPending ∧ (stopAction s).obs.applyPending = s.obs.applyPending ∧
    (stopAction s).cpt.cars = s.cpt.cars := by
  unfold stopAction; split <;> simp

@[simp] theorem brakingAction_items (b : Braking) (s : State) :
    (brakingAction b s).tsq.state = s.tsq.state ∧ (brakingAction b s).tsq.step = s.tsq.step ∧
    (brakingAction b s).tsq.resume = s.tsq.resume ∧ (brakingAction b s).tsq.phase = s.tsq.phase ∧
    (brakingAction b s).tsq.direction = s.tsq.direction ∧ (brakingAction b s).tsq.origin = s.tsq.origin ∧
    (brakingAction b s).tsq.target = s.tsq.target ∧ (brakingAction b s).tsq.mode = s.tsq.mode ∧
    (brakingAction b s).tsq.lastChange = s.tsq.lastChange ∧ (brakingAction b s).tsq.silent = s.tsq.silent ∧
    (brakingAction b s).tsq.move = s.tsq.move ∧ (brakingAction b s).tsq.halts = s.tsq.halts ∧
    (brakingAction b s).tsq.warningEnded = s.tsq.warningEnded ∧
    (brakingAction b s).tsq.closureTimer = s.tsq.closureTimer ∧
    (brakingAction b s).tsq.consoleTimer = s.tsq.consoleTimer ∧
    (brakingAction b s).tsq.callLines = s.tsq.callLines ∧ (brakingAction b s).srg.band = s.srg.band ∧
    (brakingAction b s).srg.fRef = s.srg.fRef ∧ (brakingAction b s).srg.insp = s.srg.insp ∧
    (brakingAction b s).srg.phase = s.srg.phase ∧ (brakingAction b s).srg.active = s.srg.active ∧
    (brakingAction b s).srg.period = s.srg.period ∧ (brakingAction b s).srg.dir = s.srg.dir ∧
    (brakingAction b s).srg.dirPending = s.srg.dirPending ∧ (brakingAction b s).srg.warning = s.srg.warning ∧
    (brakingAction b s).srg.warn = s.srg.warn ∧ (brakingAction b s).srg.frozen = s.srg.frozen ∧
    (brakingAction b s).obs.envelope = s.obs.envelope ∧ (brakingAction b s).obs.fSup = s.obs.fSup ∧
    (brakingAction b s).obs.inspSup = s.obs.inspSup ∧ (brakingAction b s).obs.aSup = s.obs.aSup ∧
    (brakingAction b s).obs.direction = s.obs.direction ∧ (brakingAction b s).obs.endpoint = s.obs.endpoint ∧
    (brakingAction b s).obs.eFrom = s.obs.eFrom ∧ (brakingAction b s).obs.rE2 = s.obs.rE2 ∧
    (brakingAction b s).obs.ctlStop = s.obs.ctlStop ∧ (brakingAction b s).obs.vPerm2 = s.obs.vPerm2 ∧
    (brakingAction b s).obs.excursion = s.obs.excursion ∧ (brakingAction b s).obs.pS = s.obs.pS ∧
    (brakingAction b s).obs.still = s.obs.still ∧
    (brakingAction b s).obs.rollback = s.obs.rollback ∧ (brakingAction b s).obs.causes = s.obs.causes ∧
    (brakingAction b s).obs.trippedFrom = s.obs.trippedFrom ∧ (brakingAction b s).obs.stopLatch = s.obs.stopLatch ∧
    (brakingAction b s).obs.pfail = s.obs.pfail ∧ (brakingAction b s).obs.carFault = s.obs.carFault ∧
    (brakingAction b s).obs.liftPending = s.obs.liftPending ∧
    (brakingAction b s).obs.applyPending = s.obs.applyPending := by
  unfold brakingAction; split <;> (try split) <;> simp

@[simp] theorem trip_items (s : State) :
    (trip s).tsq.direction = s.tsq.direction ∧ (trip s).tsq.origin = s.tsq.origin ∧
    (trip s).tsq.target = s.tsq.target ∧ (trip s).tsq.mode = s.tsq.mode ∧ (trip s).tsq.silent = s.tsq.silent ∧
    (trip s).tsq.halts = s.tsq.halts ∧ (trip s).tsq.consoleTimer = s.tsq.consoleTimer ∧
    (trip s).tsq.callLines = s.tsq.callLines ∧ (trip s).srg.vTgt = s.srg.vTgt ∧ (trip s).srg.band = s.srg.band ∧
    (trip s).srg.fRef = s.srg.fRef ∧ (trip s).srg.insp = s.srg.insp ∧ (trip s).srg.phase = s.srg.phase ∧
    (trip s).srg.active = s.srg.active ∧ (trip s).srg.period = s.srg.period ∧ (trip s).srg.dir = s.srg.dir ∧
    (trip s).obs.fSup = s.obs.fSup ∧ (trip s).obs.inspSup = s.obs.inspSup ∧ (trip s).obs.aSup = s.obs.aSup ∧
    (trip s).obs.direction = s.obs.direction ∧ (trip s).obs.rE2 = s.obs.rE2 ∧ (trip s).obs.pS = s.obs.pS ∧
    (trip s).obs.still = s.obs.still ∧
    (trip s).obs.causes = s.obs.causes ∧ (trip s).obs.stopLatch = s.obs.stopLatch ∧
    (trip s).obs.brakes = s.obs.brakes ∧ (trip s).obs.railBrake = s.obs.railBrake ∧
    (trip s).obs.pfail = s.obs.pfail ∧ (trip s).obs.carFault = s.obs.carFault ∧
    (trip s).rmu.channels = s.rmu.channels ∧ (trip s).rmu.x2 = s.rmu.x2 ∧ (trip s).rmu.dx2 = s.rmu.dx2 ∧
    (trip s).rmu.vSup = s.rmu.vSup ∧ (trip s).rmu.vAvg = s.rmu.vAvg ∧ (trip s).rmu.known = s.rmu.known ∧
    (trip s).rmu.twoChannel = s.rmu.twoChannel ∧ (trip s).rmu.pA = s.rmu.pA ∧ (trip s).rmu.p1 = s.rmu.p1 ∧
    (trip s).rmu.p2 = s.rmu.p2 ∧ (trip s).rmu.dM2 = s.rmu.dM2 ∧ (trip s).rmu.dSL = s.rmu.dSL ∧
    (trip s).bcu.loads = s.bcu.loads := by
  simp [trip]

@[simp] theorem giveCause_items (k : CauseKind) (src : CauseSource) (s : State) :
    (giveCause k src s).tsq.direction = s.tsq.direction ∧ (giveCause k src s).tsq.origin = s.tsq.origin ∧
    (giveCause k src s).tsq.target = s.tsq.target ∧ (giveCause k src s).tsq.mode = s.tsq.mode ∧
    (giveCause k src s).tsq.silent = s.tsq.silent ∧ (giveCause k src s).tsq.halts = s.tsq.halts ∧
    (giveCause k src s).tsq.consoleTimer = s.tsq.consoleTimer ∧
    (giveCause k src s).tsq.callLines = s.tsq.callLines ∧ (giveCause k src s).srg.band = s.srg.band ∧
    (giveCause k src s).srg.fRef = s.srg.fRef ∧ (giveCause k src s).srg.insp = s.srg.insp ∧
    (giveCause k src s).srg.phase = s.srg.phase ∧ (giveCause k src s).srg.active = s.srg.active ∧
    (giveCause k src s).srg.period = s.srg.period ∧ (giveCause k src s).srg.dir = s.srg.dir ∧
    (giveCause k src s).obs.fSup = s.obs.fSup ∧ (giveCause k src s).obs.inspSup = s.obs.inspSup ∧
    (giveCause k src s).obs.aSup = s.obs.aSup ∧ (giveCause k src s).obs.direction = s.obs.direction ∧
    (giveCause k src s).obs.pS = s.obs.pS ∧
    (giveCause k src s).obs.still = s.obs.still ∧ (giveCause k src s).obs.stopLatch = s.obs.stopLatch ∧
    (giveCause k src s).obs.pfail = s.obs.pfail ∧ (giveCause k src s).obs.carFault = s.obs.carFault ∧
    (giveCause k src s).rmu.channels = s.rmu.channels ∧ (giveCause k src s).rmu.x2 = s.rmu.x2 ∧
    (giveCause k src s).rmu.dx2 = s.rmu.dx2 ∧ (giveCause k src s).rmu.vSup = s.rmu.vSup ∧
    (giveCause k src s).rmu.vAvg = s.rmu.vAvg ∧ (giveCause k src s).rmu.known = s.rmu.known ∧
    (giveCause k src s).rmu.twoChannel = s.rmu.twoChannel ∧ (giveCause k src s).rmu.pA = s.rmu.pA ∧
    (giveCause k src s).rmu.p1 = s.rmu.p1 ∧ (giveCause k src s).rmu.p2 = s.rmu.p2 ∧
    (giveCause k src s).rmu.dM2 = s.rmu.dM2 ∧ (giveCause k src s).rmu.dSL = s.rmu.dSL ∧
    (giveCause k src s).cpt.cars = s.cpt.cars ∧ (giveCause k src s).bcu.loads = s.bcu.loads := by
  simp only [giveCause]; split <;> (try split) <;> (try split) <;> simp

@[simp] theorem brakeFault_items (b : Brake) (s : State) :
    (brakeFault b s).tsq.direction = s.tsq.direction ∧ (brakeFault b s).tsq.origin = s.tsq.origin ∧
    (brakeFault b s).tsq.target = s.tsq.target ∧ (brakeFault b s).tsq.mode = s.tsq.mode ∧
    (brakeFault b s).tsq.silent = s.tsq.silent ∧ (brakeFault b s).tsq.halts = s.tsq.halts ∧
    (brakeFault b s).tsq.consoleTimer = s.tsq.consoleTimer ∧ (brakeFault b s).tsq.callLines = s.tsq.callLines ∧
    (brakeFault b s).srg.band = s.srg.band ∧ (brakeFault b s).srg.fRef = s.srg.fRef ∧
    (brakeFault b s).srg.insp = s.srg.insp ∧ (brakeFault b s).srg.phase = s.srg.phase ∧
    (brakeFault b s).srg.active = s.srg.active ∧ (brakeFault b s).srg.period = s.srg.period ∧
    (brakeFault b s).srg.dir = s.srg.dir ∧ (brakeFault b s).obs.fSup = s.obs.fSup ∧
    (brakeFault b s).obs.inspSup = s.obs.inspSup ∧ (brakeFault b s).obs.aSup = s.obs.aSup ∧
    (brakeFault b s).obs.direction = s.obs.direction ∧ (brakeFault b s).obs.pS = s.obs.pS ∧
    (brakeFault b s).obs.still = s.obs.still ∧
    (brakeFault b s).obs.stopLatch = s.obs.stopLatch ∧ (brakeFault b s).obs.pfail = s.obs.pfail ∧
    (brakeFault b s).obs.carFault = s.obs.carFault ∧ (brakeFault b s).rmu.channels = s.rmu.channels ∧
    (brakeFault b s).rmu.x2 = s.rmu.x2 ∧ (brakeFault b s).rmu.dx2 = s.rmu.dx2 ∧
    (brakeFault b s).rmu.vSup = s.rmu.vSup ∧ (brakeFault b s).rmu.vAvg = s.rmu.vAvg ∧
    (brakeFault b s).rmu.known = s.rmu.known ∧ (brakeFault b s).rmu.twoChannel = s.rmu.twoChannel ∧
    (brakeFault b s).rmu.pA = s.rmu.pA ∧ (brakeFault b s).rmu.p1 = s.rmu.p1 ∧ (brakeFault b s).rmu.p2 = s.rmu.p2 ∧
    (brakeFault b s).rmu.dM2 = s.rmu.dM2 ∧ (brakeFault b s).rmu.dSL = s.rmu.dSL ∧
    (brakeFault b s).cpt.cars = s.cpt.cars ∧ (brakeFault b s).bcu.loads = s.bcu.loads := by
  cases b <;> simp [brakeFault]

@[simp] theorem nameStop_items (k : Nat) (s : State) :
    (nameStop k s).cpt.cars = s.cpt.cars := by
  simp [nameStop]

@[simp] theorem recomputeTarget_items (s : State) :
    (recomputeTarget s).cpt.cars = s.cpt.cars := by
  simp [recomputeTarget]

@[simp] theorem serveHalt_items (k : Nat) (s : State) :
    (serveHalt k s).tsq.state = s.tsq.state ∧ (serveHalt k s).tsq.step = s.tsq.step ∧
    (serveHalt k s).tsq.resume = s.tsq.resume ∧ (serveHalt k s).tsq.phase = s.tsq.phase ∧
    (serveHalt k s).tsq.direction = s.tsq.direction ∧ (serveHalt k s).tsq.origin = s.tsq.origin ∧
    (serveHalt k s).tsq.target = s.tsq.target ∧ (serveHalt k s).tsq.mode = s.tsq.mode ∧
    (serveHalt k s).tsq.lastChange = s.tsq.lastChange ∧ (serveHalt k s).tsq.silent = s.tsq.silent ∧
    (serveHalt k s).tsq.move = s.tsq.move ∧ (serveHalt k s).tsq.driveRequest = s.tsq.driveRequest ∧
    (serveHalt k s).tsq.warningEnded = s.tsq.warningEnded ∧ (serveHalt k s).tsq.closureTimer = s.tsq.closureTimer ∧
    (serveHalt k s).tsq.consoleTimer = s.tsq.consoleTimer ∧ (serveHalt k s).tsq.callLines = s.tsq.callLines := by
  unfold serveHalt; split <;> simp

@[simp] theorem moveTarget_items (k : Nat) (s : State) :
    (moveTarget k s).tsq.state = s.tsq.state ∧ (moveTarget k s).tsq.step = s.tsq.step ∧
    (moveTarget k s).tsq.resume = s.tsq.resume ∧ (moveTarget k s).tsq.phase = s.tsq.phase ∧
    (moveTarget k s).tsq.direction = s.tsq.direction ∧ (moveTarget k s).tsq.origin = s.tsq.origin ∧
    (moveTarget k s).tsq.mode = s.tsq.mode ∧ (moveTarget k s).tsq.lastChange = s.tsq.lastChange ∧
    (moveTarget k s).tsq.silent = s.tsq.silent ∧ (moveTarget k s).tsq.move = s.tsq.move ∧
    (moveTarget k s).tsq.halts = s.tsq.halts ∧ (moveTarget k s).tsq.driveRequest = s.tsq.driveRequest ∧
    (moveTarget k s).tsq.warningEnded = s.tsq.warningEnded ∧
    (moveTarget k s).tsq.closureTimer = s.tsq.closureTimer ∧
    (moveTarget k s).tsq.consoleTimer = s.tsq.consoleTimer ∧ (moveTarget k s).tsq.callLines = s.tsq.callLines ∧
    (moveTarget k s).cpt.cars = s.cpt.cars := by
  simp [moveTarget]

@[simp] theorem testFeasibility_items (k : Nat) (s : State) :
    (testFeasibility k s).tsq.state = s.tsq.state ∧ (testFeasibility k s).tsq.step = s.tsq.step ∧
    (testFeasibility k s).tsq.resume = s.tsq.resume ∧ (testFeasibility k s).tsq.phase = s.tsq.phase ∧
    (testFeasibility k s).tsq.direction = s.tsq.direction ∧ (testFeasibility k s).tsq.origin = s.tsq.origin ∧
    (testFeasibility k s).tsq.mode = s.tsq.mode ∧ (testFeasibility k s).tsq.lastChange = s.tsq.lastChange ∧
    (testFeasibility k s).tsq.silent = s.tsq.silent ∧ (testFeasibility k s).tsq.move = s.tsq.move ∧
    (testFeasibility k s).tsq.halts = s.tsq.halts ∧ (testFeasibility k s).tsq.driveRequest = s.tsq.driveRequest ∧
    (testFeasibility k s).tsq.warningEnded = s.tsq.warningEnded ∧
    (testFeasibility k s).tsq.closureTimer = s.tsq.closureTimer ∧
    (testFeasibility k s).tsq.consoleTimer = s.tsq.consoleTimer ∧
    (testFeasibility k s).tsq.callLines = s.tsq.callLines ∧ (testFeasibility k s).cpt.cars = s.cpt.cars := by
  unfold testFeasibility; split <;> simp

@[simp] theorem listHalt_items (k : Nat) (src : HaltSource) (s : State) :
    (listHalt k src s).tsq.state = s.tsq.state ∧ (listHalt k src s).tsq.step = s.tsq.step ∧
    (listHalt k src s).tsq.resume = s.tsq.resume ∧ (listHalt k src s).tsq.phase = s.tsq.phase ∧
    (listHalt k src s).tsq.direction = s.tsq.direction ∧ (listHalt k src s).tsq.origin = s.tsq.origin ∧
    (listHalt k src s).tsq.target = s.tsq.target ∧ (listHalt k src s).tsq.mode = s.tsq.mode ∧
    (listHalt k src s).tsq.lastChange = s.tsq.lastChange ∧ (listHalt k src s).tsq.silent = s.tsq.silent ∧
    (listHalt k src s).tsq.move = s.tsq.move ∧ (listHalt k src s).tsq.driveRequest = s.tsq.driveRequest ∧
    (listHalt k src s).tsq.warningEnded = s.tsq.warningEnded ∧
    (listHalt k src s).tsq.closureTimer = s.tsq.closureTimer ∧
    (listHalt k src s).tsq.consoleTimer = s.tsq.consoleTimer ∧
    (listHalt k src s).tsq.callLines = s.tsq.callLines := by
  unfold listHalt; split <;> simp

@[simp] theorem haltRequest_items (k : Nat) (src : HaltSource) (s : State) :
    (haltRequest k src s).2.tsq.state = s.tsq.state ∧ (haltRequest k src s).2.tsq.step = s.tsq.step ∧
    (haltRequest k src s).2.tsq.resume = s.tsq.resume ∧ (haltRequest k src s).2.tsq.phase = s.tsq.phase ∧
    (haltRequest k src s).2.tsq.direction = s.tsq.direction ∧ (haltRequest k src s).2.tsq.origin = s.tsq.origin ∧
    (haltRequest k src s).2.tsq.mode = s.tsq.mode ∧ (haltRequest k src s).2.tsq.lastChange = s.tsq.lastChange ∧
    (haltRequest k src s).2.tsq.silent = s.tsq.silent ∧ (haltRequest k src s).2.tsq.move = s.tsq.move ∧
    (haltRequest k src s).2.tsq.driveRequest = s.tsq.driveRequest ∧
    (haltRequest k src s).2.tsq.warningEnded = s.tsq.warningEnded ∧
    (haltRequest k src s).2.tsq.closureTimer = s.tsq.closureTimer ∧
    (haltRequest k src s).2.tsq.consoleTimer = s.tsq.consoleTimer ∧
    (haltRequest k src s).2.tsq.callLines = s.tsq.callLines ∧ (haltRequest k src s).2.cpt.cars = s.cpt.cars := by
  simp only [haltRequest]; split <;> (try split) <;> (try split) <;> (try split) <;> simp

@[simp] theorem openAtTerminal_items (k : Nat) (s : State) :
    (openAtTerminal k s).bcu.loads = s.bcu.loads := by
  unfold openAtTerminal; split <;> simp

@[simp] theorem stopAt_items (k : Nat) (s : State) :
    (stopAt k s).tsq.direction = s.tsq.direction ∧ (stopAt k s).tsq.origin = s.tsq.origin ∧
    (stopAt k s).tsq.mode = s.tsq.mode ∧ (stopAt k s).tsq.silent = s.tsq.silent ∧
    (stopAt k s).tsq.consoleTimer = s.tsq.consoleTimer ∧ (stopAt k s).tsq.callLines = s.tsq.callLines ∧
    (stopAt k s).srg.vTgt = s.srg.vTgt ∧ (stopAt k s).srg.band = s.srg.band ∧ (stopAt k s).srg.fRef = s.srg.fRef ∧
    (stopAt k s).srg.insp = s.srg.insp ∧ (stopAt k s).srg.phase = s.srg.phase ∧
    (stopAt k s).srg.active = s.srg.active ∧ (stopAt k s).srg.period = s.srg.period ∧
    (stopAt k s).srg.dir = s.srg.dir ∧ (stopAt k s).obs.fSup = s.obs.fSup ∧
    (stopAt k s).obs.inspSup = s.obs.inspSup ∧ (stopAt k s).obs.aSup = s.obs.aSup ∧
    (stopAt k s).obs.direction = s.obs.direction ∧ (stopAt k s).obs.rE2 = s.obs.rE2 ∧
    (stopAt k s).obs.pS = s.obs.pS ∧
    (stopAt k s).obs.still = s.obs.still ∧ (stopAt k s).obs.causes = s.obs.causes ∧
    (stopAt k s).obs.trippedFrom = s.obs.trippedFrom ∧ (stopAt k s).obs.stopLatch = s.obs.stopLatch ∧
    (stopAt k s).obs.brakes = s.obs.brakes ∧ (stopAt k s).obs.railBrake = s.obs.railBrake ∧
    (stopAt k s).obs.pfail = s.obs.pfail ∧ (stopAt k s).obs.carFault = s.obs.carFault ∧
    (stopAt k s).rmu.channels = s.rmu.channels ∧ (stopAt k s).rmu.x2 = s.rmu.x2 ∧
    (stopAt k s).rmu.dx2 = s.rmu.dx2 ∧ (stopAt k s).rmu.vSup = s.rmu.vSup ∧ (stopAt k s).rmu.vAvg = s.rmu.vAvg ∧
    (stopAt k s).rmu.known = s.rmu.known ∧ (stopAt k s).rmu.twoChannel = s.rmu.twoChannel ∧
    (stopAt k s).rmu.pA = s.rmu.pA ∧ (stopAt k s).rmu.p1 = s.rmu.p1 ∧ (stopAt k s).rmu.p2 = s.rmu.p2 ∧
    (stopAt k s).rmu.dM2 = s.rmu.dM2 ∧ (stopAt k s).rmu.dSL = s.rmu.dSL ∧ (stopAt k s).bcu.loads = s.bcu.loads := by
  simp [stopAt]

@[simp] theorem abandonToOrigin_items (s : State) :
    (abandonToOrigin s).tsq.direction = s.tsq.direction ∧ (abandonToOrigin s).tsq.origin = s.tsq.origin ∧
    (abandonToOrigin s).tsq.mode = s.tsq.mode ∧ (abandonToOrigin s).tsq.silent = s.tsq.silent ∧
    (abandonToOrigin s).tsq.consoleTimer = s.tsq.consoleTimer ∧
    (abandonToOrigin s).tsq.callLines = s.tsq.callLines ∧ (abandonToOrigin s).srg.vTgt = s.srg.vTgt ∧
    (abandonToOrigin s).srg.band = s.srg.band ∧ (abandonToOrigin s).srg.fRef = s.srg.fRef ∧
    (abandonToOrigin s).srg.insp = s.srg.insp ∧ (abandonToOrigin s).srg.phase = s.srg.phase ∧
    (abandonToOrigin s).srg.active = s.srg.active ∧ (abandonToOrigin s).srg.period = s.srg.period ∧
    (abandonToOrigin s).srg.dir = s.srg.dir ∧ (abandonToOrigin s).obs.fSup = s.obs.fSup ∧
    (abandonToOrigin s).obs.inspSup = s.obs.inspSup ∧ (abandonToOrigin s).obs.aSup = s.obs.aSup ∧
    (abandonToOrigin s).obs.direction = s.obs.direction ∧ (abandonToOrigin s).obs.rE2 = s.obs.rE2 ∧
    (abandonToOrigin s).obs.pS = s.obs.pS ∧
    (abandonToOrigin s).obs.still = s.obs.still ∧ (abandonToOrigin s).obs.causes = s.obs.causes ∧
    (abandonToOrigin s).obs.trippedFrom = s.obs.trippedFrom ∧ (abandonToOrigin s).obs.stopLatch = s.obs.stopLatch ∧
    (abandonToOrigin s).obs.brakes = s.obs.brakes ∧ (abandonToOrigin s).obs.railBrake = s.obs.railBrake ∧
    (abandonToOrigin s).obs.pfail = s.obs.pfail ∧ (abandonToOrigin s).obs.carFault = s.obs.carFault ∧
    (abandonToOrigin s).rmu.channels = s.rmu.channels ∧ (abandonToOrigin s).rmu.x2 = s.rmu.x2 ∧
    (abandonToOrigin s).rmu.dx2 = s.rmu.dx2 ∧ (abandonToOrigin s).rmu.vSup = s.rmu.vSup ∧
    (abandonToOrigin s).rmu.vAvg = s.rmu.vAvg ∧ (abandonToOrigin s).rmu.known = s.rmu.known ∧
    (abandonToOrigin s).rmu.twoChannel = s.rmu.twoChannel ∧ (abandonToOrigin s).rmu.pA = s.rmu.pA ∧
    (abandonToOrigin s).rmu.p1 = s.rmu.p1 ∧ (abandonToOrigin s).rmu.p2 = s.rmu.p2 ∧
    (abandonToOrigin s).rmu.dM2 = s.rmu.dM2 ∧ (abandonToOrigin s).rmu.dSL = s.rmu.dSL ∧
    (abandonToOrigin s).bcu.loads = s.bcu.loads := by
  simp [abandonToOrigin]

@[simp] theorem arrivalTest_items (s : State) :
    (arrivalTest s).cpt.target = s.cpt.target := by
  simp only [arrivalTest]; split <;> (try split) <;> simp_all

@[simp] theorem brakesLifted_items (s : State) :
    (brakesLifted s).tsq.direction = s.tsq.direction ∧ (brakesLifted s).tsq.origin = s.tsq.origin ∧
    (brakesLifted s).tsq.target = s.tsq.target ∧ (brakesLifted s).tsq.mode = s.tsq.mode ∧
    (brakesLifted s).tsq.silent = s.tsq.silent ∧ (brakesLifted s).tsq.halts = s.tsq.halts ∧
    (brakesLifted s).tsq.consoleTimer = s.tsq.consoleTimer ∧ (brakesLifted s).tsq.callLines = s.tsq.callLines ∧
    (brakesLifted s).srg.vTgt = s.srg.vTgt ∧ (brakesLifted s).srg.band = s.srg.band ∧
    (brakesLifted s).srg.fRef = s.srg.fRef ∧ (brakesLifted s).srg.insp = s.srg.insp ∧
    (brakesLifted s).srg.phase = s.srg.phase ∧ (brakesLifted s).srg.active = s.srg.active ∧
    (brakesLifted s).srg.period = s.srg.period ∧ (brakesLifted s).srg.dir = s.srg.dir ∧
    (brakesLifted s).obs.fSup = s.obs.fSup ∧ (brakesLifted s).obs.inspSup = s.obs.inspSup ∧
    (brakesLifted s).obs.aSup = s.obs.aSup ∧ (brakesLifted s).obs.direction = s.obs.direction ∧
    (brakesLifted s).obs.rE2 = s.obs.rE2 ∧ (brakesLifted s).obs.pS = s.obs.pS ∧
    (brakesLifted s).obs.still = s.obs.still ∧
    (brakesLifted s).obs.causes = s.obs.causes ∧ (brakesLifted s).obs.trippedFrom = s.obs.trippedFrom ∧
    (brakesLifted s).obs.stopLatch = s.obs.stopLatch ∧ (brakesLifted s).obs.brakes = s.obs.brakes ∧
    (brakesLifted s).obs.railBrake = s.obs.railBrake ∧ (brakesLifted s).obs.pfail = s.obs.pfail ∧
    (brakesLifted s).obs.carFault = s.obs.carFault ∧ (brakesLifted s).rmu.channels = s.rmu.channels ∧
    (brakesLifted s).rmu.x2 = s.rmu.x2 ∧ (brakesLifted s).rmu.dx2 = s.rmu.dx2 ∧
    (brakesLifted s).rmu.vSup = s.rmu.vSup ∧ (brakesLifted s).rmu.vAvg = s.rmu.vAvg ∧
    (brakesLifted s).rmu.known = s.rmu.known ∧ (brakesLifted s).rmu.twoChannel = s.rmu.twoChannel ∧
    (brakesLifted s).rmu.pA = s.rmu.pA ∧ (brakesLifted s).rmu.p1 = s.rmu.p1 ∧ (brakesLifted s).rmu.p2 = s.rmu.p2 ∧
    (brakesLifted s).rmu.dM2 = s.rmu.dM2 ∧ (brakesLifted s).rmu.dSL = s.rmu.dSL ∧
    (brakesLifted s).bcu.loads = s.bcu.loads := by
  unfold brakesLifted; split <;> (try split) <;> simp

@[simp] theorem reportLifted_items (s : State) :
    (reportLifted s).tsq.direction = s.tsq.direction ∧ (reportLifted s).tsq.origin = s.tsq.origin ∧
    (reportLifted s).tsq.target = s.tsq.target ∧ (reportLifted s).tsq.mode = s.tsq.mode ∧
    (reportLifted s).tsq.silent = s.tsq.silent ∧ (reportLifted s).tsq.halts = s.tsq.halts ∧
    (reportLifted s).tsq.consoleTimer = s.tsq.consoleTimer ∧ (reportLifted s).tsq.callLines = s.tsq.callLines ∧
    (reportLifted s).srg.vTgt = s.srg.vTgt ∧ (reportLifted s).srg.band = s.srg.band ∧
    (reportLifted s).srg.fRef = s.srg.fRef ∧ (reportLifted s).srg.insp = s.srg.insp ∧
    (reportLifted s).srg.phase = s.srg.phase ∧ (reportLifted s).srg.active = s.srg.active ∧
    (reportLifted s).srg.period = s.srg.period ∧ (reportLifted s).srg.dir = s.srg.dir ∧
    (reportLifted s).obs.fSup = s.obs.fSup ∧ (reportLifted s).obs.inspSup = s.obs.inspSup ∧
    (reportLifted s).obs.aSup = s.obs.aSup ∧ (reportLifted s).obs.direction = s.obs.direction ∧
    (reportLifted s).obs.rE2 = s.obs.rE2 ∧ (reportLifted s).obs.pS = s.obs.pS ∧
    (reportLifted s).obs.still = s.obs.still ∧
    (reportLifted s).obs.causes = s.obs.causes ∧ (reportLifted s).obs.trippedFrom = s.obs.trippedFrom ∧
    (reportLifted s).obs.stopLatch = s.obs.stopLatch ∧ (reportLifted s).obs.brakes = s.obs.brakes ∧
    (reportLifted s).obs.railBrake = s.obs.railBrake ∧ (reportLifted s).obs.pfail = s.obs.pfail ∧
    (reportLifted s).obs.carFault = s.obs.carFault ∧ (reportLifted s).rmu.channels = s.rmu.channels ∧
    (reportLifted s).rmu.x2 = s.rmu.x2 ∧ (reportLifted s).rmu.dx2 = s.rmu.dx2 ∧
    (reportLifted s).rmu.vSup = s.rmu.vSup ∧ (reportLifted s).rmu.vAvg = s.rmu.vAvg ∧
    (reportLifted s).rmu.known = s.rmu.known ∧ (reportLifted s).rmu.twoChannel = s.rmu.twoChannel ∧
    (reportLifted s).rmu.pA = s.rmu.pA ∧ (reportLifted s).rmu.p1 = s.rmu.p1 ∧ (reportLifted s).rmu.p2 = s.rmu.p2 ∧
    (reportLifted s).rmu.dM2 = s.rmu.dM2 ∧ (reportLifted s).rmu.dSL = s.rmu.dSL ∧
    (reportLifted s).bcu.loads = s.bcu.loads := by
  unfold reportLifted; split <;> simp

@[simp] theorem liftRequest_items (s : State) :
    (liftRequest s).tsq.direction = s.tsq.direction ∧ (liftRequest s).tsq.origin = s.tsq.origin ∧
    (liftRequest s).tsq.target = s.tsq.target ∧ (liftRequest s).tsq.mode = s.tsq.mode ∧
    (liftRequest s).tsq.silent = s.tsq.silent ∧ (liftRequest s).tsq.halts = s.tsq.halts ∧
    (liftRequest s).tsq.consoleTimer = s.tsq.consoleTimer ∧ (liftRequest s).tsq.callLines = s.tsq.callLines ∧
    (liftRequest s).srg.vTgt = s.srg.vTgt ∧ (liftRequest s).srg.band = s.srg.band ∧
    (liftRequest s).srg.fRef = s.srg.fRef ∧ (liftRequest s).srg.insp = s.srg.insp ∧
    (liftRequest s).srg.phase = s.srg.phase ∧ (liftRequest s).srg.active = s.srg.active ∧
    (liftRequest s).srg.period = s.srg.period ∧ (liftRequest s).srg.dir = s.srg.dir ∧
    (liftRequest s).obs.fSup = s.obs.fSup ∧ (liftRequest s).obs.inspSup = s.obs.inspSup ∧
    (liftRequest s).obs.aSup = s.obs.aSup ∧ (liftRequest s).obs.direction = s.obs.direction ∧
    (liftRequest s).obs.rE2 = s.obs.rE2 ∧ (liftRequest s).obs.pS = s.obs.pS ∧
    (liftRequest s).obs.still = s.obs.still ∧
    (liftRequest s).obs.causes = s.obs.causes ∧ (liftRequest s).obs.trippedFrom = s.obs.trippedFrom ∧
    (liftRequest s).obs.stopLatch = s.obs.stopLatch ∧ (liftRequest s).obs.railBrake = s.obs.railBrake ∧
    (liftRequest s).obs.pfail = s.obs.pfail ∧ (liftRequest s).obs.carFault = s.obs.carFault ∧
    (liftRequest s).rmu.channels = s.rmu.channels ∧ (liftRequest s).rmu.x2 = s.rmu.x2 ∧
    (liftRequest s).rmu.dx2 = s.rmu.dx2 ∧ (liftRequest s).rmu.vSup = s.rmu.vSup ∧
    (liftRequest s).rmu.vAvg = s.rmu.vAvg ∧ (liftRequest s).rmu.known = s.rmu.known ∧
    (liftRequest s).rmu.twoChannel = s.rmu.twoChannel ∧ (liftRequest s).rmu.pA = s.rmu.pA ∧
    (liftRequest s).rmu.p1 = s.rmu.p1 ∧ (liftRequest s).rmu.p2 = s.rmu.p2 ∧ (liftRequest s).rmu.dM2 = s.rmu.dM2 ∧
    (liftRequest s).rmu.dSL = s.rmu.dSL ∧ (liftRequest s).bcu.loads = s.bcu.loads := by
  unfold liftRequest; split <;> simp

@[simp] theorem arrivalEnd_items (s : State) :
    (arrivalEnd s).tsq.direction = s.tsq.direction ∧ (arrivalEnd s).tsq.origin = s.tsq.origin ∧
    (arrivalEnd s).tsq.mode = s.tsq.mode ∧ (arrivalEnd s).tsq.silent = s.tsq.silent ∧
    (arrivalEnd s).tsq.consoleTimer = s.tsq.consoleTimer ∧ (arrivalEnd s).tsq.callLines = s.tsq.callLines ∧
    (arrivalEnd s).srg.vTgt = s.srg.vTgt ∧ (arrivalEnd s).srg.band = s.srg.band ∧
    (arrivalEnd s).srg.fRef = s.srg.fRef ∧ (arrivalEnd s).srg.insp = s.srg.insp ∧
    (arrivalEnd s).srg.phase = s.srg.phase ∧ (arrivalEnd s).srg.active = s.srg.active ∧
    (arrivalEnd s).srg.period = s.srg.period ∧ (arrivalEnd s).srg.dir = s.srg.dir ∧
    (arrivalEnd s).obs.fSup = s.obs.fSup ∧ (arrivalEnd s).obs.inspSup = s.obs.inspSup ∧
    (arrivalEnd s).obs.aSup = s.obs.aSup ∧ (arrivalEnd s).obs.direction = s.obs.direction ∧
    (arrivalEnd s).obs.rE2 = s.obs.rE2 ∧ (arrivalEnd s).obs.pS = s.obs.pS ∧
    (arrivalEnd s).obs.still = s.obs.still ∧
    (arrivalEnd s).obs.causes = s.obs.causes ∧ (arrivalEnd s).obs.trippedFrom = s.obs.trippedFrom ∧
    (arrivalEnd s).obs.stopLatch = s.obs.stopLatch ∧ (arrivalEnd s).obs.brakes = s.obs.brakes ∧
    (arrivalEnd s).obs.railBrake = s.obs.railBrake ∧ (arrivalEnd s).obs.pfail = s.obs.pfail ∧
    (arrivalEnd s).obs.carFault = s.obs.carFault ∧ (arrivalEnd s).rmu.channels = s.rmu.channels ∧
    (arrivalEnd s).rmu.x2 = s.rmu.x2 ∧ (arrivalEnd s).rmu.dx2 = s.rmu.dx2 ∧ (arrivalEnd s).rmu.vSup = s.rmu.vSup ∧
    (arrivalEnd s).rmu.vAvg = s.rmu.vAvg ∧ (arrivalEnd s).rmu.known = s.rmu.known ∧
    (arrivalEnd s).rmu.twoChannel = s.rmu.twoChannel ∧ (arrivalEnd s).rmu.pA = s.rmu.pA ∧
    (arrivalEnd s).rmu.p1 = s.rmu.p1 ∧ (arrivalEnd s).rmu.p2 = s.rmu.p2 ∧ (arrivalEnd s).rmu.dM2 = s.rmu.dM2 ∧
    (arrivalEnd s).rmu.dSL = s.rmu.dSL ∧ (arrivalEnd s).cpt.target = s.cpt.target ∧
    (arrivalEnd s).bcu.loads = s.bcu.loads := by
  simp only [arrivalEnd]; split <;> simp

@[simp] theorem moveEnd_items (s : State) :
    (moveEnd s).tsq.direction = s.tsq.direction ∧ (moveEnd s).tsq.origin = s.tsq.origin ∧
    (moveEnd s).tsq.target = s.tsq.target ∧ (moveEnd s).tsq.mode = s.tsq.mode ∧
    (moveEnd s).tsq.silent = s.tsq.silent ∧ (moveEnd s).tsq.halts = s.tsq.halts ∧
    (moveEnd s).tsq.consoleTimer = s.tsq.consoleTimer ∧ (moveEnd s).tsq.callLines = s.tsq.callLines ∧
    (moveEnd s).srg.vTgt = s.srg.vTgt ∧ (moveEnd s).srg.band = s.srg.band ∧ (moveEnd s).srg.fRef = s.srg.fRef ∧
    (moveEnd s).srg.insp = s.srg.insp ∧ (moveEnd s).srg.phase = s.srg.phase ∧
    (moveEnd s).srg.active = s.srg.active ∧ (moveEnd s).srg.period = s.srg.period ∧
    (moveEnd s).srg.dir = s.srg.dir ∧ (moveEnd s).obs.fSup = s.obs.fSup ∧ (moveEnd s).obs.inspSup = s.obs.inspSup ∧
    (moveEnd s).obs.aSup = s.obs.aSup ∧ (moveEnd s).obs.direction = s.obs.direction ∧
    (moveEnd s).obs.rE2 = s.obs.rE2 ∧ (moveEnd s).obs.pS = s.obs.pS ∧
    (moveEnd s).obs.still = s.obs.still ∧ (moveEnd s).obs.causes = s.obs.causes ∧
    (moveEnd s).obs.trippedFrom = s.obs.trippedFrom ∧ (moveEnd s).obs.stopLatch = s.obs.stopLatch ∧
    (moveEnd s).obs.brakes = s.obs.brakes ∧ (moveEnd s).obs.railBrake = s.obs.railBrake ∧
    (moveEnd s).obs.pfail = s.obs.pfail ∧ (moveEnd s).obs.carFault = s.obs.carFault ∧
    (moveEnd s).rmu.channels = s.rmu.channels ∧ (moveEnd s).rmu.x2 = s.rmu.x2 ∧ (moveEnd s).rmu.dx2 = s.rmu.dx2 ∧
    (moveEnd s).rmu.vSup = s.rmu.vSup ∧ (moveEnd s).rmu.vAvg = s.rmu.vAvg ∧ (moveEnd s).rmu.known = s.rmu.known ∧
    (moveEnd s).rmu.twoChannel = s.rmu.twoChannel ∧ (moveEnd s).rmu.pA = s.rmu.pA ∧ (moveEnd s).rmu.p1 = s.rmu.p1 ∧
    (moveEnd s).rmu.p2 = s.rmu.p2 ∧ (moveEnd s).rmu.dM2 = s.rmu.dM2 ∧ (moveEnd s).rmu.dSL = s.rmu.dSL ∧
    (moveEnd s).bcu.loads = s.bcu.loads := by
  simp [moveEnd]

@[simp] theorem sbkProven_items (s : State) :
    (sbkProven s).tsq.direction = s.tsq.direction ∧ (sbkProven s).tsq.origin = s.tsq.origin ∧
    (sbkProven s).tsq.mode = s.tsq.mode ∧ (sbkProven s).tsq.silent = s.tsq.silent ∧
    (sbkProven s).tsq.consoleTimer = s.tsq.consoleTimer ∧ (sbkProven s).tsq.callLines = s.tsq.callLines ∧
    (sbkProven s).srg.vTgt = s.srg.vTgt ∧ (sbkProven s).srg.band = s.srg.band ∧
    (sbkProven s).srg.fRef = s.srg.fRef ∧ (sbkProven s).srg.insp = s.srg.insp ∧
    (sbkProven s).srg.phase = s.srg.phase ∧ (sbkProven s).srg.active = s.srg.active ∧
    (sbkProven s).srg.period = s.srg.period ∧ (sbkProven s).srg.dir = s.srg.dir ∧
    (sbkProven s).obs.fSup = s.obs.fSup ∧ (sbkProven s).obs.inspSup = s.obs.inspSup ∧
    (sbkProven s).obs.aSup = s.obs.aSup ∧ (sbkProven s).obs.direction = s.obs.direction ∧
    (sbkProven s).obs.rE2 = s.obs.rE2 ∧ (sbkProven s).obs.pS = s.obs.pS ∧
    (sbkProven s).obs.still = s.obs.still ∧ (sbkProven s).obs.causes = s.obs.causes ∧
    (sbkProven s).obs.trippedFrom = s.obs.trippedFrom ∧ (sbkProven s).obs.stopLatch = s.obs.stopLatch ∧
    (sbkProven s).obs.brakes = s.obs.brakes ∧ (sbkProven s).obs.railBrake = s.obs.railBrake ∧
    (sbkProven s).obs.pfail = s.obs.pfail ∧ (sbkProven s).obs.carFault = s.obs.carFault ∧
    (sbkProven s).rmu.channels = s.rmu.channels ∧ (sbkProven s).rmu.x2 = s.rmu.x2 ∧
    (sbkProven s).rmu.dx2 = s.rmu.dx2 ∧ (sbkProven s).rmu.vSup = s.rmu.vSup ∧ (sbkProven s).rmu.vAvg = s.rmu.vAvg ∧
    (sbkProven s).rmu.known = s.rmu.known ∧ (sbkProven s).rmu.twoChannel = s.rmu.twoChannel ∧
    (sbkProven s).rmu.pA = s.rmu.pA ∧ (sbkProven s).rmu.p1 = s.rmu.p1 ∧ (sbkProven s).rmu.p2 = s.rmu.p2 ∧
    (sbkProven s).rmu.dM2 = s.rmu.dM2 ∧ (sbkProven s).rmu.dSL = s.rmu.dSL ∧
    (sbkProven s).cpt.target = s.cpt.target ∧ (sbkProven s).bcu.loads = s.bcu.loads := by
  unfold sbkProven; split <;> (try split) <;> simp

@[simp] theorem reportApplied_items (s : State) :
    (reportApplied s).tsq.direction = s.tsq.direction ∧ (reportApplied s).tsq.origin = s.tsq.origin ∧
    (reportApplied s).tsq.mode = s.tsq.mode ∧ (reportApplied s).tsq.silent = s.tsq.silent ∧
    (reportApplied s).tsq.consoleTimer = s.tsq.consoleTimer ∧ (reportApplied s).tsq.callLines = s.tsq.callLines ∧
    (reportApplied s).srg.vTgt = s.srg.vTgt ∧ (reportApplied s).srg.band = s.srg.band ∧
    (reportApplied s).srg.fRef = s.srg.fRef ∧ (reportApplied s).srg.insp = s.srg.insp ∧
    (reportApplied s).srg.phase = s.srg.phase ∧ (reportApplied s).srg.active = s.srg.active ∧
    (reportApplied s).srg.period = s.srg.period ∧ (reportApplied s).srg.dir = s.srg.dir ∧
    (reportApplied s).obs.fSup = s.obs.fSup ∧ (reportApplied s).obs.inspSup = s.obs.inspSup ∧
    (reportApplied s).obs.aSup = s.obs.aSup ∧ (reportApplied s).obs.direction = s.obs.direction ∧
    (reportApplied s).obs.rE2 = s.obs.rE2 ∧ (reportApplied s).obs.pS = s.obs.pS ∧
    (reportApplied s).obs.still = s.obs.still ∧
    (reportApplied s).obs.causes = s.obs.causes ∧ (reportApplied s).obs.trippedFrom = s.obs.trippedFrom ∧
    (reportApplied s).obs.stopLatch = s.obs.stopLatch ∧ (reportApplied s).obs.brakes = s.obs.brakes ∧
    (reportApplied s).obs.railBrake = s.obs.railBrake ∧ (reportApplied s).obs.pfail = s.obs.pfail ∧
    (reportApplied s).obs.carFault = s.obs.carFault ∧ (reportApplied s).rmu.channels = s.rmu.channels ∧
    (reportApplied s).rmu.x2 = s.rmu.x2 ∧ (reportApplied s).rmu.dx2 = s.rmu.dx2 ∧
    (reportApplied s).rmu.vSup = s.rmu.vSup ∧ (reportApplied s).rmu.vAvg = s.rmu.vAvg ∧
    (reportApplied s).rmu.known = s.rmu.known ∧ (reportApplied s).rmu.twoChannel = s.rmu.twoChannel ∧
    (reportApplied s).rmu.pA = s.rmu.pA ∧ (reportApplied s).rmu.p1 = s.rmu.p1 ∧
    (reportApplied s).rmu.p2 = s.rmu.p2 ∧ (reportApplied s).rmu.dM2 = s.rmu.dM2 ∧
    (reportApplied s).rmu.dSL = s.rmu.dSL ∧ (reportApplied s).cpt.target = s.cpt.target ∧
    (reportApplied s).bcu.loads = s.bcu.loads := by
  unfold reportApplied; split <;> simp

@[simp] theorem applyRequest_items (s : State) :
    (applyRequest s).tsq.direction = s.tsq.direction ∧ (applyRequest s).tsq.origin = s.tsq.origin ∧
    (applyRequest s).tsq.mode = s.tsq.mode ∧ (applyRequest s).tsq.silent = s.tsq.silent ∧
    (applyRequest s).tsq.consoleTimer = s.tsq.consoleTimer ∧ (applyRequest s).tsq.callLines = s.tsq.callLines ∧
    (applyRequest s).srg.vTgt = s.srg.vTgt ∧ (applyRequest s).srg.band = s.srg.band ∧
    (applyRequest s).srg.fRef = s.srg.fRef ∧ (applyRequest s).srg.insp = s.srg.insp ∧
    (applyRequest s).srg.phase = s.srg.phase ∧ (applyRequest s).srg.active = s.srg.active ∧
    (applyRequest s).srg.period = s.srg.period ∧ (applyRequest s).srg.dir = s.srg.dir ∧
    (applyRequest s).obs.fSup = s.obs.fSup ∧ (applyRequest s).obs.inspSup = s.obs.inspSup ∧
    (applyRequest s).obs.aSup = s.obs.aSup ∧ (applyRequest s).obs.direction = s.obs.direction ∧
    (applyRequest s).obs.rE2 = s.obs.rE2 ∧ (applyRequest s).obs.pS = s.obs.pS ∧
    (applyRequest s).obs.still = s.obs.still ∧
    (applyRequest s).obs.causes = s.obs.causes ∧ (applyRequest s).obs.trippedFrom = s.obs.trippedFrom ∧
    (applyRequest s).obs.stopLatch = s.obs.stopLatch ∧ (applyRequest s).obs.railBrake = s.obs.railBrake ∧
    (applyRequest s).obs.pfail = s.obs.pfail ∧ (applyRequest s).obs.carFault = s.obs.carFault ∧
    (applyRequest s).rmu.channels = s.rmu.channels ∧ (applyRequest s).rmu.x2 = s.rmu.x2 ∧
    (applyRequest s).rmu.dx2 = s.rmu.dx2 ∧ (applyRequest s).rmu.vSup = s.rmu.vSup ∧
    (applyRequest s).rmu.vAvg = s.rmu.vAvg ∧ (applyRequest s).rmu.known = s.rmu.known ∧
    (applyRequest s).rmu.twoChannel = s.rmu.twoChannel ∧ (applyRequest s).rmu.pA = s.rmu.pA ∧
    (applyRequest s).rmu.p1 = s.rmu.p1 ∧ (applyRequest s).rmu.p2 = s.rmu.p2 ∧
    (applyRequest s).rmu.dM2 = s.rmu.dM2 ∧ (applyRequest s).rmu.dSL = s.rmu.dSL ∧
    (applyRequest s).cpt.target = s.cpt.target ∧ (applyRequest s).bcu.loads = s.bcu.loads := by
  simp [applyRequest]

@[simp] theorem directionShown_items (s : State) :
    (directionShown s).tsq.direction = s.tsq.direction ∧ (directionShown s).tsq.origin = s.tsq.origin ∧
    (directionShown s).tsq.target = s.tsq.target ∧ (directionShown s).tsq.mode = s.tsq.mode ∧
    (directionShown s).tsq.silent = s.tsq.silent ∧ (directionShown s).tsq.halts = s.tsq.halts ∧
    (directionShown s).tsq.consoleTimer = s.tsq.consoleTimer ∧ (directionShown s).tsq.callLines = s.tsq.callLines ∧
    (directionShown s).srg.vTgt = s.srg.vTgt ∧ (directionShown s).srg.band = s.srg.band ∧
    (directionShown s).srg.fRef = s.srg.fRef ∧ (directionShown s).srg.insp = s.srg.insp ∧
    (directionShown s).srg.phase = s.srg.phase ∧ (directionShown s).srg.active = s.srg.active ∧
    (directionShown s).srg.period = s.srg.period ∧ (directionShown s).srg.dir = s.srg.dir ∧
    (directionShown s).obs.fSup = s.obs.fSup ∧ (directionShown s).obs.inspSup = s.obs.inspSup ∧
    (directionShown s).obs.aSup = s.obs.aSup ∧ (directionShown s).obs.direction = s.obs.direction ∧
    (directionShown s).obs.rE2 = s.obs.rE2 ∧ (directionShown s).obs.pS = s.obs.pS ∧
    (directionShown s).obs.still = s.obs.still ∧
    (directionShown s).obs.causes = s.obs.causes ∧ (directionShown s).obs.trippedFrom = s.obs.trippedFrom ∧
    (directionShown s).obs.stopLatch = s.obs.stopLatch ∧ (directionShown s).obs.railBrake = s.obs.railBrake ∧
    (directionShown s).obs.pfail = s.obs.pfail ∧ (directionShown s).obs.carFault = s.obs.carFault ∧
    (directionShown s).rmu.channels = s.rmu.channels ∧ (directionShown s).rmu.x2 = s.rmu.x2 ∧
    (directionShown s).rmu.dx2 = s.rmu.dx2 ∧ (directionShown s).rmu.vSup = s.rmu.vSup ∧
    (directionShown s).rmu.vAvg = s.rmu.vAvg ∧ (directionShown s).rmu.known = s.rmu.known ∧
    (directionShown s).rmu.twoChannel = s.rmu.twoChannel ∧ (directionShown s).rmu.pA = s.rmu.pA ∧
    (directionShown s).rmu.p1 = s.rmu.p1 ∧ (directionShown s).rmu.p2 = s.rmu.p2 ∧
    (directionShown s).rmu.dM2 = s.rmu.dM2 ∧ (directionShown s).rmu.dSL = s.rmu.dSL ∧
    (directionShown s).bcu.loads = s.bcu.loads := by
  unfold directionShown; split <;> simp

@[simp] theorem handDirection_items (d : Direction) (s : State) :
    (handDirection d s).tsq.direction = s.tsq.direction ∧ (handDirection d s).tsq.origin = s.tsq.origin ∧
    (handDirection d s).tsq.target = s.tsq.target ∧ (handDirection d s).tsq.mode = s.tsq.mode ∧
    (handDirection d s).tsq.silent = s.tsq.silent ∧ (handDirection d s).tsq.halts = s.tsq.halts ∧
    (handDirection d s).tsq.consoleTimer = s.tsq.consoleTimer ∧
    (handDirection d s).tsq.callLines = s.tsq.callLines ∧ (handDirection d s).srg.vTgt = s.srg.vTgt ∧
    (handDirection d s).srg.band = s.srg.band ∧ (handDirection d s).srg.fRef = s.srg.fRef ∧
    (handDirection d s).srg.insp = s.srg.insp ∧ (handDirection d s).srg.phase = s.srg.phase ∧
    (handDirection d s).srg.active = s.srg.active ∧ (handDirection d s).srg.period = s.srg.period ∧
    (handDirection d s).obs.fSup = s.obs.fSup ∧ (handDirection d s).obs.inspSup = s.obs.inspSup ∧
    (handDirection d s).obs.aSup = s.obs.aSup ∧ (handDirection d s).obs.direction = s.obs.direction ∧
    (handDirection d s).obs.rE2 = s.obs.rE2 ∧ (handDirection d s).obs.pS = s.obs.pS ∧
    (handDirection d s).obs.still = s.obs.still ∧
    (handDirection d s).obs.causes = s.obs.causes ∧ (handDirection d s).obs.trippedFrom = s.obs.trippedFrom ∧
    (handDirection d s).obs.stopLatch = s.obs.stopLatch ∧ (handDirection d s).obs.railBrake = s.obs.railBrake ∧
    (handDirection d s).obs.pfail = s.obs.pfail ∧ (handDirection d s).obs.carFault = s.obs.carFault ∧
    (handDirection d s).rmu.channels = s.rmu.channels ∧ (handDirection d s).rmu.x2 = s.rmu.x2 ∧
    (handDirection d s).rmu.dx2 = s.rmu.dx2 ∧ (handDirection d s).rmu.vSup = s.rmu.vSup ∧
    (handDirection d s).rmu.vAvg = s.rmu.vAvg ∧ (handDirection d s).rmu.known = s.rmu.known ∧
    (handDirection d s).rmu.twoChannel = s.rmu.twoChannel ∧ (handDirection d s).rmu.pA = s.rmu.pA ∧
    (handDirection d s).rmu.p1 = s.rmu.p1 ∧ (handDirection d s).rmu.p2 = s.rmu.p2 ∧
    (handDirection d s).rmu.dM2 = s.rmu.dM2 ∧ (handDirection d s).rmu.dSL = s.rmu.dSL ∧
    (handDirection d s).bcu.loads = s.bcu.loads := by
  unfold handDirection; split <;> (try split) <;> simp

@[simp] theorem freeze_items (d : Direction) (s : State) :
    (freeze d s).srg.vRef = s.srg.vRef ∧ (freeze d s).srg.vTgt = s.srg.vTgt ∧
    (freeze d s).srg.phase = s.srg.phase ∧ (freeze d s).srg.holding = s.srg.holding ∧
    (freeze d s).srg.active = s.srg.active ∧ (freeze d s).srg.period = s.srg.period ∧
    (freeze d s).srg.dir = s.srg.dir ∧ (freeze d s).srg.dirPending = s.srg.dirPending ∧
    (freeze d s).srg.warning = s.srg.warning ∧ (freeze d s).srg.warn = s.srg.warn := by
  simp [freeze]

@[simp] theorem envelopeForTrip_items (s : State) :
    (envelopeForTrip s).obs.vPerm2 = s.obs.vPerm2 ∧ (envelopeForTrip s).obs.excursion = s.obs.excursion ∧
    (envelopeForTrip s).obs.pS = s.obs.pS ∧
    (envelopeForTrip s).obs.still = s.obs.still ∧ (envelopeForTrip s).obs.causes = s.obs.causes ∧
    (envelopeForTrip s).obs.trippedFrom = s.obs.trippedFrom ∧ (envelopeForTrip s).obs.stopLatch = s.obs.stopLatch ∧
    (envelopeForTrip s).obs.brakes = s.obs.brakes ∧ (envelopeForTrip s).obs.railBrake = s.obs.railBrake ∧
    (envelopeForTrip s).obs.pfail = s.obs.pfail ∧ (envelopeForTrip s).obs.carFault = s.obs.carFault ∧
    (envelopeForTrip s).obs.liftPending = s.obs.liftPending ∧
    (envelopeForTrip s).obs.applyPending = s.obs.applyPending := by
  simp only [envelopeForTrip, updObs_obs]; split <;> simp [Obs.inForce, Obs.endpointFrom]

@[simp] theorem envelopeForMove_items (d : Direction) (x : Int) (s : State) :
    (envelopeForMove d x s).obs.vPerm2 = s.obs.vPerm2 ∧ (envelopeForMove d x s).obs.excursion = s.obs.excursion ∧
    (envelopeForMove d x s).obs.pS = s.obs.pS ∧
    (envelopeForMove d x s).obs.still = s.obs.still ∧ (envelopeForMove d x s).obs.causes = s.obs.causes ∧
    (envelopeForMove d x s).obs.trippedFrom = s.obs.trippedFrom ∧
    (envelopeForMove d x s).obs.stopLatch = s.obs.stopLatch ∧ (envelopeForMove d x s).obs.brakes = s.obs.brakes ∧
    (envelopeForMove d x s).obs.railBrake = s.obs.railBrake ∧ (envelopeForMove d x s).obs.pfail = s.obs.pfail ∧
    (envelopeForMove d x s).obs.carFault = s.obs.carFault ∧
    (envelopeForMove d x s).obs.liftPending = s.obs.liftPending ∧
    (envelopeForMove d x s).obs.applyPending = s.obs.applyPending := by
  simp [envelopeForMove, Obs.inForce]

@[simp] theorem carryOver_items (s : State) :
    (carryOver s).bcu.loads = s.bcu.loads := by
  unfold carryOver carryOverAt; split <;> (try split) <;> (try split) <;> (try split) <;> simp

@[simp] theorem openIfSuspended_items (st : Station) (s : State) :
    (openIfSuspended st s).bcu.loads = s.bcu.loads := by
  unfold openIfSuspended; split <;> simp

@[simp] theorem releaseActions_items (s : State) :
    (releaseActions s).tsq.state = s.tsq.state ∧ (releaseActions s).tsq.resume = s.tsq.resume ∧
    (releaseActions s).tsq.phase = s.tsq.phase ∧ (releaseActions s).tsq.direction = s.tsq.direction ∧
    (releaseActions s).tsq.origin = s.tsq.origin ∧ (releaseActions s).tsq.target = s.tsq.target ∧
    (releaseActions s).tsq.mode = s.tsq.mode ∧ (releaseActions s).tsq.lastChange = s.tsq.lastChange ∧
    (releaseActions s).tsq.silent = s.tsq.silent ∧ (releaseActions s).tsq.move = s.tsq.move ∧
    (releaseActions s).tsq.halts = s.tsq.halts ∧ (releaseActions s).tsq.driveRequest = s.tsq.driveRequest ∧
    (releaseActions s).tsq.consoleTimer = s.tsq.consoleTimer ∧ (releaseActions s).tsq.callLines = s.tsq.callLines ∧
    (releaseActions s).srg.vRef = s.srg.vRef ∧ (releaseActions s).srg.vTgt = s.srg.vTgt ∧
    (releaseActions s).srg.phase = s.srg.phase ∧ (releaseActions s).srg.holding = s.srg.holding ∧
    (releaseActions s).srg.active = s.srg.active ∧ (releaseActions s).srg.period = s.srg.period ∧
    (releaseActions s).srg.dir = s.srg.dir ∧ (releaseActions s).srg.dirPending = s.srg.dirPending ∧
    (releaseActions s).srg.warning = s.srg.warning ∧ (releaseActions s).srg.warn = s.srg.warn ∧
    (releaseActions s).obs.vPerm2 = s.obs.vPerm2 ∧ (releaseActions s).obs.excursion = s.obs.excursion ∧
    (releaseActions s).obs.pS = s.obs.pS ∧
    (releaseActions s).obs.still = s.obs.still ∧ (releaseActions s).obs.causes = s.obs.causes ∧
    (releaseActions s).obs.trippedFrom = s.obs.trippedFrom ∧ (releaseActions s).obs.stopLatch = s.obs.stopLatch ∧
    (releaseActions s).obs.brakes = s.obs.brakes ∧ (releaseActions s).obs.railBrake = s.obs.railBrake ∧
    (releaseActions s).obs.pfail = s.obs.pfail ∧ (releaseActions s).obs.carFault = s.obs.carFault ∧
    (releaseActions s).obs.liftPending = s.obs.liftPending ∧
    (releaseActions s).obs.applyPending = s.obs.applyPending ∧ (releaseActions s).rmu.x2 = s.rmu.x2 ∧
    (releaseActions s).rmu.dx2 = s.rmu.dx2 ∧ (releaseActions s).rmu.vSup = s.rmu.vSup ∧
    (releaseActions s).rmu.vAvg = s.rmu.vAvg ∧ (releaseActions s).rmu.known = s.rmu.known ∧
    (releaseActions s).rmu.twoChannel = s.rmu.twoChannel ∧ (releaseActions s).rmu.pA = s.rmu.pA ∧
    (releaseActions s).rmu.p1 = s.rmu.p1 ∧ (releaseActions s).rmu.p2 = s.rmu.p2 ∧
    (releaseActions s).bcu.loads = s.bcu.loads := by
  simp [releaseActions, Rmu.atRelease, Rmu.clearWindows]

@[simp] theorem brakeRelease_items (s : State) :
    (brakeRelease s).tsq.direction = s.tsq.direction ∧ (brakeRelease s).tsq.origin = s.tsq.origin ∧
    (brakeRelease s).tsq.target = s.tsq.target ∧ (brakeRelease s).tsq.mode = s.tsq.mode ∧
    (brakeRelease s).tsq.silent = s.tsq.silent ∧ (brakeRelease s).tsq.halts = s.tsq.halts ∧
    (brakeRelease s).tsq.consoleTimer = s.tsq.consoleTimer ∧ (brakeRelease s).tsq.callLines = s.tsq.callLines ∧
    (brakeRelease s).srg.vTgt = s.srg.vTgt ∧ (brakeRelease s).srg.phase = s.srg.phase ∧
    (brakeRelease s).srg.active = s.srg.active ∧ (brakeRelease s).srg.period = s.srg.period ∧
    (brakeRelease s).obs.pS = s.obs.pS ∧
    (brakeRelease s).obs.still = s.obs.still ∧ (brakeRelease s).obs.causes = s.obs.causes ∧
    (brakeRelease s).obs.trippedFrom = s.obs.trippedFrom ∧ (brakeRelease s).obs.stopLatch = s.obs.stopLatch ∧
    (brakeRelease s).obs.railBrake = s.obs.railBrake ∧ (brakeRelease s).obs.pfail = s.obs.pfail ∧
    (brakeRelease s).obs.carFault = s.obs.carFault ∧ (brakeRelease s).rmu.x2 = s.rmu.x2 ∧
    (brakeRelease s).rmu.dx2 = s.rmu.dx2 ∧ (brakeRelease s).rmu.vSup = s.rmu.vSup ∧
    (brakeRelease s).rmu.vAvg = s.rmu.vAvg ∧ (brakeRelease s).rmu.known = s.rmu.known ∧
    (brakeRelease s).rmu.twoChannel = s.rmu.twoChannel ∧ (brakeRelease s).rmu.pA = s.rmu.pA ∧
    (brakeRelease s).rmu.p1 = s.rmu.p1 ∧ (brakeRelease s).rmu.p2 = s.rmu.p2 ∧
    (brakeRelease s).bcu.loads = s.bcu.loads := by
  simp [brakeRelease]

@[simp] theorem closureReport_items (s : State) :
    (closureReport s).tsq.direction = s.tsq.direction ∧ (closureReport s).tsq.origin = s.tsq.origin ∧
    (closureReport s).tsq.target = s.tsq.target ∧ (closureReport s).tsq.mode = s.tsq.mode ∧
    (closureReport s).tsq.silent = s.tsq.silent ∧ (closureReport s).tsq.halts = s.tsq.halts ∧
    (closureReport s).tsq.consoleTimer = s.tsq.consoleTimer ∧ (closureReport s).tsq.callLines = s.tsq.callLines ∧
    (closureReport s).srg.vTgt = s.srg.vTgt ∧ (closureReport s).srg.phase = s.srg.phase ∧
    (closureReport s).srg.active = s.srg.active ∧ (closureReport s).srg.period = s.srg.period ∧
    (closureReport s).obs.pS = s.obs.pS ∧
    (closureReport s).obs.still = s.obs.still ∧ (closureReport s).obs.causes = s.obs.causes ∧
    (closureReport s).obs.trippedFrom = s.obs.trippedFrom ∧ (closureReport s).obs.stopLatch = s.obs.stopLatch ∧
    (closureReport s).obs.railBrake = s.obs.railBrake ∧ (closureReport s).obs.pfail = s.obs.pfail ∧
    (closureReport s).obs.carFault = s.obs.carFault ∧ (closureReport s).rmu.x2 = s.rmu.x2 ∧
    (closureReport s).rmu.dx2 = s.rmu.dx2 ∧ (closureReport s).rmu.vSup = s.rmu.vSup ∧
    (closureReport s).rmu.vAvg = s.rmu.vAvg ∧ (closureReport s).rmu.known = s.rmu.known ∧
    (closureReport s).rmu.twoChannel = s.rmu.twoChannel ∧ (closureReport s).rmu.pA = s.rmu.pA ∧
    (closureReport s).rmu.p1 = s.rmu.p1 ∧ (closureReport s).rmu.p2 = s.rmu.p2 ∧
    (closureReport s).bcu.loads = s.bcu.loads := by
  unfold closureReport; split <;> simp

@[simp] theorem enterClosure_items (s : State) :
    (enterClosure s).tsq.direction = s.tsq.direction ∧ (enterClosure s).tsq.origin = s.tsq.origin ∧
    (enterClosure s).tsq.target = s.tsq.target ∧ (enterClosure s).tsq.mode = s.tsq.mode ∧
    (enterClosure s).tsq.silent = s.tsq.silent ∧ (enterClosure s).tsq.halts = s.tsq.halts ∧
    (enterClosure s).tsq.consoleTimer = s.tsq.consoleTimer ∧ (enterClosure s).tsq.callLines = s.tsq.callLines ∧
    (enterClosure s).srg.vTgt = s.srg.vTgt ∧ (enterClosure s).srg.phase = s.srg.phase ∧
    (enterClosure s).srg.active = s.srg.active ∧ (enterClosure s).srg.period = s.srg.period ∧
    (enterClosure s).obs.pS = s.obs.pS ∧
    (enterClosure s).obs.still = s.obs.still ∧ (enterClosure s).obs.causes = s.obs.causes ∧
    (enterClosure s).obs.trippedFrom = s.obs.trippedFrom ∧ (enterClosure s).obs.stopLatch = s.obs.stopLatch ∧
    (enterClosure s).obs.railBrake = s.obs.railBrake ∧ (enterClosure s).obs.pfail = s.obs.pfail ∧
    (enterClosure s).obs.carFault = s.obs.carFault ∧ (enterClosure s).rmu.x2 = s.rmu.x2 ∧
    (enterClosure s).rmu.dx2 = s.rmu.dx2 ∧ (enterClosure s).rmu.vSup = s.rmu.vSup ∧
    (enterClosure s).rmu.vAvg = s.rmu.vAvg ∧ (enterClosure s).rmu.known = s.rmu.known ∧
    (enterClosure s).rmu.twoChannel = s.rmu.twoChannel ∧ (enterClosure s).rmu.pA = s.rmu.pA ∧
    (enterClosure s).rmu.p1 = s.rmu.p1 ∧ (enterClosure s).rmu.p2 = s.rmu.p2 ∧
    (enterClosure s).bcu.loads = s.bcu.loads := by
  simp only [enterClosure]; split <;> simp

@[simp] theorem doorsStep_items (s : State) :
    (doorsStep s).tsq.direction = s.tsq.direction ∧ (doorsStep s).tsq.origin = s.tsq.origin ∧
    (doorsStep s).tsq.mode = s.tsq.mode ∧ (doorsStep s).tsq.silent = s.tsq.silent ∧
    (doorsStep s).tsq.consoleTimer = s.tsq.consoleTimer ∧ (doorsStep s).tsq.callLines = s.tsq.callLines ∧
    (doorsStep s).srg.vTgt = s.srg.vTgt ∧ (doorsStep s).srg.phase = s.srg.phase ∧
    (doorsStep s).srg.active = s.srg.active ∧ (doorsStep s).srg.period = s.srg.period ∧
    (doorsStep s).obs.pS = s.obs.pS ∧
    (doorsStep s).obs.still = s.obs.still ∧ (doorsStep s).obs.causes = s.obs.causes ∧
    (doorsStep s).obs.trippedFrom = s.obs.trippedFrom ∧ (doorsStep s).obs.stopLatch = s.obs.stopLatch ∧
    (doorsStep s).obs.railBrake = s.obs.railBrake ∧ (doorsStep s).obs.pfail = s.obs.pfail ∧
    (doorsStep s).obs.carFault = s.obs.carFault ∧ (doorsStep s).rmu.x2 = s.rmu.x2 ∧
    (doorsStep s).rmu.dx2 = s.rmu.dx2 ∧ (doorsStep s).rmu.vSup = s.rmu.vSup ∧ (doorsStep s).rmu.vAvg = s.rmu.vAvg ∧
    (doorsStep s).rmu.known = s.rmu.known ∧ (doorsStep s).rmu.twoChannel = s.rmu.twoChannel ∧
    (doorsStep s).rmu.pA = s.rmu.pA ∧ (doorsStep s).rmu.p1 = s.rmu.p1 ∧ (doorsStep s).rmu.p2 = s.rmu.p2 ∧
    (doorsStep s).bcu.loads = s.bcu.loads := by
  simp only [doorsStep]; split <;> simp

@[simp] theorem endWarningStep_items (s : State) :
    (endWarningStep s).tsq.direction = s.tsq.direction ∧ (endWarningStep s).tsq.origin = s.tsq.origin ∧
    (endWarningStep s).tsq.mode = s.tsq.mode ∧ (endWarningStep s).tsq.silent = s.tsq.silent ∧
    (endWarningStep s).tsq.consoleTimer = s.tsq.consoleTimer ∧ (endWarningStep s).tsq.callLines = s.tsq.callLines ∧
    (endWarningStep s).srg.vTgt = s.srg.vTgt ∧ (endWarningStep s).srg.phase = s.srg.phase ∧
    (endWarningStep s).srg.active = s.srg.active ∧ (endWarningStep s).srg.period = s.srg.period ∧
    (endWarningStep s).obs.pS = s.obs.pS ∧
    (endWarningStep s).obs.still = s.obs.still ∧ (endWarningStep s).obs.causes = s.obs.causes ∧
    (endWarningStep s).obs.trippedFrom = s.obs.trippedFrom ∧ (endWarningStep s).obs.stopLatch = s.obs.stopLatch ∧
    (endWarningStep s).obs.railBrake = s.obs.railBrake ∧ (endWarningStep s).obs.pfail = s.obs.pfail ∧
    (endWarningStep s).obs.carFault = s.obs.carFault ∧ (endWarningStep s).rmu.x2 = s.rmu.x2 ∧
    (endWarningStep s).rmu.dx2 = s.rmu.dx2 ∧ (endWarningStep s).rmu.vSup = s.rmu.vSup ∧
    (endWarningStep s).rmu.vAvg = s.rmu.vAvg ∧ (endWarningStep s).rmu.known = s.rmu.known ∧
    (endWarningStep s).rmu.twoChannel = s.rmu.twoChannel ∧ (endWarningStep s).rmu.pA = s.rmu.pA ∧
    (endWarningStep s).rmu.p1 = s.rmu.p1 ∧ (endWarningStep s).rmu.p2 = s.rmu.p2 ∧
    (endWarningStep s).bcu.loads = s.bcu.loads := by
  unfold endWarningStep; split <;> (try split) <;> simp

@[simp] theorem closeBatch_items (st : Station) (s : State) :
    (closeBatch st s).bcu.loads = s.bcu.loads := by
  simp [closeBatch]

@[simp] theorem startWarning_items (s : State) :
    (startWarning s).tsq.state = s.tsq.state ∧ (startWarning s).tsq.step = s.tsq.step ∧
    (startWarning s).tsq.resume = s.tsq.resume ∧ (startWarning s).tsq.phase = s.tsq.phase ∧
    (startWarning s).tsq.direction = s.tsq.direction ∧ (startWarning s).tsq.origin = s.tsq.origin ∧
    (startWarning s).tsq.target = s.tsq.target ∧ (startWarning s).tsq.mode = s.tsq.mode ∧
    (startWarning s).tsq.lastChange = s.tsq.lastChange ∧ (startWarning s).tsq.silent = s.tsq.silent ∧
    (startWarning s).tsq.move = s.tsq.move ∧ (startWarning s).tsq.halts = s.tsq.halts ∧
    (startWarning s).tsq.driveRequest = s.tsq.driveRequest ∧
    (startWarning s).tsq.closureTimer = s.tsq.closureTimer ∧
    (startWarning s).tsq.consoleTimer = s.tsq.consoleTimer ∧ (startWarning s).tsq.callLines = s.tsq.callLines ∧
    (startWarning s).srg.vRef = s.srg.vRef ∧ (startWarning s).srg.vTgt = s.srg.vTgt ∧
    (startWarning s).srg.band = s.srg.band ∧ (startWarning s).srg.fRef = s.srg.fRef ∧
    (startWarning s).srg.insp = s.srg.insp ∧ (startWarning s).srg.phase = s.srg.phase ∧
    (startWarning s).srg.ctlTarget = s.srg.ctlTarget ∧ (startWarning s).srg.holding = s.srg.holding ∧
    (startWarning s).srg.active = s.srg.active ∧ (startWarning s).srg.period = s.srg.period ∧
    (startWarning s).srg.dir = s.srg.dir ∧ (startWarning s).srg.dirPending = s.srg.dirPending ∧
    (startWarning s).srg.frozen = s.srg.frozen := by
  unfold startWarning; split <;> simp

@[simp] theorem beginDeparture_items (s : State) :
    (beginDeparture s).tsq.direction = s.tsq.direction ∧ (beginDeparture s).tsq.origin = s.tsq.origin ∧
    (beginDeparture s).tsq.mode = s.tsq.mode ∧ (beginDeparture s).tsq.silent = s.tsq.silent ∧
    (beginDeparture s).tsq.consoleTimer = s.tsq.consoleTimer ∧ (beginDeparture s).tsq.callLines = s.tsq.callLines ∧
    (beginDeparture s).srg.vTgt = s.srg.vTgt ∧ (beginDeparture s).srg.phase = s.srg.phase ∧
    (beginDeparture s).srg.active = s.srg.active ∧ (beginDeparture s).srg.period = s.srg.period ∧
    (beginDeparture s).obs.pS = s.obs.pS ∧
    (beginDeparture s).obs.still = s.obs.still ∧ (beginDeparture s).obs.causes = s.obs.causes ∧
    (beginDeparture s).obs.trippedFrom = s.obs.trippedFrom ∧ (beginDeparture s).obs.stopLatch = s.obs.stopLatch ∧
    (beginDeparture s).obs.railBrake = s.obs.railBrake ∧ (beginDeparture s).obs.pfail = s.obs.pfail ∧
    (beginDeparture s).obs.carFault = s.obs.carFault ∧ (beginDeparture s).rmu.x2 = s.rmu.x2 ∧
    (beginDeparture s).rmu.dx2 = s.rmu.dx2 ∧ (beginDeparture s).rmu.vSup = s.rmu.vSup ∧
    (beginDeparture s).rmu.vAvg = s.rmu.vAvg ∧ (beginDeparture s).rmu.known = s.rmu.known ∧
    (beginDeparture s).rmu.twoChannel = s.rmu.twoChannel ∧ (beginDeparture s).rmu.pA = s.rmu.pA ∧
    (beginDeparture s).rmu.p1 = s.rmu.p1 ∧ (beginDeparture s).rmu.p2 = s.rmu.p2 ∧
    (beginDeparture s).bcu.loads = s.bcu.loads := by
  simp only [beginDeparture]; split <;> simp

end Sys2Proof.Machine
end

