-- ==== Sys2Proof/Laws/Ports.lean ====
section
/-! SUPPORT. What the shared operations do to the LPU: an operation of Machine/Ops.lean may raise events, and does
nothing else to a port or a link. -/

namespace Sys2Proof.Machine

/-! ### Ports by name -/

@[simp] theorem PerPort.get_set_self {α : Type} (v : PerPort α) (p : PortId) (x : α) : (v.set p x).get p = x := by
  cases p <;> rfl

theorem PerPort.get_set {α : Type} (v : PerPort α) (p q : PortId) (x : α) :
    (v.set p x).get q = if q = p then x else v.get q := by
  cases p <;> cases q <;> rfl

@[simp] theorem PerPort.get_mapPort {α β : Type} (f : PortId → α → β) (v : PerPort α) (p : PortId) :
    (v.mapPort f).get p = f p (v.get p) := by
  cases p <;> rfl

theorem PerPort.ext_get {α : Type} {v w : PerPort α} (h : ∀ p, v.get p = w.get p) : v = w := by
  have h0 := h .p0
  have h1 := h .p1
  have h2 := h .p2
  have h3 := h .p3
  have h4 := h .p4
  cases v
  cases w
  simp_all [PerPort.get]

/-- Recording an event changes the event set alone (R182). -/
@[simp] theorem record_keeps (e : EventKind) (r : PortRecord) :
    (r.record e).rx = r.rx ∧ (r.record e).lineLow = r.lineLow ∧ (r.record e).queue = r.queue ∧
    (r.record e).tx = r.tx ∧ (r.record e).subs = r.subs := by
  unfold PortRecord.record; split <;> simp

/-- One port after an event of a scope (R182). -/
@[simp] theorem raiseOn_port (scope : PortId → Bool) (e : EventKind) (s : State) (p : PortId) :
    (raiseOn scope e s).lpu.ports.get p =
      if scope p then (s.lpu.ports.get p).record e else s.lpu.ports.get p := by
  simp [raiseOn]

/-- A port update leaves every block but the LPU, and every other port and link. -/
@[simp] theorem updPort_keeps (s : State) (p : PortId) (f : PortRecord → PortRecord) :
    (s.updPort p f).lts = s.lts ∧ (s.updPort p f).rmu = s.rmu ∧ (s.updPort p f).cpt = s.cpt ∧
    (s.updPort p f).tsq = s.tsq ∧ (s.updPort p f).srg = s.srg ∧ (s.updPort p f).obs = s.obs ∧
    (s.updPort p f).dru = s.dru ∧ (s.updPort p f).bcu = s.bcu ∧ (s.updPort p f).clock = s.clock ∧
    (s.updPort p f).timeOfDay = s.timeOfDay ∧ (s.updPort p f).minuteMs = s.minuteMs ∧
    (s.updPort p f).freeIndex = s.freeIndex ∧ (s.updPort p f).pending = s.pending ∧
    (s.updPort p f).lpu.carLinks = s.lpu.carLinks ∧ (s.updPort p f).lpu.gateLinks = s.lpu.gateLinks := by
  simp [State.updPort]

/-- One port after a port update. -/
theorem updPort_port (s : State) (p q : PortId) (f : PortRecord → PortRecord) :
    (s.updPort p f).lpu.ports.get q = if q = p then f (s.lpu.ports.get p) else s.lpu.ports.get q := by
  simp [State.updPort, PerPort.get_set]

@[simp] theorem updPort_port_self (s : State) (p : PortId) (f : PortRecord → PortRecord) :
    (s.updPort p f).lpu.ports.get p = f (s.lpu.ports.get p) := by
  simp [updPort_port]

/-! ### Equality but for events -/

/-- What equality but for events says of the links and of one port. -/
theorem sansEvents_eq {l m : Lpu} (h : l.sansEvents = m.sansEvents) :
    l.carLinks = m.carLinks ∧ l.gateLinks = m.gateLinks ∧
      ∀ p, (l.ports.get p).rx = (m.ports.get p).rx ∧ (l.ports.get p).lineLow = (m.ports.get p).lineLow ∧
        (l.ports.get p).queue = (m.ports.get p).queue ∧ (l.ports.get p).tx = (m.ports.get p).tx ∧
        (l.ports.get p).subs = (m.ports.get p).subs := by
  simp only [Lpu.sansEvents, Lpu.mk.injEq] at h
  refine ⟨h.2.1, h.2.2, fun p => ?_⟩
  have hp : ({ l.ports.get p with events := 0 } : PortRecord) = { m.ports.get p with events := 0 } := by
    have := congrArg (fun v => PerPort.get v p) h.1
    simpa using this
  simp only [PortRecord.mk.injEq] at hp
  tauto

/-- An event raises nothing but an event. -/
@[simp] theorem raiseOn_sansEvents (scope : PortId → Bool) (e : EventKind) (s : State) :
    (raiseOn scope e s).lpu.sansEvents = s.lpu.sansEvents := by
  simp only [Lpu.sansEvents, Lpu.mk.injEq]
  refine ⟨PerPort.ext_get fun p => ?_, by simp [raiseOn], by simp [raiseOn]⟩
  simp only [PerPort.get_mapPort, raiseOn_port]
  split
  · simp [record_keeps]
  · rfl

@[simp] theorem raise_sansEvents (e : EventKind) (s : State) : (raise e s).lpu.sansEvents = s.lpu.sansEvents := by
  simp [raise]

@[simp] theorem raiseLink_sansEvents (e : EventKind) (p : PortId) (s : State) :
    (raiseLink e p s).lpu.sansEvents = s.lpu.sansEvents := by
  simp [raiseLink]

/-! ### The shared operations -/

@[simp] theorem testDoors_ports (s : State) : (testDoors s).lpu.sansEvents = s.lpu.sansEvents := by
  unfold testDoors; split <;> simp

@[simp] theorem setBatch_ports (st : Station) (b : Batch) (s : State) : (setBatch st b s).lpu.sansEvents = s.lpu.sansEvents := by
  unfold setBatch; split <;> simp

@[simp] theorem suspendBatch_ports (st : Station) (s : State) : (suspendBatch st s).lpu.sansEvents = s.lpu.sansEvents := by
  simp [suspendBatch]

@[simp] theorem suspendBatches_ports (s : State) : (suspendBatches s).lpu.sansEvents = s.lpu.sansEvents := by
  simp [suspendBatches]

@[simp] theorem openBatch_ports (st : Station) (s : State) : (openBatch st s).lpu.sansEvents = s.lpu.sansEvents := by
  simp [openBatch]

@[simp] theorem openBatches_ports (s : State) : (openBatches s).lpu.sansEvents = s.lpu.sansEvents := by
  simp [openBatches]

@[simp] theorem setBrake_ports (b : Brake) (r : BrakeRecord) (s : State) : (setBrake b r s).lpu.sansEvents = s.lpu.sansEvents := by
  unfold setBrake; split <;> simp

@[simp] theorem applyBrake_ports (b : Brake) (s : State) : (applyBrake b s).lpu.sansEvents = s.lpu.sansEvents := by
  unfold applyBrake; split <;> simp

@[simp] theorem liftBrake_ports (b : Brake) (s : State) : (liftBrake b s).lpu.sansEvents = s.lpu.sansEvents := by
  unfold liftBrake; split <;> simp

@[simp] theorem recordTrip_ports (n : TripState) (st : Option Step) (s : State) : (recordTrip n st s).lpu.sansEvents = s.lpu.sansEvents := by
  simp [recordTrip]

@[simp] theorem bcuOnTrip_ports (n : TripState) (s : State) : (bcuOnTrip n s).lpu.sansEvents = s.lpu.sansEvents := by
  unfold bcuOnTrip; split <;> simp

@[simp] theorem changeTrip_ports (n : TripState) (st : Option Step) (s : State) : (changeTrip n st s).lpu.sansEvents = s.lpu.sansEvents := by
  unfold changeTrip; split <;> simp

@[simp] theorem joinCause_ports (k : CauseKind) (src : CauseSource) (s : State) : (joinCause k src s).lpu.sansEvents = s.lpu.sansEvents := by
  simp [joinCause]

@[simp] theorem serviceBraking_ports (s : State) : (serviceBraking s).lpu.sansEvents = s.lpu.sansEvents := by
  simp [serviceBraking]

@[simp] theorem emergencyBraking_ports (s : State) : (emergencyBraking s).lpu.sansEvents = s.lpu.sansEvents := by
  simp [emergencyBraking]

@[simp] theorem brakingAction_ports (b : Braking) (s : State) : (brakingAction b s).lpu.sansEvents = s.lpu.sansEvents := by
  unfold brakingAction; split <;> (try split) <;> simp

@[simp] theorem trip_ports (s : State) : (trip s).lpu.sansEvents = s.lpu.sansEvents := by
  simp [trip]

@[simp] theorem giveCause_ports (k : CauseKind) (src : CauseSource) (s : State) : (giveCause k src s).lpu.sansEvents = s.lpu.sansEvents := by
  simp only [giveCause]; split <;> (try split) <;> (try split) <;> simp

@[simp] theorem brakeFault_ports (b : Brake) (s : State) : (brakeFault b s).lpu.sansEvents = s.lpu.sansEvents := by
  cases b <;> simp [brakeFault]

@[simp] theorem serveHalt_ports (k : Nat) (s : State) : (serveHalt k s).lpu.sansEvents = s.lpu.sansEvents := by
  unfold serveHalt; split <;> simp

@[simp] theorem moveTarget_ports (k : Nat) (s : State) : (moveTarget k s).lpu.sansEvents = s.lpu.sansEvents := by
  simp [moveTarget]

@[simp] theorem testFeasibility_ports (k : Nat) (s : State) : (testFeasibility k s).lpu.sansEvents = s.lpu.sansEvents := by
  unfold testFeasibility; split <;> simp

@[simp] theorem listHalt_ports (k : Nat) (src : HaltSource) (s : State) : (listHalt k src s).lpu.sansEvents = s.lpu.sansEvents := by
  unfold listHalt; split <;> simp

@[simp] theorem haltRequest_ports (k : Nat) (src : HaltSource) (s : State) : (haltRequest k src s).2.lpu.sansEvents = s.lpu.sansEvents := by
  simp only [haltRequest]; split <;> (try split) <;> (try split) <;> (try split) <;> simp

@[simp] theorem openAtTerminal_ports (k : Nat) (s : State) : (openAtTerminal k s).lpu.sansEvents = s.lpu.sansEvents := by
  unfold openAtTerminal; split <;> simp

@[simp] theorem stopAt_ports (k : Nat) (s : State) : (stopAt k s).lpu.sansEvents = s.lpu.sansEvents := by
  simp [stopAt]

@[simp] theorem abandonToOrigin_ports (s : State) : (abandonToOrigin s).lpu.sansEvents = s.lpu.sansEvents := by
  simp [abandonToOrigin]

@[simp] theorem arrivalTest_ports (s : State) : (arrivalTest s).lpu.sansEvents = s.lpu.sansEvents := by
  simp only [arrivalTest]; split <;> (try split) <;> simp

@[simp] theorem brakesLifted_ports (s : State) : (brakesLifted s).lpu.sansEvents = s.lpu.sansEvents := by
  unfold brakesLifted; split <;> (try split) <;> simp

@[simp] theorem reportLifted_ports (s : State) : (reportLifted s).lpu.sansEvents = s.lpu.sansEvents := by
  unfold reportLifted; split <;> simp

@[simp] theorem liftRequest_ports (s : State) : (liftRequest s).lpu.sansEvents = s.lpu.sansEvents := by
  unfold liftRequest; split <;> simp

@[simp] theorem arrivalEnd_ports (s : State) : (arrivalEnd s).lpu.sansEvents = s.lpu.sansEvents := by
  simp only [arrivalEnd]; split <;> simp

@[simp] theorem moveEnd_ports (s : State) : (moveEnd s).lpu.sansEvents = s.lpu.sansEvents := by
  simp [moveEnd]

@[simp] theorem sbkProven_ports (s : State) : (sbkProven s).lpu.sansEvents = s.lpu.sansEvents := by
  unfold sbkProven; split <;> (try split) <;> simp

@[simp] theorem reportApplied_ports (s : State) : (reportApplied s).lpu.sansEvents = s.lpu.sansEvents := by
  unfold reportApplied; split <;> simp

@[simp] theorem applyRequest_ports (s : State) : (applyRequest s).lpu.sansEvents = s.lpu.sansEvents := by
  simp [applyRequest]

@[simp] theorem directionShown_ports (s : State) : (directionShown s).lpu.sansEvents = s.lpu.sansEvents := by
  unfold directionShown; split <;> simp

@[simp] theorem handDirection_ports (d : Direction) (s : State) : (handDirection d s).lpu.sansEvents = s.lpu.sansEvents := by
  unfold handDirection; split <;> (try split) <;> simp

@[simp] theorem carryOverAt_ports (k : Nat) (st : Station) (s : State) : (carryOverAt k st s).lpu.sansEvents = s.lpu.sansEvents := by
  unfold carryOverAt; split <;> simp

@[simp] theorem carryOver_ports (s : State) : (carryOver s).lpu.sansEvents = s.lpu.sansEvents := by
  unfold carryOver; split <;> (try split) <;> simp

@[simp] theorem openIfSuspended_ports (st : Station) (s : State) : (openIfSuspended st s).lpu.sansEvents = s.lpu.sansEvents := by
  unfold openIfSuspended; split <;> simp

@[simp] theorem releaseActions_ports (s : State) : (releaseActions s).lpu.sansEvents = s.lpu.sansEvents := by
  simp [releaseActions]

@[simp] theorem brakeRelease_ports (s : State) : (brakeRelease s).lpu.sansEvents = s.lpu.sansEvents := by
  simp [brakeRelease]

@[simp] theorem closureReport_ports (s : State) : (closureReport s).lpu.sansEvents = s.lpu.sansEvents := by
  unfold closureReport; split <;> simp

@[simp] theorem enterClosure_ports (s : State) : (enterClosure s).lpu.sansEvents = s.lpu.sansEvents := by
  simp only [enterClosure]; split <;> simp

@[simp] theorem doorsStep_ports (s : State) : (doorsStep s).lpu.sansEvents = s.lpu.sansEvents := by
  simp only [doorsStep]; split <;> simp

@[simp] theorem endWarningStep_ports (s : State) : (endWarningStep s).lpu.sansEvents = s.lpu.sansEvents := by
  unfold endWarningStep; split <;> (try split) <;> simp

@[simp] theorem closeBatch_ports (st : Station) (s : State) : (closeBatch st s).lpu.sansEvents = s.lpu.sansEvents := by
  simp [closeBatch]

@[simp] theorem beginDeparture_ports (s : State) : (beginDeparture s).lpu.sansEvents = s.lpu.sansEvents := by
  simp only [beginDeparture]; split <;> simp

end Sys2Proof.Machine
end

