-- ==== Sys2Proof/Laws/Rows.lean ====
section
/-! SUPPORT. What a row does that goes through a port: on a port at rest a request row is its owner's effect and its
reply; and a property that the owners keep is kept by every row. -/

namespace Sys2Proof.Machine

@[simp] theorem PerPort.set_get {α : Type} (v : PerPort α) (p : PortId) : v.set p (v.get p) = v := by
  cases p <;> rfl

/-- A port update that changes nothing is none. -/
theorem updPort_same (s : State) (p : PortId) (f : PortRecord → PortRecord)
    (h : f (s.lpu.ports.get p) = s.lpu.ports.get p) : s.updPort p f = s := by
  simp [State.updPort, State.updLpu, h]

/-- Two updates of one port are one. -/
@[simp] theorem updPort_updPort (s : State) (p : PortId) (f g : PortRecord → PortRecord) :
    (s.updPort p f).updPort p g = s.updPort p (fun r => g (f r)) := by
  simp only [State.updPort, updLpu_updLpu, PerPort.get_set_self]
  congr 1
  funext l
  cases p <;> rfl

/-! ### A port at rest -/

/-- At rest: the transmitter idle, the queue empty (R175, R177). -/
theorem portAtRest_iff (s : State) (p : PortId) :
    s.portAtRest p = true ↔ (s.lpu.ports.get p).tx = none ∧ (s.lpu.ports.get p).queue = [] := by
  simp [State.portAtRest]

/-- Nothing is taken from an empty queue. -/
theorem takeOldest_empty {s : State} {p : PortId} (h : (s.lpu.ports.get p).queue = []) : takeOldest p s = s := by
  simp [takeOldest, h]

/-- No reply begins while the queue is empty. -/
theorem beginReply_empty {s : State} {p : PortId} (h : (s.lpu.ports.get p).queue = []) : beginReply p s = s := by
  unfold beginReply; split <;> simp_all

/-- A port with an empty queue has nothing to do. -/
theorem servePort_empty {s : State} {p : PortId} (h : (s.lpu.ports.get p).queue = []) : servePort p s = s := by
  simp [servePort, takeOldest_empty h, beginReply_empty h]

/-- The end of a reply on a port with an empty queue leaves the transmitter idle, and nothing else (R177). -/
theorem endReply_empty {s : State} {p : PortId} (h : (s.lpu.ports.get p).queue = []) :
    endReply p s = s.updPort p (fun r => { r with tx := none }) := by
  apply servePort_empty
  simpa using h

/-- On a port at rest there is nothing to finish. -/
theorem finishReplies_at_rest {s : State} {p : PortId} (h : s.portAtRest p = true) : finishReplies p s = s := by
  obtain ⟨ht, hq⟩ := (portAtRest_iff s p).mp h
  have he : endReply p s = s := by
    rw [endReply_empty hq]
    apply updPort_same
    cases hr : s.lpu.ports.get p
    simp_all
  simp [finishReplies, he]

/-! ### Request rows -/

/-- Every request is of one of the 23 kinds (Table 10-3). -/
@[simp] theorem knownKind_kind (r : Request) : knownKind r.kind = true := by
  cases r <;> rfl

/-- A request row on a port at rest that passes the tests of R176: the owner's effect, and the reply begun. -/
theorem takeRow_at_rest {s : State} {p : PortId} {r : Request} (h : s.portAtRest p = true)
    (hp : permitted p r.kind = true) (he : encodingOk r = true) :
    takeRow p r s =
      sendReply p (BitVec.ofNat 8 r.kind) (dispatch p r (portHeard p s)).1 (dispatch p r (portHeard p s)).2 := by
  simp [takeRow, finishReplies_at_rest h, takeTested, hp, he]

/-- A request row on a port that may not send the kind (R176, test 2). -/
theorem takeRow_wrongPort {s : State} {p : PortId} {r : Request} (h : s.portAtRest p = true)
    (hp : permitted p r.kind = false) :
    takeRow p r s = sendReply p (BitVec.ofNat 8 r.kind) (.fixed [4]) (portHeard p s) := by
  simp [takeRow, finishReplies_at_rest h, takeTested, hp, plain, Status.encode, enc1]

/-- A request row with a field that its encoding does not define (R176, test 3). -/
theorem takeRow_badArgument {s : State} {p : PortId} {r : Request} (h : s.portAtRest p = true)
    (hp : permitted p r.kind = true) (he : encodingOk r = false) :
    takeRow p r s = sendReply p (BitVec.ofNat 8 r.kind) (.fixed [3]) (portHeard p s) := by
  simp [takeRow, finishReplies_at_rest h, takeTested, hp, he, plain, Status.encode, enc1]

/-! ### Properties that the rows of the ports keep -/

/-- A property that the port layer keeps: it says nothing of a port's record, and the taking of a frame, every owner
and the counting of orders keep it. -/
structure PortClosed (P : State → Prop) : Prop where
  port  : ∀ p f s, P s → P (s.updPort p f)
  heard : ∀ p s, P s → P (portHeard p s)
  owner : ∀ p r s, P s → P (dispatch p r s).2
  order : ∀ c s, P s → P (countOrder c s)

section
variable {P : State → Prop}

theorem takeTested_keeps_of (hc : PortClosed P) (p : PortId) (kind : Nat) (r : Option Request) (s : State)
    (h : P s) : P (takeTested p kind r s).2 := by
  have hh := hc.heard p s h
  simp only [takeTested]
  split
  · exact hh
  · split
    · exact hh
    · split
      · exact hh
      · split
        · exact hc.owner _ _ _ hh
        · exact hh

theorem sendReply_keeps_of (hc : PortClosed P) (p : PortId) (kind : Byte) (b : ReplyBody) (s : State) (h : P s) :
    P (sendReply p kind b s) := by
  unfold sendReply
  split
  · exact hc.port _ _ _ h
  · exact hc.order _ _ (hc.port _ _ _ h)

theorem takeOldest_keeps_of (hc : PortClosed P) (p : PortId) (s : State) (h : P s) : P (takeOldest p s) := by
  unfold takeOldest
  split
  · exact hc.port _ _ _ (takeTested_keeps_of hc _ _ _ _ h)
  · exact h

theorem beginReply_keeps_of (hc : PortClosed P) (p : PortId) (s : State) (h : P s) : P (beginReply p s) := by
  unfold beginReply
  split
  · exact sendReply_keeps_of hc _ _ _ _ (hc.port _ _ _ h)
  · exact h

theorem servePort_keeps_of (hc : PortClosed P) (p : PortId) (s : State) (h : P s) : P (servePort p s) :=
  takeOldest_keeps_of hc _ _ (beginReply_keeps_of hc _ _ (takeOldest_keeps_of hc _ _ h))

theorem endReply_keeps_of (hc : PortClosed P) (p : PortId) (s : State) (h : P s) : P (endReply p s) :=
  servePort_keeps_of hc _ _ (hc.port _ _ _ h)

theorem takeRow_keeps_of (hc : PortClosed P) (p : PortId) (r : Request) (s : State) (h : P s) :
    P (takeRow p r s) :=
  sendReply_keeps_of hc _ _ _ _ (takeTested_keeps_of hc _ _ _ _
    (endReply_keeps_of hc _ _ (endReply_keeps_of hc _ _ (endReply_keeps_of hc _ _ h))))

theorem joinFrame_keeps_of (hc : PortClosed P) (p : PortId) (kind : Byte) (payload : List Byte) (s : State)
    (h : P s) : P (joinFrame p kind payload s) := by
  unfold joinFrame
  split
  · exact servePort_keeps_of hc _ _ (hc.port _ _ _ h)
  · exact h

theorem receive_keeps_of (hc : PortClosed P) (p : PortId) (b : Byte) (s : State) (h : P s) :
    P (receive p b s) := by
  simp only [receive]
  split
  · exact h
  · split
    · split
      · exact hc.port _ _ _ h
      · exact h
    · split
      · exact hc.port _ _ _ h
      · exact hc.port _ _ _ h
    · split
      · simp only [completeFrame]
        split
        · split
          · exact joinFrame_keeps_of hc _ _ _ _ (hc.port _ _ _ h)
          · exact hc.port _ _ _ h
        · exact hc.port _ _ _ h
      · exact hc.port _ _ _ h

end

/-- A row that goes through a port: a request, or a happening on its line. -/
def portRow : Instr → Bool
  | .frameComplete _ _ | .frameGap _ | .framingError _ | .breakDetected _ | .replyEnd _ => true
  | .receivedByte _ _ | .lineReturnedHigh _ => true
  | c => (requestOf c).isSome

/-- A property that the port layer keeps is kept by every row that goes through a port. -/
theorem portRow_keeps_of {P : State → Prop} (hc : PortClosed P) {c : Instr} {s t : State} (hr : portRow c = true)
    (h : P s) (hx : exec c s = .next t) : P t := by
  cases c <;> simp [portRow, requestOf] at hr <;> simp only [exec, Host.Outcome.next.injEq, execFrameComplete,
    execFrameGap, execFramingError, execBreak, execReplyEnd, execReceivedByte, execLineReturnedHigh, execStatus,
    execEvents, execSubscribe, execStart, execResume, execStop, execEmergency, execAcknowledge, execMode,
    execModeConfig, execServiceOn, execServiceOff, execTimeSet, execHaltCall, execHaltCancel, execInspectMove,
    execChannelServiceRemove, execChannelServiceRestore, execTableWrite, execTableRead, execCommit, execCarReport,
    execTicket, execPassage, execStationStatus] at hx <;> subst hx
  all_goals first
    | exact takeRow_keeps_of hc _ _ _ h
    | exact hc.port _ _ _ h
    | exact endReply_keeps_of hc _ _ h
    | exact receive_keeps_of hc _ _ _ h
    | (split
       · exact receive_keeps_of hc _ _ _ h
       · exact h)

end Sys2Proof.Machine
end

