-- ==== Sys2Proof/Laws/Owners.lean ====
section
/-! SUPPORT. What each operation of the blocks' own files leaves alone, of the state and inside the blocks. -/

namespace Sys2Proof.Machine

/-! ### Position -/

@[simp] theorem updCarRecord_keeps (c : Car) (f : CarRecord → CarRecord) (s : State) :
    (s.updCarRecord c f).lts = s.lts ∧ (s.updCarRecord c f).rmu = s.rmu ∧ (s.updCarRecord c f).tsq = s.tsq ∧
    (s.updCarRecord c f).srg = s.srg ∧ (s.updCarRecord c f).obs = s.obs ∧ (s.updCarRecord c f).dru = s.dru ∧
    (s.updCarRecord c f).bcu = s.bcu ∧ (s.updCarRecord c f).lpu = s.lpu ∧ (s.updCarRecord c f).clock = s.clock ∧
    (s.updCarRecord c f).timeOfDay = s.timeOfDay ∧ (s.updCarRecord c f).minuteMs = s.minuteMs ∧
    (s.updCarRecord c f).freeIndex = s.freeIndex ∧ (s.updCarRecord c f).pending = s.pending ∧
    (s.updCarRecord c f).cpt.target = s.cpt.target := by
  simp [State.updCarRecord]

@[simp] theorem setLastMarker_keeps (c : Car) (r : CarReport) (e : Int) (x : MarkerResult) (s : State) :
    (setLastMarker c r e x s).lts = s.lts ∧ (setLastMarker c r e x s).rmu = s.rmu ∧
    (setLastMarker c r e x s).tsq = s.tsq ∧ (setLastMarker c r e x s).srg = s.srg ∧
    (setLastMarker c r e x s).obs = s.obs ∧ (setLastMarker c r e x s).dru = s.dru ∧
    (setLastMarker c r e x s).bcu = s.bcu ∧ (setLastMarker c r e x s).lpu = s.lpu ∧
    (setLastMarker c r e x s).clock = s.clock ∧ (setLastMarker c r e x s).timeOfDay = s.timeOfDay ∧
    (setLastMarker c r e x s).minuteMs = s.minuteMs ∧ (setLastMarker c r e x s).freeIndex = s.freeIndex ∧
    (setLastMarker c r e x s).pending = s.pending ∧ (setLastMarker c r e x s).cpt.target = s.cpt.target := by
  simp [setLastMarker]

@[simp] theorem home_keeps (c : Car) (r : CarReport) (m : Int) (s : State) :
    (home c r m s).lts = s.lts ∧ (home c r m s).srg = s.srg ∧ (home c r m s).obs = s.obs ∧
    (home c r m s).dru = s.dru ∧ (home c r m s).bcu = s.bcu ∧ (home c r m s).lpu = s.lpu ∧
    (home c r m s).clock = s.clock ∧ (home c r m s).timeOfDay = s.timeOfDay ∧
    (home c r m s).minuteMs = s.minuteMs ∧ (home c r m s).freeIndex = s.freeIndex ∧
    (home c r m s).pending = s.pending ∧ (home c r m s).tsq.state = s.tsq.state ∧
    (home c r m s).tsq.step = s.tsq.step ∧ (home c r m s).tsq.resume = s.tsq.resume ∧
    (home c r m s).tsq.phase = s.tsq.phase ∧ (home c r m s).tsq.direction = s.tsq.direction ∧
    (home c r m s).tsq.origin = s.tsq.origin ∧ (home c r m s).tsq.target = s.tsq.target ∧
    (home c r m s).tsq.mode = s.tsq.mode ∧ (home c r m s).tsq.lastChange = s.tsq.lastChange ∧
    (home c r m s).tsq.silent = s.tsq.silent ∧ (home c r m s).tsq.halts = s.tsq.halts ∧
    (home c r m s).tsq.driveRequest = s.tsq.driveRequest ∧ (home c r m s).tsq.warningEnded = s.tsq.warningEnded ∧
    (home c r m s).tsq.closureTimer = s.tsq.closureTimer ∧ (home c r m s).tsq.consoleTimer = s.tsq.consoleTimer ∧
    (home c r m s).tsq.callLines = s.tsq.callLines ∧ (home c r m s).rmu.channels = s.rmu.channels ∧
    (home c r m s).rmu.dx2 = s.rmu.dx2 ∧ (home c r m s).rmu.vSup = s.rmu.vSup ∧
    (home c r m s).rmu.vAvg = s.rmu.vAvg ∧ (home c r m s).rmu.twoChannel = s.rmu.twoChannel ∧
    (home c r m s).rmu.pA = s.rmu.pA ∧ (home c r m s).rmu.p1 = s.rmu.p1 ∧ (home c r m s).rmu.p2 = s.rmu.p2 ∧
    (home c r m s).rmu.dM2 = s.rmu.dM2 ∧ (home c r m s).rmu.dSL = s.rmu.dSL ∧
    (home c r m s).rmu.slipActive = s.rmu.slipActive ∧ (home c r m s).cpt.target = s.cpt.target := by
  simp [home]

@[simp] theorem reconcile_keeps (c : Car) (r : CarReport) (m : Int) (s : State) :
    (reconcile c r m s).lts = s.lts ∧ (reconcile c r m s).clock = s.clock ∧
    (reconcile c r m s).timeOfDay = s.timeOfDay ∧ (reconcile c r m s).minuteMs = s.minuteMs ∧
    (reconcile c r m s).freeIndex = s.freeIndex ∧ (reconcile c r m s).pending = s.pending ∧
    (reconcile c r m s).tsq.direction = s.tsq.direction ∧ (reconcile c r m s).tsq.origin = s.tsq.origin ∧
    (reconcile c r m s).tsq.target = s.tsq.target ∧ (reconcile c r m s).tsq.mode = s.tsq.mode ∧
    (reconcile c r m s).tsq.silent = s.tsq.silent ∧ (reconcile c r m s).tsq.halts = s.tsq.halts ∧
    (reconcile c r m s).tsq.consoleTimer = s.tsq.consoleTimer ∧
    (reconcile c r m s).tsq.callLines = s.tsq.callLines ∧ (reconcile c r m s).srg.band = s.srg.band ∧
    (reconcile c r m s).srg.fRef = s.srg.fRef ∧ (reconcile c r m s).srg.insp = s.srg.insp ∧
    (reconcile c r m s).srg.phase = s.srg.phase ∧ (reconcile c r m s).srg.active = s.srg.active ∧
    (reconcile c r m s).srg.period = s.srg.period ∧ (reconcile c r m s).srg.dir = s.srg.dir ∧
    (reconcile c r m s).obs.fSup = s.obs.fSup ∧ (reconcile c r m s).obs.inspSup = s.obs.inspSup ∧
    (reconcile c r m s).obs.aSup = s.obs.aSup ∧ (reconcile c r m s).obs.direction = s.obs.direction ∧
    (reconcile c r m s).obs.pS = s.obs.pS ∧
    (reconcile c r m s).obs.still = s.obs.still ∧ (reconcile c r m s).obs.stopLatch = s.obs.stopLatch ∧
    (reconcile c r m s).obs.pfail = s.obs.pfail ∧ (reconcile c r m s).obs.carFault = s.obs.carFault ∧
    (reconcile c r m s).rmu.channels = s.rmu.channels ∧ (reconcile c r m s).rmu.x2 = s.rmu.x2 ∧
    (reconcile c r m s).rmu.dx2 = s.rmu.dx2 ∧ (reconcile c r m s).rmu.vSup = s.rmu.vSup ∧
    (reconcile c r m s).rmu.vAvg = s.rmu.vAvg ∧ (reconcile c r m s).rmu.known = s.rmu.known ∧
    (reconcile c r m s).rmu.twoChannel = s.rmu.twoChannel ∧ (reconcile c r m s).rmu.pA = s.rmu.pA ∧
    (reconcile c r m s).rmu.p1 = s.rmu.p1 ∧ (reconcile c r m s).rmu.p2 = s.rmu.p2 ∧
    (reconcile c r m s).rmu.dM2 = s.rmu.dM2 ∧ (reconcile c r m s).rmu.dSL = s.rmu.dSL ∧
    (reconcile c r m s).bcu.loads = s.bcu.loads := by
  simp only [reconcile]; split <;> (try split) <;> simp

@[simp] theorem takeMarker_keeps (c : Car) (r : CarReport) (s : State) :
    (takeMarker c r s).lts = s.lts ∧ (takeMarker c r s).clock = s.clock ∧
    (takeMarker c r s).timeOfDay = s.timeOfDay ∧ (takeMarker c r s).minuteMs = s.minuteMs ∧
    (takeMarker c r s).freeIndex = s.freeIndex ∧ (takeMarker c r s).pending = s.pending ∧
    (takeMarker c r s).tsq.direction = s.tsq.direction ∧ (takeMarker c r s).tsq.origin = s.tsq.origin ∧
    (takeMarker c r s).tsq.target = s.tsq.target ∧ (takeMarker c r s).tsq.mode = s.tsq.mode ∧
    (takeMarker c r s).tsq.silent = s.tsq.silent ∧ (takeMarker c r s).tsq.halts = s.tsq.halts ∧
    (takeMarker c r s).tsq.consoleTimer = s.tsq.consoleTimer ∧ (takeMarker c r s).tsq.callLines = s.tsq.callLines ∧
    (takeMarker c r s).srg.band = s.srg.band ∧ (takeMarker c r s).srg.fRef = s.srg.fRef ∧
    (takeMarker c r s).srg.insp = s.srg.insp ∧ (takeMarker c r s).srg.phase = s.srg.phase ∧
    (takeMarker c r s).srg.active = s.srg.active ∧ (takeMarker c r s).srg.period = s.srg.period ∧
    (takeMarker c r s).srg.dir = s.srg.dir ∧ (takeMarker c r s).obs.fSup = s.obs.fSup ∧
    (takeMarker c r s).obs.inspSup = s.obs.inspSup ∧ (takeMarker c r s).obs.aSup = s.obs.aSup ∧
    (takeMarker c r s).obs.direction = s.obs.direction ∧ (takeMarker c r s).obs.pS = s.obs.pS ∧
    (takeMarker c r s).obs.still = s.obs.still ∧
    (takeMarker c r s).obs.stopLatch = s.obs.stopLatch ∧ (takeMarker c r s).obs.pfail = s.obs.pfail ∧
    (takeMarker c r s).obs.carFault = s.obs.carFault ∧ (takeMarker c r s).rmu.channels = s.rmu.channels ∧
    (takeMarker c r s).rmu.dx2 = s.rmu.dx2 ∧ (takeMarker c r s).rmu.vSup = s.rmu.vSup ∧
    (takeMarker c r s).rmu.vAvg = s.rmu.vAvg ∧ (takeMarker c r s).rmu.twoChannel = s.rmu.twoChannel ∧
    (takeMarker c r s).rmu.pA = s.rmu.pA ∧ (takeMarker c r s).rmu.p1 = s.rmu.p1 ∧
    (takeMarker c r s).rmu.p2 = s.rmu.p2 ∧ (takeMarker c r s).rmu.dM2 = s.rmu.dM2 ∧
    (takeMarker c r s).rmu.dSL = s.rmu.dSL ∧ (takeMarker c r s).bcu.loads = s.bcu.loads := by
  unfold takeMarker; split <;> (try split) <;> (try split) <;> (try split) <;> simp

@[simp] theorem cptReport_keeps (c : Car) (r : CarReport) (s : State) :
    (cptReport c r s).lts = s.lts ∧ (cptReport c r s).clock = s.clock ∧ (cptReport c r s).timeOfDay = s.timeOfDay ∧
    (cptReport c r s).minuteMs = s.minuteMs ∧ (cptReport c r s).freeIndex = s.freeIndex ∧
    (cptReport c r s).pending = s.pending ∧ (cptReport c r s).tsq.direction = s.tsq.direction ∧
    (cptReport c r s).tsq.origin = s.tsq.origin ∧ (cptReport c r s).tsq.target = s.tsq.target ∧
    (cptReport c r s).tsq.mode = s.tsq.mode ∧ (cptReport c r s).tsq.silent = s.tsq.silent ∧
    (cptReport c r s).tsq.halts = s.tsq.halts ∧ (cptReport c r s).tsq.consoleTimer = s.tsq.consoleTimer ∧
    (cptReport c r s).tsq.callLines = s.tsq.callLines ∧ (cptReport c r s).srg.band = s.srg.band ∧
    (cptReport c r s).srg.fRef = s.srg.fRef ∧ (cptReport c r s).srg.insp = s.srg.insp ∧
    (cptReport c r s).srg.phase = s.srg.phase ∧ (cptReport c r s).srg.active = s.srg.active ∧
    (cptReport c r s).srg.period = s.srg.period ∧ (cptReport c r s).srg.dir = s.srg.dir ∧
    (cptReport c r s).obs.fSup = s.obs.fSup ∧ (cptReport c r s).obs.inspSup = s.obs.inspSup ∧
    (cptReport c r s).obs.aSup = s.obs.aSup ∧ (cptReport c r s).obs.direction = s.obs.direction ∧
    (cptReport c r s).obs.pS = s.obs.pS ∧
    (cptReport c r s).obs.still = s.obs.still ∧ (cptReport c r s).obs.stopLatch = s.obs.stopLatch ∧
    (cptReport c r s).obs.pfail = s.obs.pfail ∧ (cptReport c r s).obs.carFault = s.obs.carFault ∧
    (cptReport c r s).rmu.channels = s.rmu.channels ∧ (cptReport c r s).rmu.dx2 = s.rmu.dx2 ∧
    (cptReport c r s).rmu.vSup = s.rmu.vSup ∧ (cptReport c r s).rmu.vAvg = s.rmu.vAvg ∧
    (cptReport c r s).rmu.twoChannel = s.rmu.twoChannel ∧ (cptReport c r s).rmu.pA = s.rmu.pA ∧
    (cptReport c r s).rmu.p1 = s.rmu.p1 ∧ (cptReport c r s).rmu.p2 = s.rmu.p2 ∧
    (cptReport c r s).rmu.dM2 = s.rmu.dM2 ∧ (cptReport c r s).rmu.dSL = s.rmu.dSL ∧
    (cptReport c r s).bcu.loads = s.bcu.loads := by
  simp only [cptReport]; split <;> simp

/-! ### Boarding -/

@[simp] theorem bcuReport_keeps (c : Car) (r : CarReport) (s : State) :
    (bcuReport c r s).lts = s.lts ∧ (bcuReport c r s).rmu = s.rmu ∧ (bcuReport c r s).cpt = s.cpt ∧
    (bcuReport c r s).tsq = s.tsq ∧ (bcuReport c r s).srg = s.srg ∧ (bcuReport c r s).obs = s.obs ∧
    (bcuReport c r s).dru = s.dru ∧ (bcuReport c r s).lpu = s.lpu ∧ (bcuReport c r s).clock = s.clock ∧
    (bcuReport c r s).timeOfDay = s.timeOfDay ∧ (bcuReport c r s).minuteMs = s.minuteMs ∧
    (bcuReport c r s).freeIndex = s.freeIndex ∧ (bcuReport c r s).pending = s.pending ∧
    (bcuReport c r s).bcu.batches = s.bcu.batches := by
  simp [bcuReport]

@[simp] theorem takePassage_keeps (st : Station) (g ref n : Nat) (s : State) :
    (takePassage st g ref n s).2.lts = s.lts ∧ (takePassage st g ref n s).2.cpt = s.cpt ∧
    (takePassage st g ref n s).2.clock = s.clock ∧ (takePassage st g ref n s).2.timeOfDay = s.timeOfDay ∧
    (takePassage st g ref n s).2.minuteMs = s.minuteMs ∧ (takePassage st g ref n s).2.freeIndex = s.freeIndex ∧
    (takePassage st g ref n s).2.pending = s.pending ∧
    (takePassage st g ref n s).2.tsq.direction = s.tsq.direction ∧
    (takePassage st g ref n s).2.tsq.origin = s.tsq.origin ∧ (takePassage st g ref n s).2.tsq.mode = s.tsq.mode ∧
    (takePassage st g ref n s).2.tsq.silent = s.tsq.silent ∧
    (takePassage st g ref n s).2.tsq.consoleTimer = s.tsq.consoleTimer ∧
    (takePassage st g ref n s).2.tsq.callLines = s.tsq.callLines ∧
    (takePassage st g ref n s).2.srg.vTgt = s.srg.vTgt ∧ (takePassage st g ref n s).2.srg.phase = s.srg.phase ∧
    (takePassage st g ref n s).2.srg.active = s.srg.active ∧
    (takePassage st g ref n s).2.srg.period = s.srg.period ∧ (takePassage st g ref n s).2.obs.pS = s.obs.pS ∧
    (takePassage st g ref n s).2.obs.still = s.obs.still ∧
    (takePassage st g ref n s).2.obs.causes = s.obs.causes ∧
    (takePassage st g ref n s).2.obs.trippedFrom = s.obs.trippedFrom ∧
    (takePassage st g ref n s).2.obs.stopLatch = s.obs.stopLatch ∧
    (takePassage st g ref n s).2.obs.railBrake = s.obs.railBrake ∧
    (takePassage st g ref n s).2.obs.pfail = s.obs.pfail ∧
    (takePassage st g ref n s).2.obs.carFault = s.obs.carFault ∧ (takePassage st g ref n s).2.rmu.x2 = s.rmu.x2 ∧
    (takePassage st g ref n s).2.rmu.dx2 = s.rmu.dx2 ∧ (takePassage st g ref n s).2.rmu.vSup = s.rmu.vSup ∧
    (takePassage st g ref n s).2.rmu.vAvg = s.rmu.vAvg ∧ (takePassage st g ref n s).2.rmu.known = s.rmu.known ∧
    (takePassage st g ref n s).2.rmu.twoChannel = s.rmu.twoChannel ∧
    (takePassage st g ref n s).2.rmu.pA = s.rmu.pA ∧ (takePassage st g ref n s).2.rmu.p1 = s.rmu.p1 ∧
    (takePassage st g ref n s).2.rmu.p2 = s.rmu.p2 ∧ (takePassage st g ref n s).2.bcu.loads = s.bcu.loads := by
  simp only [takePassage]; split <;> (try split) <;> (try split) <;> simp

/-! ### Doors -/

@[simp] theorem runningCheck_keeps (c : Car) (r : CarReport) (s : State) :
    (runningCheck c r s).lts = s.lts ∧ (runningCheck c r s).clock = s.clock ∧
    (runningCheck c r s).timeOfDay = s.timeOfDay ∧ (runningCheck c r s).minuteMs = s.minuteMs ∧
    (runningCheck c r s).freeIndex = s.freeIndex ∧ (runningCheck c r s).pending = s.pending ∧
    (runningCheck c r s).tsq.direction = s.tsq.direction ∧ (runningCheck c r s).tsq.origin = s.tsq.origin ∧
    (runningCheck c r s).tsq.target = s.tsq.target ∧ (runningCheck c r s).tsq.mode = s.tsq.mode ∧
    (runningCheck c r s).tsq.silent = s.tsq.silent ∧ (runningCheck c r s).tsq.halts = s.tsq.halts ∧
    (runningCheck c r s).tsq.consoleTimer = s.tsq.consoleTimer ∧
    (runningCheck c r s).tsq.callLines = s.tsq.callLines ∧ (runningCheck c r s).srg.band = s.srg.band ∧
    (runningCheck c r s).srg.fRef = s.srg.fRef ∧ (runningCheck c r s).srg.insp = s.srg.insp ∧
    (runningCheck c r s).srg.phase = s.srg.phase ∧ (runningCheck c r s).srg.active = s.srg.active ∧
    (runningCheck c r s).srg.period = s.srg.period ∧ (runningCheck c r s).srg.dir = s.srg.dir ∧
    (runningCheck c r s).obs.fSup = s.obs.fSup ∧ (runningCheck c r s).obs.inspSup = s.obs.inspSup ∧
    (runningCheck c r s).obs.aSup = s.obs.aSup ∧ (runningCheck c r s).obs.direction = s.obs.direction ∧
    (runningCheck c r s).obs.pS = s.obs.pS ∧
    (runningCheck c r s).obs.still = s.obs.still ∧ (runningCheck c r s).obs.stopLatch = s.obs.stopLatch ∧
    (runningCheck c r s).obs.pfail = s.obs.pfail ∧ (runningCheck c r s).obs.carFault = s.obs.carFault ∧
    (runningCheck c r s).rmu.channels = s.rmu.channels ∧ (runningCheck c r s).rmu.x2 = s.rmu.x2 ∧
    (runningCheck c r s).rmu.dx2 = s.rmu.dx2 ∧ (runningCheck c r s).rmu.vSup = s.rmu.vSup ∧
    (runningCheck c r s).rmu.vAvg = s.rmu.vAvg ∧ (runningCheck c r s).rmu.known = s.rmu.known ∧
    (runningCheck c r s).rmu.twoChannel = s.rmu.twoChannel ∧ (runningCheck c r s).rmu.pA = s.rmu.pA ∧
    (runningCheck c r s).rmu.p1 = s.rmu.p1 ∧ (runningCheck c r s).rmu.p2 = s.rmu.p2 ∧
    (runningCheck c r s).rmu.dM2 = s.rmu.dM2 ∧ (runningCheck c r s).rmu.dSL = s.rmu.dSL ∧
    (runningCheck c r s).cpt.cars = s.cpt.cars ∧ (runningCheck c r s).bcu.loads = s.bcu.loads := by
  unfold runningCheck; split <;> simp

@[simp] theorem doorContacts_keeps (c : Car) (r : CarReport) (s : State) :
    (doorContacts c r s).lts = s.lts ∧ (doorContacts c r s).cpt = s.cpt ∧ (doorContacts c r s).clock = s.clock ∧
    (doorContacts c r s).timeOfDay = s.timeOfDay ∧ (doorContacts c r s).minuteMs = s.minuteMs ∧
    (doorContacts c r s).freeIndex = s.freeIndex ∧ (doorContacts c r s).pending = s.pending ∧
    (doorContacts c r s).tsq.direction = s.tsq.direction ∧ (doorContacts c r s).tsq.origin = s.tsq.origin ∧
    (doorContacts c r s).tsq.target = s.tsq.target ∧ (doorContacts c r s).tsq.mode = s.tsq.mode ∧
    (doorContacts c r s).tsq.silent = s.tsq.silent ∧ (doorContacts c r s).tsq.halts = s.tsq.halts ∧
    (doorContacts c r s).tsq.consoleTimer = s.tsq.consoleTimer ∧
    (doorContacts c r s).tsq.callLines = s.tsq.callLines ∧ (doorContacts c r s).srg.vTgt = s.srg.vTgt ∧
    (doorContacts c r s).srg.phase = s.srg.phase ∧ (doorContacts c r s).srg.active = s.srg.active ∧
    (doorContacts c r s).srg.period = s.srg.period ∧ (doorContacts c r s).obs.pS = s.obs.pS ∧
    (doorContacts c r s).obs.still = s.obs.still ∧
    (doorContacts c r s).obs.causes = s.obs.causes ∧ (doorContacts c r s).obs.trippedFrom = s.obs.trippedFrom ∧
    (doorContacts c r s).obs.stopLatch = s.obs.stopLatch ∧ (doorContacts c r s).obs.railBrake = s.obs.railBrake ∧
    (doorContacts c r s).obs.pfail = s.obs.pfail ∧ (doorContacts c r s).obs.carFault = s.obs.carFault ∧
    (doorContacts c r s).rmu.x2 = s.rmu.x2 ∧ (doorContacts c r s).rmu.dx2 = s.rmu.dx2 ∧
    (doorContacts c r s).rmu.vSup = s.rmu.vSup ∧ (doorContacts c r s).rmu.vAvg = s.rmu.vAvg ∧
    (doorContacts c r s).rmu.known = s.rmu.known ∧ (doorContacts c r s).rmu.twoChannel = s.rmu.twoChannel ∧
    (doorContacts c r s).rmu.pA = s.rmu.pA ∧ (doorContacts c r s).rmu.p1 = s.rmu.p1 ∧
    (doorContacts c r s).rmu.p2 = s.rmu.p2 ∧ (doorContacts c r s).bcu.loads = s.bcu.loads := by
  simp only [doorContacts]; split <;> simp

@[simp] theorem druReport_keeps (c : Car) (r : CarReport) (s : State) :
    (druReport c r s).lts = s.lts ∧ (druReport c r s).clock = s.clock ∧ (druReport c r s).timeOfDay = s.timeOfDay ∧
    (druReport c r s).minuteMs = s.minuteMs ∧ (druReport c r s).freeIndex = s.freeIndex ∧
    (druReport c r s).pending = s.pending ∧ (druReport c r s).tsq.direction = s.tsq.direction ∧
    (druReport c r s).tsq.origin = s.tsq.origin ∧ (druReport c r s).tsq.target = s.tsq.target ∧
    (druReport c r s).tsq.mode = s.tsq.mode ∧ (druReport c r s).tsq.silent = s.tsq.silent ∧
    (druReport c r s).tsq.halts = s.tsq.halts ∧ (druReport c r s).tsq.consoleTimer = s.tsq.consoleTimer ∧
    (druReport c r s).tsq.callLines = s.tsq.callLines ∧ (druReport c r s).srg.phase = s.srg.phase ∧
    (druReport c r s).srg.active = s.srg.active ∧ (druReport c r s).srg.period = s.srg.period ∧
    (druReport c r s).obs.pS = s.obs.pS ∧
    (druReport c r s).obs.still = s.obs.still ∧ (druReport c r s).obs.stopLatch = s.obs.stopLatch ∧
    (druReport c r s).obs.pfail = s.obs.pfail ∧ (druReport c r s).obs.carFault = s.obs.carFault ∧
    (druReport c r s).rmu.x2 = s.rmu.x2 ∧ (druReport c r s).rmu.dx2 = s.rmu.dx2 ∧
    (druReport c r s).rmu.vSup = s.rmu.vSup ∧ (druReport c r s).rmu.vAvg = s.rmu.vAvg ∧
    (druReport c r s).rmu.known = s.rmu.known ∧ (druReport c r s).rmu.twoChannel = s.rmu.twoChannel ∧
    (druReport c r s).rmu.pA = s.rmu.pA ∧ (druReport c r s).rmu.p1 = s.rmu.p1 ∧
    (druReport c r s).rmu.p2 = s.rmu.p2 ∧ (druReport c r s).cpt.cars = s.cpt.cars ∧
    (druReport c r s).bcu.loads = s.bcu.loads := by
  simp [druReport]

@[simp] theorem countOrder_keeps (c : Car) (s : State) :
    (countOrder c s).lts = s.lts ∧ (countOrder c s).rmu = s.rmu ∧ (countOrder c s).cpt = s.cpt ∧
    (countOrder c s).tsq = s.tsq ∧ (countOrder c s).srg = s.srg ∧ (countOrder c s).obs = s.obs ∧
    (countOrder c s).bcu = s.bcu ∧ (countOrder c s).lpu = s.lpu ∧ (countOrder c s).clock = s.clock ∧
    (countOrder c s).timeOfDay = s.timeOfDay ∧ (countOrder c s).minuteMs = s.minuteMs ∧
    (countOrder c s).freeIndex = s.freeIndex ∧ (countOrder c s).pending = s.pending := by
  simp [countOrder]

/-! ### Tickets -/

@[simp] theorem takeTicket_keeps (st : Station) (t : Ticket) (s : State) :
    (takeTicket st t s).2.rmu = s.rmu ∧ (takeTicket st t s).2.cpt = s.cpt ∧ (takeTicket st t s).2.tsq = s.tsq ∧
    (takeTicket st t s).2.srg = s.srg ∧ (takeTicket st t s).2.obs = s.obs ∧ (takeTicket st t s).2.dru = s.dru ∧
    (takeTicket st t s).2.clock = s.clock ∧ (takeTicket st t s).2.timeOfDay = s.timeOfDay ∧
    (takeTicket st t s).2.minuteMs = s.minuteMs ∧ (takeTicket st t s).2.freeIndex = s.freeIndex ∧
    (takeTicket st t s).2.pending = s.pending ∧ (takeTicket st t s).2.bcu.loads = s.bcu.loads := by
  simp only [takeTicket]; split <;> simp

/-! ### Reference -/

@[simp] theorem computeReference_keeps (d : Int) (s : State) :
    (computeReference d s).lts = s.lts ∧ (computeReference d s).rmu = s.rmu ∧ (computeReference d s).cpt = s.cpt ∧
    (computeReference d s).tsq = s.tsq ∧ (computeReference d s).obs = s.obs ∧ (computeReference d s).dru = s.dru ∧
    (computeReference d s).bcu = s.bcu ∧ (computeReference d s).lpu = s.lpu ∧
    (computeReference d s).clock = s.clock ∧ (computeReference d s).timeOfDay = s.timeOfDay ∧
    (computeReference d s).minuteMs = s.minuteMs ∧ (computeReference d s).freeIndex = s.freeIndex ∧
    (computeReference d s).pending = s.pending ∧ (computeReference d s).srg.band = s.srg.band ∧
    (computeReference d s).srg.fRef = s.srg.fRef ∧ (computeReference d s).srg.insp = s.srg.insp ∧
    (computeReference d s).srg.ctlTarget = s.srg.ctlTarget ∧ (computeReference d s).srg.holding = s.srg.holding ∧
    (computeReference d s).srg.active = s.srg.active ∧ (computeReference d s).srg.period = s.srg.period ∧
    (computeReference d s).srg.dir = s.srg.dir ∧ (computeReference d s).srg.dirPending = s.srg.dirPending ∧
    (computeReference d s).srg.warning = s.srg.warning ∧ (computeReference d s).srg.warn = s.srg.warn ∧
    (computeReference d s).srg.frozen = s.srg.frozen := by
  simp [computeReference]

@[simp] theorem rampReference_keeps (s : State) :
    (rampReference s).lts = s.lts ∧ (rampReference s).rmu = s.rmu ∧ (rampReference s).cpt = s.cpt ∧
    (rampReference s).tsq = s.tsq ∧ (rampReference s).obs = s.obs ∧ (rampReference s).dru = s.dru ∧
    (rampReference s).bcu = s.bcu ∧ (rampReference s).lpu = s.lpu ∧ (rampReference s).clock = s.clock ∧
    (rampReference s).timeOfDay = s.timeOfDay ∧ (rampReference s).minuteMs = s.minuteMs ∧
    (rampReference s).freeIndex = s.freeIndex ∧ (rampReference s).pending = s.pending ∧
    (rampReference s).srg.band = s.srg.band ∧ (rampReference s).srg.fRef = s.srg.fRef ∧
    (rampReference s).srg.insp = s.srg.insp ∧ (rampReference s).srg.ctlTarget = s.srg.ctlTarget ∧
    (rampReference s).srg.holding = s.srg.holding ∧ (rampReference s).srg.active = s.srg.active ∧
    (rampReference s).srg.period = s.srg.period ∧ (rampReference s).srg.dir = s.srg.dir ∧
    (rampReference s).srg.dirPending = s.srg.dirPending ∧ (rampReference s).srg.warning = s.srg.warning ∧
    (rampReference s).srg.warn = s.srg.warn ∧ (rampReference s).srg.frozen = s.srg.frozen := by
  simp [rampReference]

@[simp] theorem formReference_keeps (s : State) :
    (formReference s).lts = s.lts ∧ (formReference s).rmu = s.rmu ∧ (formReference s).cpt = s.cpt ∧
    (formReference s).tsq = s.tsq ∧ (formReference s).obs = s.obs ∧ (formReference s).dru = s.dru ∧
    (formReference s).bcu = s.bcu ∧ (formReference s).lpu = s.lpu ∧ (formReference s).clock = s.clock ∧
    (formReference s).timeOfDay = s.timeOfDay ∧ (formReference s).minuteMs = s.minuteMs ∧
    (formReference s).freeIndex = s.freeIndex ∧ (formReference s).pending = s.pending ∧
    (formReference s).srg.band = s.srg.band ∧ (formReference s).srg.fRef = s.srg.fRef ∧
    (formReference s).srg.insp = s.srg.insp ∧ (formReference s).srg.ctlTarget = s.srg.ctlTarget ∧
    (formReference s).srg.holding = s.srg.holding ∧ (formReference s).srg.active = s.srg.active ∧
    (formReference s).srg.period = s.srg.period ∧ (formReference s).srg.dir = s.srg.dir ∧
    (formReference s).srg.dirPending = s.srg.dirPending ∧ (formReference s).srg.warning = s.srg.warning ∧
    (formReference s).srg.warn = s.srg.warn ∧ (formReference s).srg.frozen = s.srg.frozen := by
  unfold formReference; split <;> (try split) <;> simp

@[simp] theorem writeDuty_keeps (s : State) :
    (writeDuty s).lts = s.lts ∧ (writeDuty s).rmu = s.rmu ∧ (writeDuty s).cpt = s.cpt ∧ (writeDuty s).tsq = s.tsq ∧
    (writeDuty s).obs = s.obs ∧ (writeDuty s).dru = s.dru ∧ (writeDuty s).bcu = s.bcu ∧ (writeDuty s).lpu = s.lpu ∧
    (writeDuty s).clock = s.clock ∧ (writeDuty s).timeOfDay = s.timeOfDay ∧ (writeDuty s).minuteMs = s.minuteMs ∧
    (writeDuty s).freeIndex = s.freeIndex ∧ (writeDuty s).pending = s.pending ∧
    (writeDuty s).srg.vRef = s.srg.vRef ∧ (writeDuty s).srg.vTgt = s.srg.vTgt ∧
    (writeDuty s).srg.band = s.srg.band ∧ (writeDuty s).srg.fRef = s.srg.fRef ∧
    (writeDuty s).srg.insp = s.srg.insp ∧ (writeDuty s).srg.phase = s.srg.phase ∧
    (writeDuty s).srg.ctlTarget = s.srg.ctlTarget ∧ (writeDuty s).srg.active = s.srg.active ∧
    (writeDuty s).srg.period = s.srg.period ∧ (writeDuty s).srg.dir = s.srg.dir ∧
    (writeDuty s).srg.dirPending = s.srg.dirPending ∧ (writeDuty s).srg.warning = s.srg.warning ∧
    (writeDuty s).srg.warn = s.srg.warn ∧ (writeDuty s).srg.frozen = s.srg.frozen := by
  simp [writeDuty]

@[simp] theorem handPhase_keeps (s : State) :
    (handPhase s).lts = s.lts ∧ (handPhase s).rmu = s.rmu ∧ (handPhase s).srg = s.srg ∧ (handPhase s).obs = s.obs ∧
    (handPhase s).dru = s.dru ∧ (handPhase s).bcu = s.bcu ∧ (handPhase s).lpu = s.lpu ∧
    (handPhase s).clock = s.clock ∧ (handPhase s).timeOfDay = s.timeOfDay ∧ (handPhase s).minuteMs = s.minuteMs ∧
    (handPhase s).freeIndex = s.freeIndex ∧ (handPhase s).pending = s.pending ∧
    (handPhase s).tsq.state = s.tsq.state ∧ (handPhase s).tsq.step = s.tsq.step ∧
    (handPhase s).tsq.resume = s.tsq.resume ∧ (handPhase s).tsq.direction = s.tsq.direction ∧
    (handPhase s).tsq.origin = s.tsq.origin ∧ (handPhase s).tsq.target = s.tsq.target ∧
    (handPhase s).tsq.mode = s.tsq.mode ∧ (handPhase s).tsq.lastChange = s.tsq.lastChange ∧
    (handPhase s).tsq.silent = s.tsq.silent ∧ (handPhase s).tsq.move = s.tsq.move ∧
    (handPhase s).tsq.halts = s.tsq.halts ∧ (handPhase s).tsq.driveRequest = s.tsq.driveRequest ∧
    (handPhase s).tsq.warningEnded = s.tsq.warningEnded ∧ (handPhase s).tsq.closureTimer = s.tsq.closureTimer ∧
    (handPhase s).tsq.consoleTimer = s.tsq.consoleTimer ∧ (handPhase s).tsq.callLines = s.tsq.callLines ∧
    (handPhase s).cpt.cars = s.cpt.cars := by
  simp only [handPhase]; split <;> (try split) <;> simp

@[simp] theorem reportReached_keeps (s : State) :
    (reportReached s).lts = s.lts ∧ (reportReached s).cpt = s.cpt ∧ (reportReached s).clock = s.clock ∧
    (reportReached s).timeOfDay = s.timeOfDay ∧ (reportReached s).minuteMs = s.minuteMs ∧
    (reportReached s).freeIndex = s.freeIndex ∧ (reportReached s).pending = s.pending ∧
    (reportReached s).tsq.direction = s.tsq.direction ∧ (reportReached s).tsq.origin = s.tsq.origin ∧
    (reportReached s).tsq.target = s.tsq.target ∧ (reportReached s).tsq.mode = s.tsq.mode ∧
    (reportReached s).tsq.silent = s.tsq.silent ∧ (reportReached s).tsq.halts = s.tsq.halts ∧
    (reportReached s).tsq.consoleTimer = s.tsq.consoleTimer ∧ (reportReached s).tsq.callLines = s.tsq.callLines ∧
    (reportReached s).srg.vTgt = s.srg.vTgt ∧ (reportReached s).srg.band = s.srg.band ∧
    (reportReached s).srg.fRef = s.srg.fRef ∧ (reportReached s).srg.insp = s.srg.insp ∧
    (reportReached s).srg.phase = s.srg.phase ∧ (reportReached s).srg.active = s.srg.active ∧
    (reportReached s).srg.period = s.srg.period ∧ (reportReached s).srg.dir = s.srg.dir ∧
    (reportReached s).obs.fSup = s.obs.fSup ∧ (reportReached s).obs.inspSup = s.obs.inspSup ∧
    (reportReached s).obs.aSup = s.obs.aSup ∧ (reportReached s).obs.direction = s.obs.direction ∧
    (reportReached s).obs.rE2 = s.obs.rE2 ∧ (reportReached s).obs.pS = s.obs.pS ∧
    (reportReached s).obs.still = s.obs.still ∧
    (reportReached s).obs.causes = s.obs.causes ∧ (reportReached s).obs.trippedFrom = s.obs.trippedFrom ∧
    (reportReached s).obs.stopLatch = s.obs.stopLatch ∧ (reportReached s).obs.brakes = s.obs.brakes ∧
    (reportReached s).obs.railBrake = s.obs.railBrake ∧ (reportReached s).obs.pfail = s.obs.pfail ∧
    (reportReached s).obs.carFault = s.obs.carFault ∧ (reportReached s).rmu.channels = s.rmu.channels ∧
    (reportReached s).rmu.x2 = s.rmu.x2 ∧ (reportReached s).rmu.dx2 = s.rmu.dx2 ∧
    (reportReached s).rmu.vSup = s.rmu.vSup ∧ (reportReached s).rmu.vAvg = s.rmu.vAvg ∧
    (reportReached s).rmu.known = s.rmu.known ∧ (reportReached s).rmu.twoChannel = s.rmu.twoChannel ∧
    (reportReached s).rmu.pA = s.rmu.pA ∧ (reportReached s).rmu.p1 = s.rmu.p1 ∧
    (reportReached s).rmu.p2 = s.rmu.p2 ∧ (reportReached s).rmu.dM2 = s.rmu.dM2 ∧
    (reportReached s).rmu.dSL = s.rmu.dSL ∧ (reportReached s).bcu.loads = s.bcu.loads := by
  unfold reportReached; split <;> (try split) <;> simp

@[simp] theorem srgSample_keeps (s : State) :
    (srgSample s).lts = s.lts ∧ (srgSample s).clock = s.clock ∧ (srgSample s).timeOfDay = s.timeOfDay ∧
    (srgSample s).minuteMs = s.minuteMs ∧ (srgSample s).freeIndex = s.freeIndex ∧
    (srgSample s).pending = s.pending ∧ (srgSample s).tsq.direction = s.tsq.direction ∧
    (srgSample s).tsq.origin = s.tsq.origin ∧ (srgSample s).tsq.target = s.tsq.target ∧
    (srgSample s).tsq.mode = s.tsq.mode ∧ (srgSample s).tsq.silent = s.tsq.silent ∧
    (srgSample s).tsq.halts = s.tsq.halts ∧ (srgSample s).tsq.consoleTimer = s.tsq.consoleTimer ∧
    (srgSample s).tsq.callLines = s.tsq.callLines ∧ (srgSample s).srg.band = s.srg.band ∧
    (srgSample s).srg.fRef = s.srg.fRef ∧ (srgSample s).srg.insp = s.srg.insp ∧
    (srgSample s).srg.active = s.srg.active ∧ (srgSample s).srg.period = s.srg.period ∧
    (srgSample s).srg.dir = s.srg.dir ∧ (srgSample s).obs.fSup = s.obs.fSup ∧
    (srgSample s).obs.inspSup = s.obs.inspSup ∧ (srgSample s).obs.aSup = s.obs.aSup ∧
    (srgSample s).obs.direction = s.obs.direction ∧ (srgSample s).obs.rE2 = s.obs.rE2 ∧
    (srgSample s).obs.pS = s.obs.pS ∧
    (srgSample s).obs.still = s.obs.still ∧ (srgSample s).obs.causes = s.obs.causes ∧
    (srgSample s).obs.trippedFrom = s.obs.trippedFrom ∧ (srgSample s).obs.stopLatch = s.obs.stopLatch ∧
    (srgSample s).obs.brakes = s.obs.brakes ∧ (srgSample s).obs.railBrake = s.obs.railBrake ∧
    (srgSample s).obs.pfail = s.obs.pfail ∧ (srgSample s).obs.carFault = s.obs.carFault ∧
    (srgSample s).rmu.channels = s.rmu.channels ∧ (srgSample s).rmu.x2 = s.rmu.x2 ∧
    (srgSample s).rmu.dx2 = s.rmu.dx2 ∧ (srgSample s).rmu.vSup = s.rmu.vSup ∧ (srgSample s).rmu.vAvg = s.rmu.vAvg ∧
    (srgSample s).rmu.known = s.rmu.known ∧ (srgSample s).rmu.twoChannel = s.rmu.twoChannel ∧
    (srgSample s).rmu.pA = s.rmu.pA ∧ (srgSample s).rmu.p1 = s.rmu.p1 ∧ (srgSample s).rmu.p2 = s.rmu.p2 ∧
    (srgSample s).rmu.dM2 = s.rmu.dM2 ∧ (srgSample s).rmu.dSL = s.rmu.dSL ∧ (srgSample s).cpt.cars = s.cpt.cars ∧
    (srgSample s).bcu.loads = s.bcu.loads := by
  simp only [srgSample]; split <;> simp

/-! ### Supervision -/

@[simp] theorem formPermitted_keeps (s : State) :
    (formPermitted s).lts = s.lts ∧ (formPermitted s).rmu = s.rmu ∧ (formPermitted s).cpt = s.cpt ∧
    (formPermitted s).tsq = s.tsq ∧ (formPermitted s).srg = s.srg ∧ (formPermitted s).dru = s.dru ∧
    (formPermitted s).bcu = s.bcu ∧ (formPermitted s).lpu = s.lpu ∧ (formPermitted s).clock = s.clock ∧
    (formPermitted s).timeOfDay = s.timeOfDay ∧ (formPermitted s).minuteMs = s.minuteMs ∧
    (formPermitted s).freeIndex = s.freeIndex ∧ (formPermitted s).pending = s.pending ∧
    (formPermitted s).obs.envelope = s.obs.envelope ∧ (formPermitted s).obs.fSup = s.obs.fSup ∧
    (formPermitted s).obs.inspSup = s.obs.inspSup ∧ (formPermitted s).obs.aSup = s.obs.aSup ∧
    (formPermitted s).obs.direction = s.obs.direction ∧ (formPermitted s).obs.endpoint = s.obs.endpoint ∧
    (formPermitted s).obs.eFrom = s.obs.eFrom ∧ (formPermitted s).obs.ctlStop = s.obs.ctlStop ∧
    (formPermitted s).obs.excursion = s.obs.excursion ∧ (formPermitted s).obs.pS = s.obs.pS ∧
    (formPermitted s).obs.still = s.obs.still ∧
    (formPermitted s).obs.rollback = s.obs.rollback ∧ (formPermitted s).obs.causes = s.obs.causes ∧
    (formPermitted s).obs.trippedFrom = s.obs.trippedFrom ∧ (formPermitted s).obs.stopLatch = s.obs.stopLatch ∧
    (formPermitted s).obs.brakes = s.obs.brakes ∧ (formPermitted s).obs.railBrake = s.obs.railBrake ∧
    (formPermitted s).obs.pfail = s.obs.pfail ∧ (formPermitted s).obs.carFault = s.obs.carFault ∧
    (formPermitted s).obs.liftPending = s.obs.liftPending ∧
    (formPermitted s).obs.applyPending = s.obs.applyPending := by
  simp only [formPermitted]; split <;> simp

@[simp] theorem excursionMark_keeps (b : Bool) (s : State) :
    (excursionMark b s).lts = s.lts ∧ (excursionMark b s).rmu = s.rmu ∧ (excursionMark b s).cpt = s.cpt ∧
    (excursionMark b s).tsq = s.tsq ∧ (excursionMark b s).srg = s.srg ∧ (excursionMark b s).dru = s.dru ∧
    (excursionMark b s).bcu = s.bcu ∧ (excursionMark b s).clock = s.clock ∧
    (excursionMark b s).timeOfDay = s.timeOfDay ∧ (excursionMark b s).minuteMs = s.minuteMs ∧
    (excursionMark b s).freeIndex = s.freeIndex ∧ (excursionMark b s).pending = s.pending ∧
    (excursionMark b s).obs.envelope = s.obs.envelope ∧ (excursionMark b s).obs.fSup = s.obs.fSup ∧
    (excursionMark b s).obs.inspSup = s.obs.inspSup ∧ (excursionMark b s).obs.aSup = s.obs.aSup ∧
    (excursionMark b s).obs.direction = s.obs.direction ∧ (excursionMark b s).obs.endpoint = s.obs.endpoint ∧
    (excursionMark b s).obs.eFrom = s.obs.eFrom ∧ (excursionMark b s).obs.rE2 = s.obs.rE2 ∧
    (excursionMark b s).obs.ctlStop = s.obs.ctlStop ∧ (excursionMark b s).obs.vPerm2 = s.obs.vPerm2 ∧
    (excursionMark b s).obs.pS = s.obs.pS ∧
    (excursionMark b s).obs.still = s.obs.still ∧ (excursionMark b s).obs.rollback = s.obs.rollback ∧
    (excursionMark b s).obs.causes = s.obs.causes ∧ (excursionMark b s).obs.trippedFrom = s.obs.trippedFrom ∧
    (excursionMark b s).obs.stopLatch = s.obs.stopLatch ∧ (excursionMark b s).obs.brakes = s.obs.brakes ∧
    (excursionMark b s).obs.railBrake = s.obs.railBrake ∧ (excursionMark b s).obs.pfail = s.obs.pfail ∧
    (excursionMark b s).obs.carFault = s.obs.carFault ∧ (excursionMark b s).obs.liftPending = s.obs.liftPending ∧
    (excursionMark b s).obs.applyPending = s.obs.applyPending := by
  simp only [excursionMark]; split <;> simp

@[simp] theorem causeIf_keeps (b : Bool) (k : CauseKind) (s : State) :
    (causeIf b k s).lts = s.lts ∧ (causeIf b k s).clock = s.clock ∧ (causeIf b k s).timeOfDay = s.timeOfDay ∧
    (causeIf b k s).minuteMs = s.minuteMs ∧ (causeIf b k s).freeIndex = s.freeIndex ∧
    (causeIf b k s).pending = s.pending ∧ (causeIf b k s).tsq.direction = s.tsq.direction ∧
    (causeIf b k s).tsq.origin = s.tsq.origin ∧ (causeIf b k s).tsq.target = s.tsq.target ∧
    (causeIf b k s).tsq.mode = s.tsq.mode ∧ (causeIf b k s).tsq.silent = s.tsq.silent ∧
    (causeIf b k s).tsq.halts = s.tsq.halts ∧ (causeIf b k s).tsq.consoleTimer = s.tsq.consoleTimer ∧
    (causeIf b k s).tsq.callLines = s.tsq.callLines ∧ (causeIf b k s).srg.band = s.srg.band ∧
    (causeIf b k s).srg.fRef = s.srg.fRef ∧ (causeIf b k s).srg.insp = s.srg.insp ∧
    (causeIf b k s).srg.phase = s.srg.phase ∧ (causeIf b k s).srg.active = s.srg.active ∧
    (causeIf b k s).srg.period = s.srg.period ∧ (causeIf b k s).srg.dir = s.srg.dir ∧
    (causeIf b k s).obs.fSup = s.obs.fSup ∧ (causeIf b k s).obs.inspSup = s.obs.inspSup ∧
    (causeIf b k s).obs.aSup = s.obs.aSup ∧ (causeIf b k s).obs.direction = s.obs.direction ∧
    (causeIf b k s).obs.pS = s.obs.pS ∧
    (causeIf b k s).obs.still = s.obs.still ∧ (causeIf b k s).obs.stopLatch = s.obs.stopLatch ∧
    (causeIf b k s).obs.pfail = s.obs.pfail ∧ (causeIf b k s).obs.carFault = s.obs.carFault ∧
    (causeIf b k s).rmu.channels = s.rmu.channels ∧ (causeIf b k s).rmu.x2 = s.rmu.x2 ∧
    (causeIf b k s).rmu.dx2 = s.rmu.dx2 ∧ (causeIf b k s).rmu.vSup = s.rmu.vSup ∧
    (causeIf b k s).rmu.vAvg = s.rmu.vAvg ∧ (causeIf b k s).rmu.known = s.rmu.known ∧
    (causeIf b k s).rmu.twoChannel = s.rmu.twoChannel ∧ (causeIf b k s).rmu.pA = s.rmu.pA ∧
    (causeIf b k s).rmu.p1 = s.rmu.p1 ∧ (causeIf b k s).rmu.p2 = s.rmu.p2 ∧ (causeIf b k s).rmu.dM2 = s.rmu.dM2 ∧
    (causeIf b k s).rmu.dSL = s.rmu.dSL ∧ (causeIf b k s).cpt.cars = s.cpt.cars ∧
    (causeIf b k s).bcu.loads = s.bcu.loads := by
  unfold causeIf; split <;> simp

@[simp] theorem testLevels_keeps (s : State) :
    (testLevels s).lts = s.lts ∧ (testLevels s).clock = s.clock ∧ (testLevels s).timeOfDay = s.timeOfDay ∧
    (testLevels s).minuteMs = s.minuteMs ∧ (testLevels s).freeIndex = s.freeIndex ∧
    (testLevels s).pending = s.pending ∧ (testLevels s).tsq.direction = s.tsq.direction ∧
    (testLevels s).tsq.origin = s.tsq.origin ∧ (testLevels s).tsq.target = s.tsq.target ∧
    (testLevels s).tsq.mode = s.tsq.mode ∧ (testLevels s).tsq.silent = s.tsq.silent ∧
    (testLevels s).tsq.halts = s.tsq.halts ∧ (testLevels s).tsq.consoleTimer = s.tsq.consoleTimer ∧
    (testLevels s).tsq.callLines = s.tsq.callLines ∧ (testLevels s).srg.band = s.srg.band ∧
    (testLevels s).srg.fRef = s.srg.fRef ∧ (testLevels s).srg.insp = s.srg.insp ∧
    (testLevels s).srg.phase = s.srg.phase ∧ (testLevels s).srg.active = s.srg.active ∧
    (testLevels s).srg.period = s.srg.period ∧ (testLevels s).srg.dir = s.srg.dir ∧
    (testLevels s).obs.fSup = s.obs.fSup ∧ (testLevels s).obs.inspSup = s.obs.inspSup ∧
    (testLevels s).obs.aSup = s.obs.aSup ∧ (testLevels s).obs.direction = s.obs.direction ∧
    (testLevels s).obs.pS = s.obs.pS ∧
    (testLevels s).obs.still = s.obs.still ∧ (testLevels s).obs.stopLatch = s.obs.stopLatch ∧
    (testLevels s).obs.pfail = s.obs.pfail ∧ (testLevels s).obs.carFault = s.obs.carFault ∧
    (testLevels s).rmu.channels = s.rmu.channels ∧ (testLevels s).rmu.x2 = s.rmu.x2 ∧
    (testLevels s).rmu.dx2 = s.rmu.dx2 ∧ (testLevels s).rmu.vSup = s.rmu.vSup ∧
    (testLevels s).rmu.vAvg = s.rmu.vAvg ∧ (testLevels s).rmu.known = s.rmu.known ∧
    (testLevels s).rmu.twoChannel = s.rmu.twoChannel ∧ (testLevels s).rmu.pA = s.rmu.pA ∧
    (testLevels s).rmu.p1 = s.rmu.p1 ∧ (testLevels s).rmu.p2 = s.rmu.p2 ∧ (testLevels s).rmu.dM2 = s.rmu.dM2 ∧
    (testLevels s).rmu.dSL = s.rmu.dSL ∧ (testLevels s).cpt.cars = s.cpt.cars ∧
    (testLevels s).bcu.loads = s.bcu.loads := by
  simp only [testLevels]; split <;> simp

@[simp] theorem testRollback_keeps (s : State) :
    (testRollback s).lts = s.lts ∧ (testRollback s).clock = s.clock ∧ (testRollback s).timeOfDay = s.timeOfDay ∧
    (testRollback s).minuteMs = s.minuteMs ∧ (testRollback s).freeIndex = s.freeIndex ∧
    (testRollback s).pending = s.pending ∧ (testRollback s).tsq.direction = s.tsq.direction ∧
    (testRollback s).tsq.origin = s.tsq.origin ∧ (testRollback s).tsq.target = s.tsq.target ∧
    (testRollback s).tsq.mode = s.tsq.mode ∧ (testRollback s).tsq.silent = s.tsq.silent ∧
    (testRollback s).tsq.halts = s.tsq.halts ∧ (testRollback s).tsq.consoleTimer = s.tsq.consoleTimer ∧
    (testRollback s).tsq.callLines = s.tsq.callLines ∧ (testRollback s).srg.band = s.srg.band ∧
    (testRollback s).srg.fRef = s.srg.fRef ∧ (testRollback s).srg.insp = s.srg.insp ∧
    (testRollback s).srg.phase = s.srg.phase ∧ (testRollback s).srg.active = s.srg.active ∧
    (testRollback s).srg.period = s.srg.period ∧ (testRollback s).srg.dir = s.srg.dir ∧
    (testRollback s).obs.fSup = s.obs.fSup ∧ (testRollback s).obs.inspSup = s.obs.inspSup ∧
    (testRollback s).obs.aSup = s.obs.aSup ∧ (testRollback s).obs.direction = s.obs.direction ∧
    (testRollback s).obs.pS = s.obs.pS ∧
    (testRollback s).obs.still = s.obs.still ∧ (testRollback s).obs.stopLatch = s.obs.stopLatch ∧
    (testRollback s).obs.pfail = s.obs.pfail ∧ (testRollback s).obs.carFault = s.obs.carFault ∧
    (testRollback s).rmu.channels = s.rmu.channels ∧ (testRollback s).rmu.x2 = s.rmu.x2 ∧
    (testRollback s).rmu.dx2 = s.rmu.dx2 ∧ (testRollback s).rmu.vSup = s.rmu.vSup ∧
    (testRollback s).rmu.vAvg = s.rmu.vAvg ∧ (testRollback s).rmu.known = s.rmu.known ∧
    (testRollback s).rmu.twoChannel = s.rmu.twoChannel ∧ (testRollback s).rmu.pA = s.rmu.pA ∧
    (testRollback s).rmu.p1 = s.rmu.p1 ∧ (testRollback s).rmu.p2 = s.rmu.p2 ∧
    (testRollback s).rmu.dM2 = s.rmu.dM2 ∧ (testRollback s).rmu.dSL = s.rmu.dSL ∧
    (testRollback s).cpt.cars = s.cpt.cars ∧ (testRollback s).bcu.loads = s.bcu.loads := by
  simp [testRollback]

@[simp] theorem countStandstill_keeps (s : State) :
    (countStandstill s).lts = s.lts ∧ (countStandstill s).rmu = s.rmu ∧ (countStandstill s).cpt = s.cpt ∧
    (countStandstill s).tsq = s.tsq ∧ (countStandstill s).srg = s.srg ∧ (countStandstill s).dru = s.dru ∧
    (countStandstill s).bcu = s.bcu ∧ (countStandstill s).lpu = s.lpu ∧ (countStandstill s).clock = s.clock ∧
    (countStandstill s).timeOfDay = s.timeOfDay ∧ (countStandstill s).minuteMs = s.minuteMs ∧
    (countStandstill s).freeIndex = s.freeIndex ∧ (countStandstill s).pending = s.pending ∧
    (countStandstill s).obs.envelope = s.obs.envelope ∧ (countStandstill s).obs.fSup = s.obs.fSup ∧
    (countStandstill s).obs.inspSup = s.obs.inspSup ∧ (countStandstill s).obs.aSup = s.obs.aSup ∧
    (countStandstill s).obs.direction = s.obs.direction ∧ (countStandstill s).obs.endpoint = s.obs.endpoint ∧
    (countStandstill s).obs.eFrom = s.obs.eFrom ∧ (countStandstill s).obs.rE2 = s.obs.rE2 ∧
    (countStandstill s).obs.ctlStop = s.obs.ctlStop ∧ (countStandstill s).obs.vPerm2 = s.obs.vPerm2 ∧
    (countStandstill s).obs.excursion = s.obs.excursion ∧ (countStandstill s).obs.rollback = s.obs.rollback ∧
    (countStandstill s).obs.causes = s.obs.causes ∧ (countStandstill s).obs.trippedFrom = s.obs.trippedFrom ∧
    (countStandstill s).obs.stopLatch = s.obs.stopLatch ∧ (countStandstill s).obs.brakes = s.obs.brakes ∧
    (countStandstill s).obs.railBrake = s.obs.railBrake ∧ (countStandstill s).obs.pfail = s.obs.pfail ∧
    (countStandstill s).obs.carFault = s.obs.carFault ∧ (countStandstill s).obs.liftPending = s.obs.liftPending ∧
    (countStandstill s).obs.applyPending = s.obs.applyPending := by
  simp [countStandstill]

@[simp] theorem latchStop_keeps (s : State) :
    (latchStop s).lts = s.lts ∧ (latchStop s).rmu = s.rmu ∧ (latchStop s).cpt = s.cpt ∧ (latchStop s).bcu = s.bcu ∧
    (latchStop s).clock = s.clock ∧ (latchStop s).timeOfDay = s.timeOfDay ∧ (latchStop s).minuteMs = s.minuteMs ∧
    (latchStop s).freeIndex = s.freeIndex ∧ (latchStop s).pending = s.pending ∧
    (latchStop s).tsq.state = s.tsq.state ∧ (latchStop s).tsq.step = s.tsq.step ∧
    (latchStop s).tsq.resume = s.tsq.resume ∧ (latchStop s).tsq.phase = s.tsq.phase ∧
    (latchStop s).tsq.direction = s.tsq.direction ∧ (latchStop s).tsq.origin = s.tsq.origin ∧
    (latchStop s).tsq.target = s.tsq.target ∧ (latchStop s).tsq.mode = s.tsq.mode ∧
    (latchStop s).tsq.lastChange = s.tsq.lastChange ∧ (latchStop s).tsq.silent = s.tsq.silent ∧
    (latchStop s).tsq.move = s.tsq.move ∧ (latchStop s).tsq.halts = s.tsq.halts ∧
    (latchStop s).tsq.warningEnded = s.tsq.warningEnded ∧ (latchStop s).tsq.closureTimer = s.tsq.closureTimer ∧
    (latchStop s).tsq.consoleTimer = s.tsq.consoleTimer ∧ (latchStop s).tsq.callLines = s.tsq.callLines ∧
    (latchStop s).srg.vTgt = s.srg.vTgt ∧ (latchStop s).srg.band = s.srg.band ∧
    (latchStop s).srg.fRef = s.srg.fRef ∧ (latchStop s).srg.insp = s.srg.insp ∧
    (latchStop s).srg.phase = s.srg.phase ∧ (latchStop s).srg.ctlTarget = s.srg.ctlTarget ∧
    (latchStop s).srg.active = s.srg.active ∧ (latchStop s).srg.period = s.srg.period ∧
    (latchStop s).srg.dir = s.srg.dir ∧ (latchStop s).srg.dirPending = s.srg.dirPending ∧
    (latchStop s).srg.warning = s.srg.warning ∧ (latchStop s).srg.warn = s.srg.warn ∧
    (latchStop s).srg.frozen = s.srg.frozen ∧ (latchStop s).obs.envelope = s.obs.envelope ∧
    (latchStop s).obs.fSup = s.obs.fSup ∧ (latchStop s).obs.inspSup = s.obs.inspSup ∧
    (latchStop s).obs.aSup = s.obs.aSup ∧ (latchStop s).obs.direction = s.obs.direction ∧
    (latchStop s).obs.endpoint = s.obs.endpoint ∧ (latchStop s).obs.eFrom = s.obs.eFrom ∧
    (latchStop s).obs.rE2 = s.obs.rE2 ∧ (latchStop s).obs.ctlStop = s.obs.ctlStop ∧
    (latchStop s).obs.vPerm2 = s.obs.vPerm2 ∧ (latchStop s).obs.excursion = s.obs.excursion ∧
    (latchStop s).obs.pS = s.obs.pS ∧
    (latchStop s).obs.still = s.obs.still ∧ (latchStop s).obs.rollback = s.obs.rollback ∧
    (latchStop s).obs.causes = s.obs.causes ∧ (latchStop s).obs.trippedFrom = s.obs.trippedFrom ∧
    (latchStop s).obs.railBrake = s.obs.railBrake ∧ (latchStop s).obs.pfail = s.obs.pfail ∧
    (latchStop s).obs.carFault = s.obs.carFault ∧ (latchStop s).obs.liftPending = s.obs.liftPending ∧
    (latchStop s).obs.applyPending = s.obs.applyPending := by
  unfold latchStop; split <;> simp

@[simp] theorem followTarget_keeps (s : State) :
    (followTarget s).lts = s.lts ∧ (followTarget s).rmu = s.rmu ∧ (followTarget s).cpt = s.cpt ∧
    (followTarget s).tsq = s.tsq ∧ (followTarget s).srg = s.srg ∧ (followTarget s).dru = s.dru ∧
    (followTarget s).bcu = s.bcu ∧ (followTarget s).lpu = s.lpu ∧ (followTarget s).clock = s.clock ∧
    (followTarget s).timeOfDay = s.timeOfDay ∧ (followTarget s).minuteMs = s.minuteMs ∧
    (followTarget s).freeIndex = s.freeIndex ∧ (followTarget s).pending = s.pending ∧
    (followTarget s).obs.envelope = s.obs.envelope ∧ (followTarget s).obs.fSup = s.obs.fSup ∧
    (followTarget s).obs.inspSup = s.obs.inspSup ∧ (followTarget s).obs.aSup = s.obs.aSup ∧
    (followTarget s).obs.direction = s.obs.direction ∧ (followTarget s).obs.ctlStop = s.obs.ctlStop ∧
    (followTarget s).obs.vPerm2 = s.obs.vPerm2 ∧ (followTarget s).obs.excursion = s.obs.excursion ∧
    (followTarget s).obs.pS = s.obs.pS ∧
    (followTarget s).obs.still = s.obs.still ∧ (followTarget s).obs.rollback = s.obs.rollback ∧
    (followTarget s).obs.causes = s.obs.causes ∧ (followTarget s).obs.trippedFrom = s.obs.trippedFrom ∧
    (followTarget s).obs.stopLatch = s.obs.stopLatch ∧ (followTarget s).obs.brakes = s.obs.brakes ∧
    (followTarget s).obs.railBrake = s.obs.railBrake ∧ (followTarget s).obs.pfail = s.obs.pfail ∧
    (followTarget s).obs.carFault = s.obs.carFault ∧ (followTarget s).obs.liftPending = s.obs.liftPending ∧
    (followTarget s).obs.applyPending = s.obs.applyPending := by
  unfold followTarget; split <;> (try split) <;> simp [Obs.endpointFrom]

@[simp] theorem obsSample_keeps (s : State) :
    (obsSample s).lts = s.lts ∧ (obsSample s).clock = s.clock ∧ (obsSample s).timeOfDay = s.timeOfDay ∧
    (obsSample s).minuteMs = s.minuteMs ∧ (obsSample s).freeIndex = s.freeIndex ∧
    (obsSample s).pending = s.pending ∧ (obsSample s).tsq.direction = s.tsq.direction ∧
    (obsSample s).tsq.origin = s.tsq.origin ∧ (obsSample s).tsq.target = s.tsq.target ∧
    (obsSample s).tsq.mode = s.tsq.mode ∧ (obsSample s).tsq.silent = s.tsq.silent ∧
    (obsSample s).tsq.halts = s.tsq.halts ∧ (obsSample s).tsq.consoleTimer = s.tsq.consoleTimer ∧
    (obsSample s).tsq.callLines = s.tsq.callLines ∧ (obsSample s).srg.band = s.srg.band ∧
    (obsSample s).srg.fRef = s.srg.fRef ∧ (obsSample s).srg.insp = s.srg.insp ∧
    (obsSample s).srg.phase = s.srg.phase ∧ (obsSample s).srg.active = s.srg.active ∧
    (obsSample s).srg.period = s.srg.period ∧ (obsSample s).srg.dir = s.srg.dir ∧
    (obsSample s).obs.fSup = s.obs.fSup ∧ (obsSample s).obs.inspSup = s.obs.inspSup ∧
    (obsSample s).obs.aSup = s.obs.aSup ∧ (obsSample s).obs.direction = s.obs.direction ∧
    (obsSample s).obs.pfail = s.obs.pfail ∧ (obsSample s).obs.carFault = s.obs.carFault ∧
    (obsSample s).rmu.channels = s.rmu.channels ∧ (obsSample s).rmu.x2 = s.rmu.x2 ∧
    (obsSample s).rmu.dx2 = s.rmu.dx2 ∧ (obsSample s).rmu.vSup = s.rmu.vSup ∧ (obsSample s).rmu.vAvg = s.rmu.vAvg ∧
    (obsSample s).rmu.known = s.rmu.known ∧ (obsSample s).rmu.twoChannel = s.rmu.twoChannel ∧
    (obsSample s).rmu.pA = s.rmu.pA ∧ (obsSample s).rmu.p1 = s.rmu.p1 ∧ (obsSample s).rmu.p2 = s.rmu.p2 ∧
    (obsSample s).rmu.dM2 = s.rmu.dM2 ∧ (obsSample s).rmu.dSL = s.rmu.dSL ∧ (obsSample s).cpt.cars = s.cpt.cars ∧
    (obsSample s).bcu.loads = s.bcu.loads := by
  simp [obsSample]

@[simp] theorem leaveTripped_keeps (s : State) :
    (leaveTripped s).lts = s.lts ∧ (leaveTripped s).cpt = s.cpt ∧ (leaveTripped s).clock = s.clock ∧
    (leaveTripped s).timeOfDay = s.timeOfDay ∧ (leaveTripped s).minuteMs = s.minuteMs ∧
    (leaveTripped s).freeIndex = s.freeIndex ∧ (leaveTripped s).pending = s.pending ∧
    (leaveTripped s).tsq.direction = s.tsq.direction ∧ (leaveTripped s).tsq.origin = s.tsq.origin ∧
    (leaveTripped s).tsq.mode = s.tsq.mode ∧ (leaveTripped s).tsq.silent = s.tsq.silent ∧
    (leaveTripped s).tsq.consoleTimer = s.tsq.consoleTimer ∧ (leaveTripped s).tsq.callLines = s.tsq.callLines ∧
    (leaveTripped s).srg.vTgt = s.srg.vTgt ∧ (leaveTripped s).srg.band = s.srg.band ∧
    (leaveTripped s).srg.fRef = s.srg.fRef ∧ (leaveTripped s).srg.insp = s.srg.insp ∧
    (leaveTripped s).srg.phase = s.srg.phase ∧ (leaveTripped s).srg.active = s.srg.active ∧
    (leaveTripped s).srg.period = s.srg.period ∧ (leaveTripped s).srg.dir = s.srg.dir ∧
    (leaveTripped s).obs.fSup = s.obs.fSup ∧ (leaveTripped s).obs.inspSup = s.obs.inspSup ∧
    (leaveTripped s).obs.aSup = s.obs.aSup ∧ (leaveTripped s).obs.direction = s.obs.direction ∧
    (leaveTripped s).obs.rE2 = s.obs.rE2 ∧ (leaveTripped s).obs.pS = s.obs.pS ∧
    (leaveTripped s).obs.still = s.obs.still ∧
    (leaveTripped s).obs.causes = s.obs.causes ∧ (leaveTripped s).obs.trippedFrom = s.obs.trippedFrom ∧
    (leaveTripped s).obs.stopLatch = s.obs.stopLatch ∧ (leaveTripped s).obs.brakes = s.obs.brakes ∧
    (leaveTripped s).obs.railBrake = s.obs.railBrake ∧ (leaveTripped s).obs.pfail = s.obs.pfail ∧
    (leaveTripped s).obs.carFault = s.obs.carFault ∧ (leaveTripped s).rmu.channels = s.rmu.channels ∧
    (leaveTripped s).rmu.x2 = s.rmu.x2 ∧ (leaveTripped s).rmu.dx2 = s.rmu.dx2 ∧
    (leaveTripped s).rmu.vSup = s.rmu.vSup ∧ (leaveTripped s).rmu.vAvg = s.rmu.vAvg ∧
    (leaveTripped s).rmu.known = s.rmu.known ∧ (leaveTripped s).rmu.twoChannel = s.rmu.twoChannel ∧
    (leaveTripped s).rmu.pA = s.rmu.pA ∧ (leaveTripped s).rmu.p1 = s.rmu.p1 ∧ (leaveTripped s).rmu.p2 = s.rmu.p2 ∧
    (leaveTripped s).rmu.dM2 = s.rmu.dM2 ∧ (leaveTripped s).rmu.dSL = s.rmu.dSL ∧
    (leaveTripped s).bcu.loads = s.bcu.loads := by
  unfold leaveTripped; split <;> (try split) <;> simp

@[simp] theorem clearCauses_keeps (s : State) :
    (clearCauses s).lts = s.lts ∧ (clearCauses s).cpt = s.cpt ∧ (clearCauses s).clock = s.clock ∧
    (clearCauses s).timeOfDay = s.timeOfDay ∧ (clearCauses s).minuteMs = s.minuteMs ∧
    (clearCauses s).freeIndex = s.freeIndex ∧ (clearCauses s).pending = s.pending ∧
    (clearCauses s).tsq.direction = s.tsq.direction ∧ (clearCauses s).tsq.origin = s.tsq.origin ∧
    (clearCauses s).tsq.mode = s.tsq.mode ∧ (clearCauses s).tsq.silent = s.tsq.silent ∧
    (clearCauses s).tsq.consoleTimer = s.tsq.consoleTimer ∧ (clearCauses s).tsq.callLines = s.tsq.callLines ∧
    (clearCauses s).srg.vTgt = s.srg.vTgt ∧ (clearCauses s).srg.band = s.srg.band ∧
    (clearCauses s).srg.fRef = s.srg.fRef ∧ (clearCauses s).srg.insp = s.srg.insp ∧
    (clearCauses s).srg.phase = s.srg.phase ∧ (clearCauses s).srg.active = s.srg.active ∧
    (clearCauses s).srg.period = s.srg.period ∧ (clearCauses s).srg.dir = s.srg.dir ∧
    (clearCauses s).obs.fSup = s.obs.fSup ∧ (clearCauses s).obs.inspSup = s.obs.inspSup ∧
    (clearCauses s).obs.aSup = s.obs.aSup ∧ (clearCauses s).obs.direction = s.obs.direction ∧
    (clearCauses s).obs.rE2 = s.obs.rE2 ∧ (clearCauses s).obs.pS = s.obs.pS ∧
    (clearCauses s).obs.still = s.obs.still ∧
    (clearCauses s).obs.pfail = s.obs.pfail ∧ (clearCauses s).obs.carFault = s.obs.carFault ∧
    (clearCauses s).rmu.channels = s.rmu.channels ∧ (clearCauses s).rmu.x2 = s.rmu.x2 ∧
    (clearCauses s).rmu.dx2 = s.rmu.dx2 ∧ (clearCauses s).rmu.vSup = s.rmu.vSup ∧
    (clearCauses s).rmu.vAvg = s.rmu.vAvg ∧ (clearCauses s).rmu.known = s.rmu.known ∧
    (clearCauses s).rmu.twoChannel = s.rmu.twoChannel ∧ (clearCauses s).rmu.pA = s.rmu.pA ∧
    (clearCauses s).rmu.p1 = s.rmu.p1 ∧ (clearCauses s).rmu.p2 = s.rmu.p2 ∧ (clearCauses s).rmu.dM2 = s.rmu.dM2 ∧
    (clearCauses s).rmu.dSL = s.rmu.dSL ∧ (clearCauses s).bcu.loads = s.bcu.loads := by
  simp [clearCauses]

@[simp] theorem takeAcknowledge_keeps (s : State) :
    (takeAcknowledge s).2.lts = s.lts ∧ (takeAcknowledge s).2.cpt = s.cpt ∧ (takeAcknowledge s).2.clock = s.clock ∧
    (takeAcknowledge s).2.timeOfDay = s.timeOfDay ∧ (takeAcknowledge s).2.minuteMs = s.minuteMs ∧
    (takeAcknowledge s).2.freeIndex = s.freeIndex ∧ (takeAcknowledge s).2.pending = s.pending ∧
    (takeAcknowledge s).2.tsq.direction = s.tsq.direction ∧ (takeAcknowledge s).2.tsq.origin = s.tsq.origin ∧
    (takeAcknowledge s).2.tsq.mode = s.tsq.mode ∧ (takeAcknowledge s).2.tsq.silent = s.tsq.silent ∧
    (takeAcknowledge s).2.tsq.consoleTimer = s.tsq.consoleTimer ∧
    (takeAcknowledge s).2.tsq.callLines = s.tsq.callLines ∧ (takeAcknowledge s).2.srg.vTgt = s.srg.vTgt ∧
    (takeAcknowledge s).2.srg.band = s.srg.band ∧ (takeAcknowledge s).2.srg.fRef = s.srg.fRef ∧
    (takeAcknowledge s).2.srg.insp = s.srg.insp ∧ (takeAcknowledge s).2.srg.phase = s.srg.phase ∧
    (takeAcknowledge s).2.srg.active = s.srg.active ∧ (takeAcknowledge s).2.srg.period = s.srg.period ∧
    (takeAcknowledge s).2.srg.dir = s.srg.dir ∧ (takeAcknowledge s).2.obs.fSup = s.obs.fSup ∧
    (takeAcknowledge s).2.obs.inspSup = s.obs.inspSup ∧ (takeAcknowledge s).2.obs.aSup = s.obs.aSup ∧
    (takeAcknowledge s).2.obs.direction = s.obs.direction ∧ (takeAcknowledge s).2.obs.rE2 = s.obs.rE2 ∧
    (takeAcknowledge s).2.obs.pS = s.obs.pS ∧
    (takeAcknowledge s).2.obs.still = s.obs.still ∧ (takeAcknowledge s).2.obs.pfail = s.obs.pfail ∧
    (takeAcknowledge s).2.obs.carFault = s.obs.carFault ∧ (takeAcknowledge s).2.rmu.channels = s.rmu.channels ∧
    (takeAcknowledge s).2.rmu.x2 = s.rmu.x2 ∧ (takeAcknowledge s).2.rmu.dx2 = s.rmu.dx2 ∧
    (takeAcknowledge s).2.rmu.vSup = s.rmu.vSup ∧ (takeAcknowledge s).2.rmu.vAvg = s.rmu.vAvg ∧
    (takeAcknowledge s).2.rmu.known = s.rmu.known ∧ (takeAcknowledge s).2.rmu.twoChannel = s.rmu.twoChannel ∧
    (takeAcknowledge s).2.rmu.pA = s.rmu.pA ∧ (takeAcknowledge s).2.rmu.p1 = s.rmu.p1 ∧
    (takeAcknowledge s).2.rmu.p2 = s.rmu.p2 ∧ (takeAcknowledge s).2.rmu.dM2 = s.rmu.dM2 ∧
    (takeAcknowledge s).2.rmu.dSL = s.rmu.dSL ∧ (takeAcknowledge s).2.bcu.loads = s.bcu.loads := by
  unfold takeAcknowledge; split <;> (try split) <;> simp

/-! ### Sequencer -/

@[simp] theorem setTarget_keeps (k : Nat) (s : State) :
    (setTarget k s).lts = s.lts ∧ (setTarget k s).rmu = s.rmu ∧ (setTarget k s).srg = s.srg ∧
    (setTarget k s).obs = s.obs ∧ (setTarget k s).dru = s.dru ∧ (setTarget k s).bcu = s.bcu ∧
    (setTarget k s).lpu = s.lpu ∧ (setTarget k s).clock = s.clock ∧ (setTarget k s).timeOfDay = s.timeOfDay ∧
    (setTarget k s).minuteMs = s.minuteMs ∧ (setTarget k s).freeIndex = s.freeIndex ∧
    (setTarget k s).pending = s.pending ∧ (setTarget k s).tsq.state = s.tsq.state ∧
    (setTarget k s).tsq.step = s.tsq.step ∧ (setTarget k s).tsq.resume = s.tsq.resume ∧
    (setTarget k s).tsq.phase = s.tsq.phase ∧ (setTarget k s).tsq.direction = s.tsq.direction ∧
    (setTarget k s).tsq.origin = s.tsq.origin ∧ (setTarget k s).tsq.mode = s.tsq.mode ∧
    (setTarget k s).tsq.lastChange = s.tsq.lastChange ∧ (setTarget k s).tsq.silent = s.tsq.silent ∧
    (setTarget k s).tsq.move = s.tsq.move ∧ (setTarget k s).tsq.halts = s.tsq.halts ∧
    (setTarget k s).tsq.driveRequest = s.tsq.driveRequest ∧ (setTarget k s).tsq.warningEnded = s.tsq.warningEnded ∧
    (setTarget k s).tsq.closureTimer = s.tsq.closureTimer ∧ (setTarget k s).tsq.consoleTimer = s.tsq.consoleTimer ∧
    (setTarget k s).tsq.callLines = s.tsq.callLines ∧ (setTarget k s).cpt.cars = s.cpt.cars := by
  simp [setTarget]

@[simp] theorem startTrip_keeps (d : Direction) (s : State) :
    (startTrip d s).lts = s.lts ∧ (startTrip d s).clock = s.clock ∧ (startTrip d s).timeOfDay = s.timeOfDay ∧
    (startTrip d s).minuteMs = s.minuteMs ∧ (startTrip d s).freeIndex = s.freeIndex ∧
    (startTrip d s).pending = s.pending ∧ (startTrip d s).tsq.mode = s.tsq.mode ∧
    (startTrip d s).tsq.silent = s.tsq.silent ∧ (startTrip d s).tsq.consoleTimer = s.tsq.consoleTimer ∧
    (startTrip d s).tsq.callLines = s.tsq.callLines ∧ (startTrip d s).srg.vTgt = s.srg.vTgt ∧
    (startTrip d s).srg.phase = s.srg.phase ∧ (startTrip d s).srg.active = s.srg.active ∧
    (startTrip d s).srg.period = s.srg.period ∧ (startTrip d s).obs.pS = s.obs.pS ∧
    (startTrip d s).obs.still = s.obs.still ∧
    (startTrip d s).obs.causes = s.obs.causes ∧ (startTrip d s).obs.trippedFrom = s.obs.trippedFrom ∧
    (startTrip d s).obs.stopLatch = s.obs.stopLatch ∧ (startTrip d s).obs.railBrake = s.obs.railBrake ∧
    (startTrip d s).obs.pfail = s.obs.pfail ∧ (startTrip d s).obs.carFault = s.obs.carFault ∧
    (startTrip d s).rmu.x2 = s.rmu.x2 ∧ (startTrip d s).rmu.dx2 = s.rmu.dx2 ∧
    (startTrip d s).rmu.vSup = s.rmu.vSup ∧ (startTrip d s).rmu.vAvg = s.rmu.vAvg ∧
    (startTrip d s).rmu.known = s.rmu.known ∧ (startTrip d s).rmu.twoChannel = s.rmu.twoChannel ∧
    (startTrip d s).rmu.pA = s.rmu.pA ∧ (startTrip d s).rmu.p1 = s.rmu.p1 ∧ (startTrip d s).rmu.p2 = s.rmu.p2 ∧
    (startTrip d s).cpt.cars = s.cpt.cars ∧ (startTrip d s).bcu.loads = s.bcu.loads := by
  simp [startTrip]

@[simp] theorem takeStart_keeps (d : Byte) (s : State) :
    (takeStart d s).2.lts = s.lts ∧ (takeStart d s).2.clock = s.clock ∧ (takeStart d s).2.timeOfDay = s.timeOfDay ∧
    (takeStart d s).2.minuteMs = s.minuteMs ∧ (takeStart d s).2.freeIndex = s.freeIndex ∧
    (takeStart d s).2.pending = s.pending ∧ (takeStart d s).2.tsq.mode = s.tsq.mode ∧
    (takeStart d s).2.tsq.silent = s.tsq.silent ∧ (takeStart d s).2.tsq.consoleTimer = s.tsq.consoleTimer ∧
    (takeStart d s).2.tsq.callLines = s.tsq.callLines ∧ (takeStart d s).2.srg.vTgt = s.srg.vTgt ∧
    (takeStart d s).2.srg.phase = s.srg.phase ∧ (takeStart d s).2.srg.active = s.srg.active ∧
    (takeStart d s).2.srg.period = s.srg.period ∧ (takeStart d s).2.obs.pS = s.obs.pS ∧
    (takeStart d s).2.obs.still = s.obs.still ∧
    (takeStart d s).2.obs.causes = s.obs.causes ∧ (takeStart d s).2.obs.trippedFrom = s.obs.trippedFrom ∧
    (takeStart d s).2.obs.stopLatch = s.obs.stopLatch ∧ (takeStart d s).2.obs.railBrake = s.obs.railBrake ∧
    (takeStart d s).2.obs.pfail = s.obs.pfail ∧ (takeStart d s).2.obs.carFault = s.obs.carFault ∧
    (takeStart d s).2.rmu.x2 = s.rmu.x2 ∧ (takeStart d s).2.rmu.dx2 = s.rmu.dx2 ∧
    (takeStart d s).2.rmu.vSup = s.rmu.vSup ∧ (takeStart d s).2.rmu.vAvg = s.rmu.vAvg ∧
    (takeStart d s).2.rmu.known = s.rmu.known ∧ (takeStart d s).2.rmu.twoChannel = s.rmu.twoChannel ∧
    (takeStart d s).2.rmu.pA = s.rmu.pA ∧ (takeStart d s).2.rmu.p1 = s.rmu.p1 ∧
    (takeStart d s).2.rmu.p2 = s.rmu.p2 ∧ (takeStart d s).2.cpt.cars = s.cpt.cars ∧
    (takeStart d s).2.bcu.loads = s.bcu.loads := by
  simp only [takeStart]; split <;> (try split) <;> (try split) <;> (try split) <;> simp

@[simp] theorem resumeTrip_keeps (k : Nat) (s : State) :
    (resumeTrip k s).lts = s.lts ∧ (resumeTrip k s).clock = s.clock ∧ (resumeTrip k s).timeOfDay = s.timeOfDay ∧
    (resumeTrip k s).minuteMs = s.minuteMs ∧ (resumeTrip k s).freeIndex = s.freeIndex ∧
    (resumeTrip k s).pending = s.pending ∧ (resumeTrip k s).tsq.direction = s.tsq.direction ∧
    (resumeTrip k s).tsq.mode = s.tsq.mode ∧ (resumeTrip k s).tsq.silent = s.tsq.silent ∧
    (resumeTrip k s).tsq.consoleTimer = s.tsq.consoleTimer ∧ (resumeTrip k s).tsq.callLines = s.tsq.callLines ∧
    (resumeTrip k s).srg.vTgt = s.srg.vTgt ∧ (resumeTrip k s).srg.phase = s.srg.phase ∧
    (resumeTrip k s).srg.active = s.srg.active ∧ (resumeTrip k s).srg.period = s.srg.period ∧
    (resumeTrip k s).obs.pS = s.obs.pS ∧
    (resumeTrip k s).obs.still = s.obs.still ∧ (resumeTrip k s).obs.causes = s.obs.causes ∧
    (resumeTrip k s).obs.trippedFrom = s.obs.trippedFrom ∧ (resumeTrip k s).obs.stopLatch = s.obs.stopLatch ∧
    (resumeTrip k s).obs.railBrake = s.obs.railBrake ∧ (resumeTrip k s).obs.pfail = s.obs.pfail ∧
    (resumeTrip k s).obs.carFault = s.obs.carFault ∧ (resumeTrip k s).rmu.x2 = s.rmu.x2 ∧
    (resumeTrip k s).rmu.dx2 = s.rmu.dx2 ∧ (resumeTrip k s).rmu.vSup = s.rmu.vSup ∧
    (resumeTrip k s).rmu.vAvg = s.rmu.vAvg ∧ (resumeTrip k s).rmu.known = s.rmu.known ∧
    (resumeTrip k s).rmu.twoChannel = s.rmu.twoChannel ∧ (resumeTrip k s).rmu.pA = s.rmu.pA ∧
    (resumeTrip k s).rmu.p1 = s.rmu.p1 ∧ (resumeTrip k s).rmu.p2 = s.rmu.p2 ∧
    (resumeTrip k s).cpt.cars = s.cpt.cars ∧ (resumeTrip k s).bcu.loads = s.bcu.loads := by
  simp [resumeTrip]

@[simp] theorem takeResume_keeps (s : State) :
    (takeResume s).2.lts = s.lts ∧ (takeResume s).2.clock = s.clock ∧ (takeResume s).2.timeOfDay = s.timeOfDay ∧
    (takeResume s).2.minuteMs = s.minuteMs ∧ (takeResume s).2.freeIndex = s.freeIndex ∧
    (takeResume s).2.pending = s.pending ∧ (takeResume s).2.tsq.direction = s.tsq.direction ∧
    (takeResume s).2.tsq.mode = s.tsq.mode ∧ (takeResume s).2.tsq.silent = s.tsq.silent ∧
    (takeResume s).2.tsq.consoleTimer = s.tsq.consoleTimer ∧ (takeResume s).2.tsq.callLines = s.tsq.callLines ∧
    (takeResume s).2.srg.vTgt = s.srg.vTgt ∧ (takeResume s).2.srg.phase = s.srg.phase ∧
    (takeResume s).2.srg.active = s.srg.active ∧ (takeResume s).2.srg.period = s.srg.period ∧
    (takeResume s).2.obs.pS = s.obs.pS ∧
    (takeResume s).2.obs.still = s.obs.still ∧ (takeResume s).2.obs.causes = s.obs.causes ∧
    (takeResume s).2.obs.trippedFrom = s.obs.trippedFrom ∧ (takeResume s).2.obs.stopLatch = s.obs.stopLatch ∧
    (takeResume s).2.obs.railBrake = s.obs.railBrake ∧ (takeResume s).2.obs.pfail = s.obs.pfail ∧
    (takeResume s).2.obs.carFault = s.obs.carFault ∧ (takeResume s).2.rmu.x2 = s.rmu.x2 ∧
    (takeResume s).2.rmu.dx2 = s.rmu.dx2 ∧ (takeResume s).2.rmu.vSup = s.rmu.vSup ∧
    (takeResume s).2.rmu.vAvg = s.rmu.vAvg ∧ (takeResume s).2.rmu.known = s.rmu.known ∧
    (takeResume s).2.rmu.twoChannel = s.rmu.twoChannel ∧ (takeResume s).2.rmu.pA = s.rmu.pA ∧
    (takeResume s).2.rmu.p1 = s.rmu.p1 ∧ (takeResume s).2.rmu.p2 = s.rmu.p2 ∧
    (takeResume s).2.cpt.cars = s.cpt.cars ∧ (takeResume s).2.bcu.loads = s.bcu.loads := by
  simp only [takeResume]; split <;> (try split) <;> (try split) <;> (try split) <;> simp

@[simp] theorem takeDemand_keeps (k : CauseKind) (p : PortId) (s : State) :
    (takeDemand k p s).2.lts = s.lts ∧ (takeDemand k p s).2.clock = s.clock ∧
    (takeDemand k p s).2.timeOfDay = s.timeOfDay ∧ (takeDemand k p s).2.minuteMs = s.minuteMs ∧
    (takeDemand k p s).2.freeIndex = s.freeIndex ∧ (takeDemand k p s).2.pending = s.pending ∧
    (takeDemand k p s).2.tsq.direction = s.tsq.direction ∧ (takeDemand k p s).2.tsq.origin = s.tsq.origin ∧
    (takeDemand k p s).2.tsq.target = s.tsq.target ∧ (takeDemand k p s).2.tsq.mode = s.tsq.mode ∧
    (takeDemand k p s).2.tsq.silent = s.tsq.silent ∧ (takeDemand k p s).2.tsq.halts = s.tsq.halts ∧
    (takeDemand k p s).2.tsq.consoleTimer = s.tsq.consoleTimer ∧
    (takeDemand k p s).2.tsq.callLines = s.tsq.callLines ∧ (takeDemand k p s).2.srg.band = s.srg.band ∧
    (takeDemand k p s).2.srg.fRef = s.srg.fRef ∧ (takeDemand k p s).2.srg.insp = s.srg.insp ∧
    (takeDemand k p s).2.srg.phase = s.srg.phase ∧ (takeDemand k p s).2.srg.active = s.srg.active ∧
    (takeDemand k p s).2.srg.period = s.srg.period ∧ (takeDemand k p s).2.srg.dir = s.srg.dir ∧
    (takeDemand k p s).2.obs.fSup = s.obs.fSup ∧ (takeDemand k p s).2.obs.inspSup = s.obs.inspSup ∧
    (takeDemand k p s).2.obs.aSup = s.obs.aSup ∧ (takeDemand k p s).2.obs.direction = s.obs.direction ∧
    (takeDemand k p s).2.obs.pS = s.obs.pS ∧
    (takeDemand k p s).2.obs.still = s.obs.still ∧ (takeDemand k p s).2.obs.stopLatch = s.obs.stopLatch ∧
    (takeDemand k p s).2.obs.pfail = s.obs.pfail ∧ (takeDemand k p s).2.obs.carFault = s.obs.carFault ∧
    (takeDemand k p s).2.rmu.channels = s.rmu.channels ∧ (takeDemand k p s).2.rmu.x2 = s.rmu.x2 ∧
    (takeDemand k p s).2.rmu.dx2 = s.rmu.dx2 ∧ (takeDemand k p s).2.rmu.vSup = s.rmu.vSup ∧
    (takeDemand k p s).2.rmu.vAvg = s.rmu.vAvg ∧ (takeDemand k p s).2.rmu.known = s.rmu.known ∧
    (takeDemand k p s).2.rmu.twoChannel = s.rmu.twoChannel ∧ (takeDemand k p s).2.rmu.pA = s.rmu.pA ∧
    (takeDemand k p s).2.rmu.p1 = s.rmu.p1 ∧ (takeDemand k p s).2.rmu.p2 = s.rmu.p2 ∧
    (takeDemand k p s).2.rmu.dM2 = s.rmu.dM2 ∧ (takeDemand k p s).2.rmu.dSL = s.rmu.dSL ∧
    (takeDemand k p s).2.cpt.cars = s.cpt.cars ∧ (takeDemand k p s).2.bcu.loads = s.bcu.loads := by
  unfold takeDemand; split <;> simp

@[simp] theorem setMode_keeps (m : LineMode) (s : State) :
    (setMode m s).lts = s.lts ∧ (setMode m s).rmu = s.rmu ∧ (setMode m s).cpt = s.cpt ∧ (setMode m s).obs = s.obs ∧
    (setMode m s).dru = s.dru ∧ (setMode m s).bcu = s.bcu ∧ (setMode m s).lpu = s.lpu ∧
    (setMode m s).clock = s.clock ∧ (setMode m s).timeOfDay = s.timeOfDay ∧ (setMode m s).minuteMs = s.minuteMs ∧
    (setMode m s).freeIndex = s.freeIndex ∧ (setMode m s).pending = s.pending ∧
    (setMode m s).tsq.state = s.tsq.state ∧ (setMode m s).tsq.step = s.tsq.step ∧
    (setMode m s).tsq.resume = s.tsq.resume ∧ (setMode m s).tsq.phase = s.tsq.phase ∧
    (setMode m s).tsq.direction = s.tsq.direction ∧ (setMode m s).tsq.origin = s.tsq.origin ∧
    (setMode m s).tsq.target = s.tsq.target ∧ (setMode m s).tsq.lastChange = s.tsq.lastChange ∧
    (setMode m s).tsq.silent = s.tsq.silent ∧ (setMode m s).tsq.move = s.tsq.move ∧
    (setMode m s).tsq.halts = s.tsq.halts ∧ (setMode m s).tsq.driveRequest = s.tsq.driveRequest ∧
    (setMode m s).tsq.warningEnded = s.tsq.warningEnded ∧ (setMode m s).tsq.closureTimer = s.tsq.closureTimer ∧
    (setMode m s).tsq.consoleTimer = s.tsq.consoleTimer ∧ (setMode m s).tsq.callLines = s.tsq.callLines ∧
    (setMode m s).srg.vRef = s.srg.vRef ∧ (setMode m s).srg.vTgt = s.srg.vTgt ∧
    (setMode m s).srg.band = s.srg.band ∧ (setMode m s).srg.insp = s.srg.insp ∧
    (setMode m s).srg.phase = s.srg.phase ∧ (setMode m s).srg.ctlTarget = s.srg.ctlTarget ∧
    (setMode m s).srg.holding = s.srg.holding ∧ (setMode m s).srg.active = s.srg.active ∧
    (setMode m s).srg.period = s.srg.period ∧ (setMode m s).srg.dir = s.srg.dir ∧
    (setMode m s).srg.dirPending = s.srg.dirPending ∧ (setMode m s).srg.warning = s.srg.warning ∧
    (setMode m s).srg.warn = s.srg.warn ∧ (setMode m s).srg.frozen = s.srg.frozen := by
  simp only [setMode, updTsq_srg, updSrg_srg]; split <;> simp

@[simp] theorem enterConfiguring_keeps (s : State) :
    (enterConfiguring s).clock = s.clock ∧ (enterConfiguring s).timeOfDay = s.timeOfDay ∧
    (enterConfiguring s).minuteMs = s.minuteMs ∧ (enterConfiguring s).freeIndex = s.freeIndex ∧
    (enterConfiguring s).pending = s.pending ∧ (enterConfiguring s).tsq.silent = s.tsq.silent ∧
    (enterConfiguring s).tsq.consoleTimer = s.tsq.consoleTimer ∧
    (enterConfiguring s).tsq.callLines = s.tsq.callLines ∧ (enterConfiguring s).obs.direction = s.obs.direction ∧
    (enterConfiguring s).obs.brakes = s.obs.brakes ∧ (enterConfiguring s).obs.railBrake = s.obs.railBrake ∧
    (enterConfiguring s).obs.pfail = s.obs.pfail ∧ (enterConfiguring s).obs.carFault = s.obs.carFault ∧
    (enterConfiguring s).cpt.cars = s.cpt.cars ∧ (enterConfiguring s).bcu.loads = s.bcu.loads := by
  simp [enterConfiguring, Tsq.atRest, Obs.atRest]

@[simp] theorem takeServiceOn_keeps (s : State) :
    (takeServiceOn s).2.lts = s.lts ∧ (takeServiceOn s).2.cpt = s.cpt ∧ (takeServiceOn s).2.clock = s.clock ∧
    (takeServiceOn s).2.timeOfDay = s.timeOfDay ∧ (takeServiceOn s).2.minuteMs = s.minuteMs ∧
    (takeServiceOn s).2.freeIndex = s.freeIndex ∧ (takeServiceOn s).2.pending = s.pending ∧
    (takeServiceOn s).2.tsq.direction = s.tsq.direction ∧ (takeServiceOn s).2.tsq.mode = s.tsq.mode ∧
    (takeServiceOn s).2.tsq.silent = s.tsq.silent ∧ (takeServiceOn s).2.tsq.consoleTimer = s.tsq.consoleTimer ∧
    (takeServiceOn s).2.tsq.callLines = s.tsq.callLines ∧ (takeServiceOn s).2.srg.vTgt = s.srg.vTgt ∧
    (takeServiceOn s).2.srg.band = s.srg.band ∧ (takeServiceOn s).2.srg.fRef = s.srg.fRef ∧
    (takeServiceOn s).2.srg.insp = s.srg.insp ∧ (takeServiceOn s).2.srg.phase = s.srg.phase ∧
    (takeServiceOn s).2.srg.active = s.srg.active ∧ (takeServiceOn s).2.srg.period = s.srg.period ∧
    (takeServiceOn s).2.srg.dir = s.srg.dir ∧ (takeServiceOn s).2.obs.fSup = s.obs.fSup ∧
    (takeServiceOn s).2.obs.inspSup = s.obs.inspSup ∧ (takeServiceOn s).2.obs.aSup = s.obs.aSup ∧
    (takeServiceOn s).2.obs.direction = s.obs.direction ∧ (takeServiceOn s).2.obs.rE2 = s.obs.rE2 ∧
    (takeServiceOn s).2.obs.pS = s.obs.pS ∧
    (takeServiceOn s).2.obs.still = s.obs.still ∧ (takeServiceOn s).2.obs.causes = s.obs.causes ∧
    (takeServiceOn s).2.obs.trippedFrom = s.obs.trippedFrom ∧ (takeServiceOn s).2.obs.stopLatch = s.obs.stopLatch ∧
    (takeServiceOn s).2.obs.brakes = s.obs.brakes ∧ (takeServiceOn s).2.obs.railBrake = s.obs.railBrake ∧
    (takeServiceOn s).2.obs.pfail = s.obs.pfail ∧ (takeServiceOn s).2.obs.carFault = s.obs.carFault ∧
    (takeServiceOn s).2.rmu.channels = s.rmu.channels ∧ (takeServiceOn s).2.rmu.x2 = s.rmu.x2 ∧
    (takeServiceOn s).2.rmu.dx2 = s.rmu.dx2 ∧ (takeServiceOn s).2.rmu.vSup = s.rmu.vSup ∧
    (takeServiceOn s).2.rmu.vAvg = s.rmu.vAvg ∧ (takeServiceOn s).2.rmu.known = s.rmu.known ∧
    (takeServiceOn s).2.rmu.twoChannel = s.rmu.twoChannel ∧ (takeServiceOn s).2.rmu.pA = s.rmu.pA ∧
    (takeServiceOn s).2.rmu.p1 = s.rmu.p1 ∧ (takeServiceOn s).2.rmu.p2 = s.rmu.p2 ∧
    (takeServiceOn s).2.rmu.dM2 = s.rmu.dM2 ∧ (takeServiceOn s).2.rmu.dSL = s.rmu.dSL ∧
    (takeServiceOn s).2.bcu.loads = s.bcu.loads := by
  unfold takeServiceOn; split <;> (try split) <;> (try split) <;> (try split) <;> simp

@[simp] theorem takeServiceOff_keeps (s : State) :
    (takeServiceOff s).2.lts = s.lts ∧ (takeServiceOff s).2.cpt = s.cpt ∧ (takeServiceOff s).2.clock = s.clock ∧
    (takeServiceOff s).2.timeOfDay = s.timeOfDay ∧ (takeServiceOff s).2.minuteMs = s.minuteMs ∧
    (takeServiceOff s).2.freeIndex = s.freeIndex ∧ (takeServiceOff s).2.pending = s.pending ∧
    (takeServiceOff s).2.tsq.direction = s.tsq.direction ∧ (takeServiceOff s).2.tsq.origin = s.tsq.origin ∧
    (takeServiceOff s).2.tsq.target = s.tsq.target ∧ (takeServiceOff s).2.tsq.mode = s.tsq.mode ∧
    (takeServiceOff s).2.tsq.silent = s.tsq.silent ∧ (takeServiceOff s).2.tsq.halts = s.tsq.halts ∧
    (takeServiceOff s).2.tsq.consoleTimer = s.tsq.consoleTimer ∧
    (takeServiceOff s).2.tsq.callLines = s.tsq.callLines ∧ (takeServiceOff s).2.srg.vTgt = s.srg.vTgt ∧
    (takeServiceOff s).2.srg.band = s.srg.band ∧ (takeServiceOff s).2.srg.fRef = s.srg.fRef ∧
    (takeServiceOff s).2.srg.insp = s.srg.insp ∧ (takeServiceOff s).2.srg.phase = s.srg.phase ∧
    (takeServiceOff s).2.srg.active = s.srg.active ∧ (takeServiceOff s).2.srg.period = s.srg.period ∧
    (takeServiceOff s).2.srg.dir = s.srg.dir ∧ (takeServiceOff s).2.obs.fSup = s.obs.fSup ∧
    (takeServiceOff s).2.obs.inspSup = s.obs.inspSup ∧ (takeServiceOff s).2.obs.aSup = s.obs.aSup ∧
    (takeServiceOff s).2.obs.direction = s.obs.direction ∧ (takeServiceOff s).2.obs.rE2 = s.obs.rE2 ∧
    (takeServiceOff s).2.obs.pS = s.obs.pS ∧
    (takeServiceOff s).2.obs.still = s.obs.still ∧ (takeServiceOff s).2.obs.causes = s.obs.causes ∧
    (takeServiceOff s).2.obs.trippedFrom = s.obs.trippedFrom ∧
    (takeServiceOff s).2.obs.stopLatch = s.obs.stopLatch ∧ (takeServiceOff s).2.obs.brakes = s.obs.brakes ∧
    (takeServiceOff s).2.obs.railBrake = s.obs.railBrake ∧ (takeServiceOff s).2.obs.pfail = s.obs.pfail ∧
    (takeServiceOff s).2.obs.carFault = s.obs.carFault ∧ (takeServiceOff s).2.rmu.channels = s.rmu.channels ∧
    (takeServiceOff s).2.rmu.x2 = s.rmu.x2 ∧ (takeServiceOff s).2.rmu.dx2 = s.rmu.dx2 ∧
    (takeServiceOff s).2.rmu.vSup = s.rmu.vSup ∧ (takeServiceOff s).2.rmu.vAvg = s.rmu.vAvg ∧
    (takeServiceOff s).2.rmu.known = s.rmu.known ∧ (takeServiceOff s).2.rmu.twoChannel = s.rmu.twoChannel ∧
    (takeServiceOff s).2.rmu.pA = s.rmu.pA ∧ (takeServiceOff s).2.rmu.p1 = s.rmu.p1 ∧
    (takeServiceOff s).2.rmu.p2 = s.rmu.p2 ∧ (takeServiceOff s).2.rmu.dM2 = s.rmu.dM2 ∧
    (takeServiceOff s).2.rmu.dSL = s.rmu.dSL ∧ (takeServiceOff s).2.bcu.loads = s.bcu.loads := by
  unfold takeServiceOff; split <;> simp

@[simp] theorem rechooseTarget_keeps (s : State) :
    (rechooseTarget s).lts = s.lts ∧ (rechooseTarget s).rmu = s.rmu ∧ (rechooseTarget s).srg = s.srg ∧
    (rechooseTarget s).obs = s.obs ∧ (rechooseTarget s).dru = s.dru ∧ (rechooseTarget s).bcu = s.bcu ∧
    (rechooseTarget s).clock = s.clock ∧ (rechooseTarget s).timeOfDay = s.timeOfDay ∧
    (rechooseTarget s).minuteMs = s.minuteMs ∧ (rechooseTarget s).freeIndex = s.freeIndex ∧
    (rechooseTarget s).pending = s.pending ∧ (rechooseTarget s).tsq.state = s.tsq.state ∧
    (rechooseTarget s).tsq.step = s.tsq.step ∧ (rechooseTarget s).tsq.resume = s.tsq.resume ∧
    (rechooseTarget s).tsq.phase = s.tsq.phase ∧ (rechooseTarget s).tsq.direction = s.tsq.direction ∧
    (rechooseTarget s).tsq.origin = s.tsq.origin ∧ (rechooseTarget s).tsq.mode = s.tsq.mode ∧
    (rechooseTarget s).tsq.lastChange = s.tsq.lastChange ∧ (rechooseTarget s).tsq.silent = s.tsq.silent ∧
    (rechooseTarget s).tsq.move = s.tsq.move ∧ (rechooseTarget s).tsq.halts = s.tsq.halts ∧
    (rechooseTarget s).tsq.driveRequest = s.tsq.driveRequest ∧
    (rechooseTarget s).tsq.warningEnded = s.tsq.warningEnded ∧
    (rechooseTarget s).tsq.closureTimer = s.tsq.closureTimer ∧
    (rechooseTarget s).tsq.consoleTimer = s.tsq.consoleTimer ∧ (rechooseTarget s).tsq.callLines = s.tsq.callLines ∧
    (rechooseTarget s).cpt.cars = s.cpt.cars := by
  unfold rechooseTarget; split <;> simp

@[simp] theorem takeHaltCancel_keeps (k : Nat) (s : State) :
    (takeHaltCancel k s).2.lts = s.lts ∧ (takeHaltCancel k s).2.rmu = s.rmu ∧ (takeHaltCancel k s).2.srg = s.srg ∧
    (takeHaltCancel k s).2.obs = s.obs ∧ (takeHaltCancel k s).2.dru = s.dru ∧ (takeHaltCancel k s).2.bcu = s.bcu ∧
    (takeHaltCancel k s).2.clock = s.clock ∧ (takeHaltCancel k s).2.timeOfDay = s.timeOfDay ∧
    (takeHaltCancel k s).2.minuteMs = s.minuteMs ∧ (takeHaltCancel k s).2.freeIndex = s.freeIndex ∧
    (takeHaltCancel k s).2.pending = s.pending ∧ (takeHaltCancel k s).2.tsq.state = s.tsq.state ∧
    (takeHaltCancel k s).2.tsq.step = s.tsq.step ∧ (takeHaltCancel k s).2.tsq.resume = s.tsq.resume ∧
    (takeHaltCancel k s).2.tsq.phase = s.tsq.phase ∧ (takeHaltCancel k s).2.tsq.direction = s.tsq.direction ∧
    (takeHaltCancel k s).2.tsq.origin = s.tsq.origin ∧ (takeHaltCancel k s).2.tsq.mode = s.tsq.mode ∧
    (takeHaltCancel k s).2.tsq.lastChange = s.tsq.lastChange ∧ (takeHaltCancel k s).2.tsq.silent = s.tsq.silent ∧
    (takeHaltCancel k s).2.tsq.move = s.tsq.move ∧ (takeHaltCancel k s).2.tsq.driveRequest = s.tsq.driveRequest ∧
    (takeHaltCancel k s).2.tsq.warningEnded = s.tsq.warningEnded ∧
    (takeHaltCancel k s).2.tsq.closureTimer = s.tsq.closureTimer ∧
    (takeHaltCancel k s).2.tsq.consoleTimer = s.tsq.consoleTimer ∧
    (takeHaltCancel k s).2.tsq.callLines = s.tsq.callLines ∧ (takeHaltCancel k s).2.cpt.cars = s.cpt.cars := by
  simp only [takeHaltCancel]; split <;> (try split) <;> (try split) <;> (try split) <;> (try split) <;> (try split) <;> simp

@[simp] theorem haltButton_keeps (c : Car) (s : State) :
    (haltButton c s).lts = s.lts ∧ (haltButton c s).rmu = s.rmu ∧ (haltButton c s).srg = s.srg ∧
    (haltButton c s).obs = s.obs ∧ (haltButton c s).dru = s.dru ∧ (haltButton c s).bcu = s.bcu ∧
    (haltButton c s).clock = s.clock ∧ (haltButton c s).timeOfDay = s.timeOfDay ∧
    (haltButton c s).minuteMs = s.minuteMs ∧ (haltButton c s).freeIndex = s.freeIndex ∧
    (haltButton c s).pending = s.pending ∧ (haltButton c s).tsq.state = s.tsq.state ∧
    (haltButton c s).tsq.step = s.tsq.step ∧ (haltButton c s).tsq.resume = s.tsq.resume ∧
    (haltButton c s).tsq.phase = s.tsq.phase ∧ (haltButton c s).tsq.direction = s.tsq.direction ∧
    (haltButton c s).tsq.origin = s.tsq.origin ∧ (haltButton c s).tsq.mode = s.tsq.mode ∧
    (haltButton c s).tsq.lastChange = s.tsq.lastChange ∧ (haltButton c s).tsq.silent = s.tsq.silent ∧
    (haltButton c s).tsq.move = s.tsq.move ∧ (haltButton c s).tsq.driveRequest = s.tsq.driveRequest ∧
    (haltButton c s).tsq.warningEnded = s.tsq.warningEnded ∧
    (haltButton c s).tsq.closureTimer = s.tsq.closureTimer ∧
    (haltButton c s).tsq.consoleTimer = s.tsq.consoleTimer ∧ (haltButton c s).tsq.callLines = s.tsq.callLines ∧
    (haltButton c s).cpt.cars = s.cpt.cars := by
  unfold haltButton; split <;> simp

@[simp] theorem tsqReport_keeps (c : Car) (r : CarReport) (s : State) :
    (tsqReport c r s).lts = s.lts ∧ (tsqReport c r s).clock = s.clock ∧ (tsqReport c r s).timeOfDay = s.timeOfDay ∧
    (tsqReport c r s).minuteMs = s.minuteMs ∧ (tsqReport c r s).freeIndex = s.freeIndex ∧
    (tsqReport c r s).pending = s.pending ∧ (tsqReport c r s).tsq.direction = s.tsq.direction ∧
    (tsqReport c r s).tsq.origin = s.tsq.origin ∧ (tsqReport c r s).tsq.mode = s.tsq.mode ∧
    (tsqReport c r s).tsq.silent = s.tsq.silent ∧ (tsqReport c r s).tsq.consoleTimer = s.tsq.consoleTimer ∧
    (tsqReport c r s).tsq.callLines = s.tsq.callLines ∧ (tsqReport c r s).srg.band = s.srg.band ∧
    (tsqReport c r s).srg.fRef = s.srg.fRef ∧ (tsqReport c r s).srg.insp = s.srg.insp ∧
    (tsqReport c r s).srg.phase = s.srg.phase ∧ (tsqReport c r s).srg.active = s.srg.active ∧
    (tsqReport c r s).srg.period = s.srg.period ∧ (tsqReport c r s).srg.dir = s.srg.dir ∧
    (tsqReport c r s).obs.fSup = s.obs.fSup ∧ (tsqReport c r s).obs.inspSup = s.obs.inspSup ∧
    (tsqReport c r s).obs.aSup = s.obs.aSup ∧ (tsqReport c r s).obs.direction = s.obs.direction ∧
    (tsqReport c r s).obs.pS = s.obs.pS ∧
    (tsqReport c r s).obs.still = s.obs.still ∧ (tsqReport c r s).obs.stopLatch = s.obs.stopLatch ∧
    (tsqReport c r s).obs.pfail = s.obs.pfail ∧ (tsqReport c r s).obs.carFault = s.obs.carFault ∧
    (tsqReport c r s).rmu.channels = s.rmu.channels ∧ (tsqReport c r s).rmu.x2 = s.rmu.x2 ∧
    (tsqReport c r s).rmu.dx2 = s.rmu.dx2 ∧ (tsqReport c r s).rmu.vSup = s.rmu.vSup ∧
    (tsqReport c r s).rmu.vAvg = s.rmu.vAvg ∧ (tsqReport c r s).rmu.known = s.rmu.known ∧
    (tsqReport c r s).rmu.twoChannel = s.rmu.twoChannel ∧ (tsqReport c r s).rmu.pA = s.rmu.pA ∧
    (tsqReport c r s).rmu.p1 = s.rmu.p1 ∧ (tsqReport c r s).rmu.p2 = s.rmu.p2 ∧
    (tsqReport c r s).rmu.dM2 = s.rmu.dM2 ∧ (tsqReport c r s).rmu.dSL = s.rmu.dSL ∧
    (tsqReport c r s).cpt.cars = s.cpt.cars ∧ (tsqReport c r s).bcu.loads = s.bcu.loads := by
  simp only [tsqReport]; split <;> (try split) <;> simp

@[simp] theorem moveTravel_keeps (s : State) :
    (moveTravel s).lts = s.lts ∧ (moveTravel s).rmu = s.rmu ∧ (moveTravel s).cpt = s.cpt ∧
    (moveTravel s).srg = s.srg ∧ (moveTravel s).obs = s.obs ∧ (moveTravel s).dru = s.dru ∧
    (moveTravel s).bcu = s.bcu ∧ (moveTravel s).lpu = s.lpu ∧ (moveTravel s).clock = s.clock ∧
    (moveTravel s).timeOfDay = s.timeOfDay ∧ (moveTravel s).minuteMs = s.minuteMs ∧
    (moveTravel s).freeIndex = s.freeIndex ∧ (moveTravel s).pending = s.pending ∧
    (moveTravel s).tsq.state = s.tsq.state ∧ (moveTravel s).tsq.step = s.tsq.step ∧
    (moveTravel s).tsq.resume = s.tsq.resume ∧ (moveTravel s).tsq.phase = s.tsq.phase ∧
    (moveTravel s).tsq.direction = s.tsq.direction ∧ (moveTravel s).tsq.origin = s.tsq.origin ∧
    (moveTravel s).tsq.target = s.tsq.target ∧ (moveTravel s).tsq.mode = s.tsq.mode ∧
    (moveTravel s).tsq.lastChange = s.tsq.lastChange ∧ (moveTravel s).tsq.silent = s.tsq.silent ∧
    (moveTravel s).tsq.halts = s.tsq.halts ∧ (moveTravel s).tsq.driveRequest = s.tsq.driveRequest ∧
    (moveTravel s).tsq.warningEnded = s.tsq.warningEnded ∧ (moveTravel s).tsq.closureTimer = s.tsq.closureTimer ∧
    (moveTravel s).tsq.consoleTimer = s.tsq.consoleTimer ∧ (moveTravel s).tsq.callLines = s.tsq.callLines := by
  simp [moveTravel]

@[simp] theorem tsqSample_keeps (s : State) :
    (tsqSample s).lts = s.lts ∧ (tsqSample s).clock = s.clock ∧ (tsqSample s).timeOfDay = s.timeOfDay ∧
    (tsqSample s).minuteMs = s.minuteMs ∧ (tsqSample s).freeIndex = s.freeIndex ∧
    (tsqSample s).pending = s.pending ∧ (tsqSample s).tsq.direction = s.tsq.direction ∧
    (tsqSample s).tsq.origin = s.tsq.origin ∧ (tsqSample s).tsq.mode = s.tsq.mode ∧
    (tsqSample s).tsq.silent = s.tsq.silent ∧ (tsqSample s).tsq.consoleTimer = s.tsq.consoleTimer ∧
    (tsqSample s).tsq.callLines = s.tsq.callLines ∧ (tsqSample s).srg.vTgt = s.srg.vTgt ∧
    (tsqSample s).srg.band = s.srg.band ∧ (tsqSample s).srg.fRef = s.srg.fRef ∧
    (tsqSample s).srg.insp = s.srg.insp ∧ (tsqSample s).srg.phase = s.srg.phase ∧
    (tsqSample s).srg.active = s.srg.active ∧ (tsqSample s).srg.period = s.srg.period ∧
    (tsqSample s).srg.dir = s.srg.dir ∧ (tsqSample s).obs.fSup = s.obs.fSup ∧
    (tsqSample s).obs.inspSup = s.obs.inspSup ∧ (tsqSample s).obs.aSup = s.obs.aSup ∧
    (tsqSample s).obs.direction = s.obs.direction ∧ (tsqSample s).obs.rE2 = s.obs.rE2 ∧
    (tsqSample s).obs.pS = s.obs.pS ∧
    (tsqSample s).obs.still = s.obs.still ∧ (tsqSample s).obs.causes = s.obs.causes ∧
    (tsqSample s).obs.trippedFrom = s.obs.trippedFrom ∧ (tsqSample s).obs.stopLatch = s.obs.stopLatch ∧
    (tsqSample s).obs.railBrake = s.obs.railBrake ∧ (tsqSample s).obs.pfail = s.obs.pfail ∧
    (tsqSample s).obs.carFault = s.obs.carFault ∧ (tsqSample s).rmu.channels = s.rmu.channels ∧
    (tsqSample s).rmu.x2 = s.rmu.x2 ∧ (tsqSample s).rmu.dx2 = s.rmu.dx2 ∧ (tsqSample s).rmu.vSup = s.rmu.vSup ∧
    (tsqSample s).rmu.vAvg = s.rmu.vAvg ∧ (tsqSample s).rmu.known = s.rmu.known ∧
    (tsqSample s).rmu.twoChannel = s.rmu.twoChannel ∧ (tsqSample s).rmu.pA = s.rmu.pA ∧
    (tsqSample s).rmu.p1 = s.rmu.p1 ∧ (tsqSample s).rmu.p2 = s.rmu.p2 ∧ (tsqSample s).rmu.dM2 = s.rmu.dM2 ∧
    (tsqSample s).rmu.dSL = s.rmu.dSL ∧ (tsqSample s).cpt.target = s.cpt.target ∧
    (tsqSample s).bcu.loads = s.bcu.loads := by
  unfold tsqSample; split <;> (try split) <;> (try split) <;> simp

@[simp] theorem warningOver_keeps (s : State) :
    (warningOver s).lts = s.lts ∧ (warningOver s).cpt = s.cpt ∧ (warningOver s).clock = s.clock ∧
    (warningOver s).timeOfDay = s.timeOfDay ∧ (warningOver s).minuteMs = s.minuteMs ∧
    (warningOver s).freeIndex = s.freeIndex ∧ (warningOver s).pending = s.pending ∧
    (warningOver s).tsq.direction = s.tsq.direction ∧ (warningOver s).tsq.origin = s.tsq.origin ∧
    (warningOver s).tsq.mode = s.tsq.mode ∧ (warningOver s).tsq.silent = s.tsq.silent ∧
    (warningOver s).tsq.consoleTimer = s.tsq.consoleTimer ∧ (warningOver s).tsq.callLines = s.tsq.callLines ∧
    (warningOver s).srg.vTgt = s.srg.vTgt ∧ (warningOver s).srg.phase = s.srg.phase ∧
    (warningOver s).srg.active = s.srg.active ∧ (warningOver s).srg.period = s.srg.period ∧
    (warningOver s).obs.pS = s.obs.pS ∧
    (warningOver s).obs.still = s.obs.still ∧ (warningOver s).obs.causes = s.obs.causes ∧
    (warningOver s).obs.trippedFrom = s.obs.trippedFrom ∧ (warningOver s).obs.stopLatch = s.obs.stopLatch ∧
    (warningOver s).obs.railBrake = s.obs.railBrake ∧ (warningOver s).obs.pfail = s.obs.pfail ∧
    (warningOver s).obs.carFault = s.obs.carFault ∧ (warningOver s).rmu.x2 = s.rmu.x2 ∧
    (warningOver s).rmu.dx2 = s.rmu.dx2 ∧ (warningOver s).rmu.vSup = s.rmu.vSup ∧
    (warningOver s).rmu.vAvg = s.rmu.vAvg ∧ (warningOver s).rmu.known = s.rmu.known ∧
    (warningOver s).rmu.twoChannel = s.rmu.twoChannel ∧ (warningOver s).rmu.pA = s.rmu.pA ∧
    (warningOver s).rmu.p1 = s.rmu.p1 ∧ (warningOver s).rmu.p2 = s.rmu.p2 ∧
    (warningOver s).bcu.loads = s.bcu.loads := by
  simp [warningOver]

@[simp] theorem settleOver_keeps (st : Station) (s : State) :
    (settleOver st s).lts = s.lts ∧ (settleOver st s).cpt = s.cpt ∧ (settleOver st s).clock = s.clock ∧
    (settleOver st s).timeOfDay = s.timeOfDay ∧ (settleOver st s).minuteMs = s.minuteMs ∧
    (settleOver st s).freeIndex = s.freeIndex ∧ (settleOver st s).pending = s.pending ∧
    (settleOver st s).tsq.direction = s.tsq.direction ∧ (settleOver st s).tsq.origin = s.tsq.origin ∧
    (settleOver st s).tsq.mode = s.tsq.mode ∧ (settleOver st s).tsq.silent = s.tsq.silent ∧
    (settleOver st s).tsq.consoleTimer = s.tsq.consoleTimer ∧ (settleOver st s).tsq.callLines = s.tsq.callLines ∧
    (settleOver st s).srg.vTgt = s.srg.vTgt ∧ (settleOver st s).srg.phase = s.srg.phase ∧
    (settleOver st s).srg.active = s.srg.active ∧ (settleOver st s).srg.period = s.srg.period ∧
    (settleOver st s).obs.pS = s.obs.pS ∧
    (settleOver st s).obs.still = s.obs.still ∧ (settleOver st s).obs.causes = s.obs.causes ∧
    (settleOver st s).obs.trippedFrom = s.obs.trippedFrom ∧ (settleOver st s).obs.stopLatch = s.obs.stopLatch ∧
    (settleOver st s).obs.railBrake = s.obs.railBrake ∧ (settleOver st s).obs.pfail = s.obs.pfail ∧
    (settleOver st s).obs.carFault = s.obs.carFault ∧ (settleOver st s).rmu.x2 = s.rmu.x2 ∧
    (settleOver st s).rmu.dx2 = s.rmu.dx2 ∧ (settleOver st s).rmu.vSup = s.rmu.vSup ∧
    (settleOver st s).rmu.vAvg = s.rmu.vAvg ∧ (settleOver st s).rmu.known = s.rmu.known ∧
    (settleOver st s).rmu.twoChannel = s.rmu.twoChannel ∧ (settleOver st s).rmu.pA = s.rmu.pA ∧
    (settleOver st s).rmu.p1 = s.rmu.p1 ∧ (settleOver st s).rmu.p2 = s.rmu.p2 ∧
    (settleOver st s).bcu.loads = s.bcu.loads := by
  simp [settleOver]

@[simp] theorem closureOver_keeps (s : State) :
    (closureOver s).lts = s.lts ∧ (closureOver s).cpt = s.cpt ∧ (closureOver s).clock = s.clock ∧
    (closureOver s).timeOfDay = s.timeOfDay ∧ (closureOver s).minuteMs = s.minuteMs ∧
    (closureOver s).freeIndex = s.freeIndex ∧ (closureOver s).pending = s.pending ∧
    (closureOver s).tsq.direction = s.tsq.direction ∧ (closureOver s).tsq.origin = s.tsq.origin ∧
    (closureOver s).tsq.mode = s.tsq.mode ∧ (closureOver s).tsq.silent = s.tsq.silent ∧
    (closureOver s).tsq.consoleTimer = s.tsq.consoleTimer ∧ (closureOver s).tsq.callLines = s.tsq.callLines ∧
    (closureOver s).srg.vTgt = s.srg.vTgt ∧ (closureOver s).srg.band = s.srg.band ∧
    (closureOver s).srg.fRef = s.srg.fRef ∧ (closureOver s).srg.insp = s.srg.insp ∧
    (closureOver s).srg.phase = s.srg.phase ∧ (closureOver s).srg.active = s.srg.active ∧
    (closureOver s).srg.period = s.srg.period ∧ (closureOver s).srg.dir = s.srg.dir ∧
    (closureOver s).obs.fSup = s.obs.fSup ∧ (closureOver s).obs.inspSup = s.obs.inspSup ∧
    (closureOver s).obs.aSup = s.obs.aSup ∧ (closureOver s).obs.direction = s.obs.direction ∧
    (closureOver s).obs.rE2 = s.obs.rE2 ∧ (closureOver s).obs.pS = s.obs.pS ∧
    (closureOver s).obs.still = s.obs.still ∧
    (closureOver s).obs.causes = s.obs.causes ∧ (closureOver s).obs.trippedFrom = s.obs.trippedFrom ∧
    (closureOver s).obs.stopLatch = s.obs.stopLatch ∧ (closureOver s).obs.brakes = s.obs.brakes ∧
    (closureOver s).obs.railBrake = s.obs.railBrake ∧ (closureOver s).obs.pfail = s.obs.pfail ∧
    (closureOver s).obs.carFault = s.obs.carFault ∧ (closureOver s).rmu.channels = s.rmu.channels ∧
    (closureOver s).rmu.x2 = s.rmu.x2 ∧ (closureOver s).rmu.dx2 = s.rmu.dx2 ∧
    (closureOver s).rmu.vSup = s.rmu.vSup ∧ (closureOver s).rmu.vAvg = s.rmu.vAvg ∧
    (closureOver s).rmu.known = s.rmu.known ∧ (closureOver s).rmu.twoChannel = s.rmu.twoChannel ∧
    (closureOver s).rmu.pA = s.rmu.pA ∧ (closureOver s).rmu.p1 = s.rmu.p1 ∧ (closureOver s).rmu.p2 = s.rmu.p2 ∧
    (closureOver s).rmu.dM2 = s.rmu.dM2 ∧ (closureOver s).rmu.dSL = s.rmu.dSL ∧
    (closureOver s).bcu.loads = s.bcu.loads := by
  simp [closureOver]

@[simp] theorem abandonForLink_keeps (s : State) :
    (abandonForLink s).lts = s.lts ∧ (abandonForLink s).cpt = s.cpt ∧ (abandonForLink s).clock = s.clock ∧
    (abandonForLink s).timeOfDay = s.timeOfDay ∧ (abandonForLink s).minuteMs = s.minuteMs ∧
    (abandonForLink s).freeIndex = s.freeIndex ∧ (abandonForLink s).pending = s.pending ∧
    (abandonForLink s).tsq.direction = s.tsq.direction ∧ (abandonForLink s).tsq.origin = s.tsq.origin ∧
    (abandonForLink s).tsq.mode = s.tsq.mode ∧ (abandonForLink s).tsq.silent = s.tsq.silent ∧
    (abandonForLink s).tsq.consoleTimer = s.tsq.consoleTimer ∧ (abandonForLink s).tsq.callLines = s.tsq.callLines ∧
    (abandonForLink s).srg.vTgt = s.srg.vTgt ∧ (abandonForLink s).srg.band = s.srg.band ∧
    (abandonForLink s).srg.fRef = s.srg.fRef ∧ (abandonForLink s).srg.insp = s.srg.insp ∧
    (abandonForLink s).srg.phase = s.srg.phase ∧ (abandonForLink s).srg.active = s.srg.active ∧
    (abandonForLink s).srg.period = s.srg.period ∧ (abandonForLink s).srg.dir = s.srg.dir ∧
    (abandonForLink s).obs.fSup = s.obs.fSup ∧ (abandonForLink s).obs.inspSup = s.obs.inspSup ∧
    (abandonForLink s).obs.aSup = s.obs.aSup ∧ (abandonForLink s).obs.direction = s.obs.direction ∧
    (abandonForLink s).obs.rE2 = s.obs.rE2 ∧ (abandonForLink s).obs.pS = s.obs.pS ∧
    (abandonForLink s).obs.still = s.obs.still ∧
    (abandonForLink s).obs.causes = s.obs.causes ∧ (abandonForLink s).obs.trippedFrom = s.obs.trippedFrom ∧
    (abandonForLink s).obs.stopLatch = s.obs.stopLatch ∧ (abandonForLink s).obs.brakes = s.obs.brakes ∧
    (abandonForLink s).obs.railBrake = s.obs.railBrake ∧ (abandonForLink s).obs.pfail = s.obs.pfail ∧
    (abandonForLink s).obs.carFault = s.obs.carFault ∧ (abandonForLink s).rmu.channels = s.rmu.channels ∧
    (abandonForLink s).rmu.x2 = s.rmu.x2 ∧ (abandonForLink s).rmu.dx2 = s.rmu.dx2 ∧
    (abandonForLink s).rmu.vSup = s.rmu.vSup ∧ (abandonForLink s).rmu.vAvg = s.rmu.vAvg ∧
    (abandonForLink s).rmu.known = s.rmu.known ∧ (abandonForLink s).rmu.twoChannel = s.rmu.twoChannel ∧
    (abandonForLink s).rmu.pA = s.rmu.pA ∧ (abandonForLink s).rmu.p1 = s.rmu.p1 ∧
    (abandonForLink s).rmu.p2 = s.rmu.p2 ∧ (abandonForLink s).rmu.dM2 = s.rmu.dM2 ∧
    (abandonForLink s).rmu.dSL = s.rmu.dSL ∧ (abandonForLink s).bcu.loads = s.bcu.loads := by
  unfold abandonForLink; split <;> simp

@[simp] theorem consoleSilence_keeps (s : State) :
    (consoleSilence s).lts = s.lts ∧ (consoleSilence s).cpt = s.cpt ∧ (consoleSilence s).clock = s.clock ∧
    (consoleSilence s).timeOfDay = s.timeOfDay ∧ (consoleSilence s).minuteMs = s.minuteMs ∧
    (consoleSilence s).freeIndex = s.freeIndex ∧ (consoleSilence s).pending = s.pending ∧
    (consoleSilence s).tsq.direction = s.tsq.direction ∧ (consoleSilence s).tsq.origin = s.tsq.origin ∧
    (consoleSilence s).tsq.target = s.tsq.target ∧ (consoleSilence s).tsq.mode = s.tsq.mode ∧
    (consoleSilence s).tsq.halts = s.tsq.halts ∧ (consoleSilence s).tsq.callLines = s.tsq.callLines ∧
    (consoleSilence s).srg.vTgt = s.srg.vTgt ∧ (consoleSilence s).srg.band = s.srg.band ∧
    (consoleSilence s).srg.fRef = s.srg.fRef ∧ (consoleSilence s).srg.insp = s.srg.insp ∧
    (consoleSilence s).srg.phase = s.srg.phase ∧ (consoleSilence s).srg.active = s.srg.active ∧
    (consoleSilence s).srg.period = s.srg.period ∧ (consoleSilence s).srg.dir = s.srg.dir ∧
    (consoleSilence s).obs.fSup = s.obs.fSup ∧ (consoleSilence s).obs.inspSup = s.obs.inspSup ∧
    (consoleSilence s).obs.aSup = s.obs.aSup ∧ (consoleSilence s).obs.direction = s.obs.direction ∧
    (consoleSilence s).obs.rE2 = s.obs.rE2 ∧ (consoleSilence s).obs.pS = s.obs.pS ∧
    (consoleSilence s).obs.still = s.obs.still ∧
    (consoleSilence s).obs.causes = s.obs.causes ∧ (consoleSilence s).obs.trippedFrom = s.obs.trippedFrom ∧
    (consoleSilence s).obs.stopLatch = s.obs.stopLatch ∧ (consoleSilence s).obs.brakes = s.obs.brakes ∧
    (consoleSilence s).obs.railBrake = s.obs.railBrake ∧ (consoleSilence s).obs.pfail = s.obs.pfail ∧
    (consoleSilence s).obs.carFault = s.obs.carFault ∧ (consoleSilence s).rmu.channels = s.rmu.channels ∧
    (consoleSilence s).rmu.x2 = s.rmu.x2 ∧ (consoleSilence s).rmu.dx2 = s.rmu.dx2 ∧
    (consoleSilence s).rmu.vSup = s.rmu.vSup ∧ (consoleSilence s).rmu.vAvg = s.rmu.vAvg ∧
    (consoleSilence s).rmu.known = s.rmu.known ∧ (consoleSilence s).rmu.twoChannel = s.rmu.twoChannel ∧
    (consoleSilence s).rmu.pA = s.rmu.pA ∧ (consoleSilence s).rmu.p1 = s.rmu.p1 ∧
    (consoleSilence s).rmu.p2 = s.rmu.p2 ∧ (consoleSilence s).rmu.dM2 = s.rmu.dM2 ∧
    (consoleSilence s).rmu.dSL = s.rmu.dSL ∧ (consoleSilence s).bcu.loads = s.bcu.loads := by
  simp only [consoleSilence]; split <;> simp

@[simp] theorem consoleHeard_keeps (s : State) :
    (consoleHeard s).lts = s.lts ∧ (consoleHeard s).rmu = s.rmu ∧ (consoleHeard s).cpt = s.cpt ∧
    (consoleHeard s).srg = s.srg ∧ (consoleHeard s).obs = s.obs ∧ (consoleHeard s).dru = s.dru ∧
    (consoleHeard s).bcu = s.bcu ∧ (consoleHeard s).clock = s.clock ∧ (consoleHeard s).timeOfDay = s.timeOfDay ∧
    (consoleHeard s).minuteMs = s.minuteMs ∧ (consoleHeard s).freeIndex = s.freeIndex ∧
    (consoleHeard s).pending = s.pending ∧ (consoleHeard s).tsq.state = s.tsq.state ∧
    (consoleHeard s).tsq.step = s.tsq.step ∧ (consoleHeard s).tsq.resume = s.tsq.resume ∧
    (consoleHeard s).tsq.phase = s.tsq.phase ∧ (consoleHeard s).tsq.direction = s.tsq.direction ∧
    (consoleHeard s).tsq.origin = s.tsq.origin ∧ (consoleHeard s).tsq.target = s.tsq.target ∧
    (consoleHeard s).tsq.mode = s.tsq.mode ∧ (consoleHeard s).tsq.lastChange = s.tsq.lastChange ∧
    (consoleHeard s).tsq.move = s.tsq.move ∧ (consoleHeard s).tsq.halts = s.tsq.halts ∧
    (consoleHeard s).tsq.driveRequest = s.tsq.driveRequest ∧
    (consoleHeard s).tsq.warningEnded = s.tsq.warningEnded ∧
    (consoleHeard s).tsq.closureTimer = s.tsq.closureTimer ∧ (consoleHeard s).tsq.callLines = s.tsq.callLines := by
  simp only [consoleHeard]; split <;> simp

@[simp] theorem gateHeard_keeps (st : Station) (s : State) :
    (gateHeard st s).lts = s.lts ∧ (gateHeard st s).rmu = s.rmu ∧ (gateHeard st s).cpt = s.cpt ∧
    (gateHeard st s).tsq = s.tsq ∧ (gateHeard st s).srg = s.srg ∧ (gateHeard st s).obs = s.obs ∧
    (gateHeard st s).dru = s.dru ∧ (gateHeard st s).bcu = s.bcu ∧ (gateHeard st s).clock = s.clock ∧
    (gateHeard st s).timeOfDay = s.timeOfDay ∧ (gateHeard st s).minuteMs = s.minuteMs ∧
    (gateHeard st s).freeIndex = s.freeIndex ∧ (gateHeard st s).pending = s.pending := by
  simp only [gateHeard]; split <;> simp

@[simp] theorem gateSilence_keeps (st : Station) (s : State) :
    (gateSilence st s).lts = s.lts ∧ (gateSilence st s).rmu = s.rmu ∧ (gateSilence st s).cpt = s.cpt ∧
    (gateSilence st s).tsq = s.tsq ∧ (gateSilence st s).srg = s.srg ∧ (gateSilence st s).obs = s.obs ∧
    (gateSilence st s).dru = s.dru ∧ (gateSilence st s).bcu = s.bcu ∧ (gateSilence st s).clock = s.clock ∧
    (gateSilence st s).timeOfDay = s.timeOfDay ∧ (gateSilence st s).minuteMs = s.minuteMs ∧
    (gateSilence st s).freeIndex = s.freeIndex ∧ (gateSilence st s).pending = s.pending := by
  simp [gateSilence]

@[simp] theorem carHeard_keeps (c : Car) (s : State) :
    (carHeard c s).lts = s.lts ∧ (carHeard c s).rmu = s.rmu ∧ (carHeard c s).cpt = s.cpt ∧
    (carHeard c s).tsq = s.tsq ∧ (carHeard c s).srg = s.srg ∧ (carHeard c s).obs = s.obs ∧
    (carHeard c s).bcu = s.bcu ∧ (carHeard c s).clock = s.clock ∧ (carHeard c s).timeOfDay = s.timeOfDay ∧
    (carHeard c s).minuteMs = s.minuteMs ∧ (carHeard c s).freeIndex = s.freeIndex ∧
    (carHeard c s).pending = s.pending := by
  simp only [carHeard]; split <;> simp

@[simp] theorem dropCarData_keeps (c : Car) (s : State) :
    (dropCarData c s).lts = s.lts ∧ (dropCarData c s).rmu = s.rmu ∧ (dropCarData c s).tsq = s.tsq ∧
    (dropCarData c s).srg = s.srg ∧ (dropCarData c s).obs = s.obs ∧ (dropCarData c s).dru = s.dru ∧
    (dropCarData c s).lpu = s.lpu ∧ (dropCarData c s).clock = s.clock ∧ (dropCarData c s).timeOfDay = s.timeOfDay ∧
    (dropCarData c s).minuteMs = s.minuteMs ∧ (dropCarData c s).freeIndex = s.freeIndex ∧
    (dropCarData c s).pending = s.pending ∧ (dropCarData c s).cpt.target = s.cpt.target ∧
    (dropCarData c s).bcu.batches = s.bcu.batches := by
  simp [dropCarData]

@[simp] theorem carSilence_keeps (c : Car) (s : State) :
    (carSilence c s).lts = s.lts ∧ (carSilence c s).clock = s.clock ∧ (carSilence c s).timeOfDay = s.timeOfDay ∧
    (carSilence c s).minuteMs = s.minuteMs ∧ (carSilence c s).freeIndex = s.freeIndex ∧
    (carSilence c s).pending = s.pending ∧ (carSilence c s).tsq.direction = s.tsq.direction ∧
    (carSilence c s).tsq.origin = s.tsq.origin ∧ (carSilence c s).tsq.mode = s.tsq.mode ∧
    (carSilence c s).tsq.silent = s.tsq.silent ∧ (carSilence c s).tsq.consoleTimer = s.tsq.consoleTimer ∧
    (carSilence c s).tsq.callLines = s.tsq.callLines ∧ (carSilence c s).srg.band = s.srg.band ∧
    (carSilence c s).srg.fRef = s.srg.fRef ∧ (carSilence c s).srg.insp = s.srg.insp ∧
    (carSilence c s).srg.phase = s.srg.phase ∧ (carSilence c s).srg.active = s.srg.active ∧
    (carSilence c s).srg.period = s.srg.period ∧ (carSilence c s).srg.dir = s.srg.dir ∧
    (carSilence c s).obs.fSup = s.obs.fSup ∧ (carSilence c s).obs.inspSup = s.obs.inspSup ∧
    (carSilence c s).obs.aSup = s.obs.aSup ∧ (carSilence c s).obs.direction = s.obs.direction ∧
    (carSilence c s).obs.pS = s.obs.pS ∧
    (carSilence c s).obs.still = s.obs.still ∧ (carSilence c s).obs.stopLatch = s.obs.stopLatch ∧
    (carSilence c s).obs.pfail = s.obs.pfail ∧ (carSilence c s).obs.carFault = s.obs.carFault ∧
    (carSilence c s).rmu.channels = s.rmu.channels ∧ (carSilence c s).rmu.x2 = s.rmu.x2 ∧
    (carSilence c s).rmu.dx2 = s.rmu.dx2 ∧ (carSilence c s).rmu.vSup = s.rmu.vSup ∧
    (carSilence c s).rmu.vAvg = s.rmu.vAvg ∧ (carSilence c s).rmu.known = s.rmu.known ∧
    (carSilence c s).rmu.twoChannel = s.rmu.twoChannel ∧ (carSilence c s).rmu.pA = s.rmu.pA ∧
    (carSilence c s).rmu.p1 = s.rmu.p1 ∧ (carSilence c s).rmu.p2 = s.rmu.p2 ∧
    (carSilence c s).rmu.dM2 = s.rmu.dM2 ∧ (carSilence c s).rmu.dSL = s.rmu.dSL := by
  simp only [carSilence]; split <;> (try split) <;> simp

@[simp] theorem takeTimeSet_keeps (m : Nat) (s : State) :
    (takeTimeSet m s).2.lts = s.lts ∧ (takeTimeSet m s).2.rmu = s.rmu ∧ (takeTimeSet m s).2.cpt = s.cpt ∧
    (takeTimeSet m s).2.tsq = s.tsq ∧ (takeTimeSet m s).2.srg = s.srg ∧ (takeTimeSet m s).2.obs = s.obs ∧
    (takeTimeSet m s).2.dru = s.dru ∧ (takeTimeSet m s).2.bcu = s.bcu ∧ (takeTimeSet m s).2.lpu = s.lpu ∧
    (takeTimeSet m s).2.clock = s.clock ∧ (takeTimeSet m s).2.freeIndex = s.freeIndex ∧
    (takeTimeSet m s).2.pending = s.pending := by
  unfold takeTimeSet; split <;> simp

@[simp] theorem setChannelState_keeps (i : Fin 4) (x : ChannelState) (s : State) :
    (setChannelState i x s).lts = s.lts ∧ (setChannelState i x s).cpt = s.cpt ∧
    (setChannelState i x s).tsq = s.tsq ∧ (setChannelState i x s).srg = s.srg ∧
    (setChannelState i x s).obs = s.obs ∧ (setChannelState i x s).dru = s.dru ∧
    (setChannelState i x s).bcu = s.bcu ∧ (setChannelState i x s).lpu = s.lpu ∧
    (setChannelState i x s).clock = s.clock ∧ (setChannelState i x s).timeOfDay = s.timeOfDay ∧
    (setChannelState i x s).minuteMs = s.minuteMs ∧ (setChannelState i x s).freeIndex = s.freeIndex ∧
    (setChannelState i x s).pending = s.pending ∧ (setChannelState i x s).rmu.x2 = s.rmu.x2 ∧
    (setChannelState i x s).rmu.dx2 = s.rmu.dx2 ∧ (setChannelState i x s).rmu.vSup = s.rmu.vSup ∧
    (setChannelState i x s).rmu.vAvg = s.rmu.vAvg ∧ (setChannelState i x s).rmu.known = s.rmu.known ∧
    (setChannelState i x s).rmu.twoChannel = s.rmu.twoChannel ∧ (setChannelState i x s).rmu.dM2 = s.rmu.dM2 ∧
    (setChannelState i x s).rmu.dSL = s.rmu.dSL ∧ (setChannelState i x s).rmu.slipActive = s.rmu.slipActive := by
  simp only [setChannelState, updRmu_rmu]; split <;> simp

@[simp] theorem serveChannel_keeps (i : Fin 4) (x : ChannelState) (s : State) :
    (serveChannel i x s).2.lts = s.lts ∧ (serveChannel i x s).2.cpt = s.cpt ∧ (serveChannel i x s).2.tsq = s.tsq ∧
    (serveChannel i x s).2.srg = s.srg ∧ (serveChannel i x s).2.obs = s.obs ∧ (serveChannel i x s).2.dru = s.dru ∧
    (serveChannel i x s).2.bcu = s.bcu ∧ (serveChannel i x s).2.lpu = s.lpu ∧
    (serveChannel i x s).2.clock = s.clock ∧ (serveChannel i x s).2.timeOfDay = s.timeOfDay ∧
    (serveChannel i x s).2.minuteMs = s.minuteMs ∧ (serveChannel i x s).2.freeIndex = s.freeIndex ∧
    (serveChannel i x s).2.pending = s.pending ∧ (serveChannel i x s).2.rmu.x2 = s.rmu.x2 ∧
    (serveChannel i x s).2.rmu.dx2 = s.rmu.dx2 ∧ (serveChannel i x s).2.rmu.vSup = s.rmu.vSup ∧
    (serveChannel i x s).2.rmu.vAvg = s.rmu.vAvg ∧ (serveChannel i x s).2.rmu.known = s.rmu.known ∧
    (serveChannel i x s).2.rmu.twoChannel = s.rmu.twoChannel ∧ (serveChannel i x s).2.rmu.dM2 = s.rmu.dM2 ∧
    (serveChannel i x s).2.rmu.dSL = s.rmu.dSL ∧ (serveChannel i x s).2.rmu.slipActive = s.rmu.slipActive := by
  unfold serveChannel; split <;> (try split) <;> (try split) <;> (try split) <;> simp

@[simp] theorem takeChannelService_keeps (c a : Byte) (s : State) :
    (takeChannelService c a s).2.lts = s.lts ∧ (takeChannelService c a s).2.cpt = s.cpt ∧
    (takeChannelService c a s).2.tsq = s.tsq ∧ (takeChannelService c a s).2.srg = s.srg ∧
    (takeChannelService c a s).2.obs = s.obs ∧ (takeChannelService c a s).2.dru = s.dru ∧
    (takeChannelService c a s).2.bcu = s.bcu ∧ (takeChannelService c a s).2.lpu = s.lpu ∧
    (takeChannelService c a s).2.clock = s.clock ∧ (takeChannelService c a s).2.timeOfDay = s.timeOfDay ∧
    (takeChannelService c a s).2.minuteMs = s.minuteMs ∧ (takeChannelService c a s).2.freeIndex = s.freeIndex ∧
    (takeChannelService c a s).2.pending = s.pending ∧ (takeChannelService c a s).2.rmu.x2 = s.rmu.x2 ∧
    (takeChannelService c a s).2.rmu.dx2 = s.rmu.dx2 ∧ (takeChannelService c a s).2.rmu.vSup = s.rmu.vSup ∧
    (takeChannelService c a s).2.rmu.vAvg = s.rmu.vAvg ∧ (takeChannelService c a s).2.rmu.known = s.rmu.known ∧
    (takeChannelService c a s).2.rmu.twoChannel = s.rmu.twoChannel ∧
    (takeChannelService c a s).2.rmu.dM2 = s.rmu.dM2 ∧ (takeChannelService c a s).2.rmu.dSL = s.rmu.dSL ∧
    (takeChannelService c a s).2.rmu.slipActive = s.rmu.slipActive := by
  unfold takeChannelService; split <;> (try split) <;> simp

/-! ### Store -/

@[simp] theorem takeTableWrite_keeps (t i pr : Byte) (c : List Byte) (s : State) :
    (takeTableWrite t i pr c s).2.rmu = s.rmu ∧ (takeTableWrite t i pr c s).2.cpt = s.cpt ∧
    (takeTableWrite t i pr c s).2.tsq = s.tsq ∧ (takeTableWrite t i pr c s).2.srg = s.srg ∧
    (takeTableWrite t i pr c s).2.obs = s.obs ∧ (takeTableWrite t i pr c s).2.dru = s.dru ∧
    (takeTableWrite t i pr c s).2.bcu = s.bcu ∧ (takeTableWrite t i pr c s).2.lpu = s.lpu ∧
    (takeTableWrite t i pr c s).2.clock = s.clock ∧ (takeTableWrite t i pr c s).2.timeOfDay = s.timeOfDay ∧
    (takeTableWrite t i pr c s).2.minuteMs = s.minuteMs ∧ (takeTableWrite t i pr c s).2.freeIndex = s.freeIndex ∧
    (takeTableWrite t i pr c s).2.pending = s.pending := by
  unfold takeTableWrite; split <;> simp

/-! ### Ports -/

@[simp] theorem obsReport_keeps (c : Car) (r : CarReport) (s : State) :
    (obsReport c r s).lts = s.lts ∧ (obsReport c r s).clock = s.clock ∧ (obsReport c r s).timeOfDay = s.timeOfDay ∧
    (obsReport c r s).minuteMs = s.minuteMs ∧ (obsReport c r s).freeIndex = s.freeIndex ∧
    (obsReport c r s).pending = s.pending ∧ (obsReport c r s).tsq.direction = s.tsq.direction ∧
    (obsReport c r s).tsq.origin = s.tsq.origin ∧ (obsReport c r s).tsq.target = s.tsq.target ∧
    (obsReport c r s).tsq.mode = s.tsq.mode ∧ (obsReport c r s).tsq.silent = s.tsq.silent ∧
    (obsReport c r s).tsq.halts = s.tsq.halts ∧ (obsReport c r s).tsq.consoleTimer = s.tsq.consoleTimer ∧
    (obsReport c r s).tsq.callLines = s.tsq.callLines ∧ (obsReport c r s).srg.band = s.srg.band ∧
    (obsReport c r s).srg.fRef = s.srg.fRef ∧ (obsReport c r s).srg.insp = s.srg.insp ∧
    (obsReport c r s).srg.phase = s.srg.phase ∧ (obsReport c r s).srg.active = s.srg.active ∧
    (obsReport c r s).srg.period = s.srg.period ∧ (obsReport c r s).srg.dir = s.srg.dir ∧
    (obsReport c r s).obs.fSup = s.obs.fSup ∧ (obsReport c r s).obs.inspSup = s.obs.inspSup ∧
    (obsReport c r s).obs.aSup = s.obs.aSup ∧ (obsReport c r s).obs.direction = s.obs.direction ∧
    (obsReport c r s).obs.pS = s.obs.pS ∧
    (obsReport c r s).obs.still = s.obs.still ∧ (obsReport c r s).obs.stopLatch = s.obs.stopLatch ∧
    (obsReport c r s).obs.pfail = s.obs.pfail ∧ (obsReport c r s).rmu.channels = s.rmu.channels ∧
    (obsReport c r s).rmu.x2 = s.rmu.x2 ∧ (obsReport c r s).rmu.dx2 = s.rmu.dx2 ∧
    (obsReport c r s).rmu.vSup = s.rmu.vSup ∧ (obsReport c r s).rmu.vAvg = s.rmu.vAvg ∧
    (obsReport c r s).rmu.known = s.rmu.known ∧ (obsReport c r s).rmu.twoChannel = s.rmu.twoChannel ∧
    (obsReport c r s).rmu.pA = s.rmu.pA ∧ (obsReport c r s).rmu.p1 = s.rmu.p1 ∧
    (obsReport c r s).rmu.p2 = s.rmu.p2 ∧ (obsReport c r s).rmu.dM2 = s.rmu.dM2 ∧
    (obsReport c r s).rmu.dSL = s.rmu.dSL ∧ (obsReport c r s).cpt.cars = s.cpt.cars ∧
    (obsReport c r s).bcu.loads = s.bcu.loads := by
  simp only [obsReport]; split <;> simp

@[simp] theorem takeSubscribe_keeps (p : PortId) (k : Half) (s : State) :
    (takeSubscribe p k s).lts = s.lts ∧ (takeSubscribe p k s).rmu = s.rmu ∧ (takeSubscribe p k s).cpt = s.cpt ∧
    (takeSubscribe p k s).tsq = s.tsq ∧ (takeSubscribe p k s).srg = s.srg ∧ (takeSubscribe p k s).obs = s.obs ∧
    (takeSubscribe p k s).dru = s.dru ∧ (takeSubscribe p k s).bcu = s.bcu ∧ (takeSubscribe p k s).clock = s.clock ∧
    (takeSubscribe p k s).timeOfDay = s.timeOfDay ∧ (takeSubscribe p k s).minuteMs = s.minuteMs ∧
    (takeSubscribe p k s).freeIndex = s.freeIndex ∧ (takeSubscribe p k s).pending = s.pending := by
  simp [takeSubscribe]

@[simp] theorem takeEvents_keeps (p : PortId) (s : State) :
    (takeEvents p s).2.lts = s.lts ∧ (takeEvents p s).2.rmu = s.rmu ∧ (takeEvents p s).2.cpt = s.cpt ∧
    (takeEvents p s).2.tsq = s.tsq ∧ (takeEvents p s).2.srg = s.srg ∧ (takeEvents p s).2.obs = s.obs ∧
    (takeEvents p s).2.dru = s.dru ∧ (takeEvents p s).2.bcu = s.bcu ∧ (takeEvents p s).2.clock = s.clock ∧
    (takeEvents p s).2.timeOfDay = s.timeOfDay ∧ (takeEvents p s).2.minuteMs = s.minuteMs ∧
    (takeEvents p s).2.freeIndex = s.freeIndex ∧ (takeEvents p s).2.pending = s.pending := by
  simp [takeEvents]

@[simp] theorem portHeard_keeps (p : PortId) (s : State) :
    (portHeard p s).lts = s.lts ∧ (portHeard p s).rmu = s.rmu ∧ (portHeard p s).cpt = s.cpt ∧
    (portHeard p s).srg = s.srg ∧ (portHeard p s).obs = s.obs ∧ (portHeard p s).dru = s.dru ∧
    (portHeard p s).bcu = s.bcu ∧ (portHeard p s).clock = s.clock ∧ (portHeard p s).timeOfDay = s.timeOfDay ∧
    (portHeard p s).minuteMs = s.minuteMs ∧ (portHeard p s).freeIndex = s.freeIndex ∧
    (portHeard p s).pending = s.pending ∧ (portHeard p s).tsq.state = s.tsq.state ∧
    (portHeard p s).tsq.step = s.tsq.step ∧ (portHeard p s).tsq.resume = s.tsq.resume ∧
    (portHeard p s).tsq.phase = s.tsq.phase ∧ (portHeard p s).tsq.direction = s.tsq.direction ∧
    (portHeard p s).tsq.origin = s.tsq.origin ∧ (portHeard p s).tsq.target = s.tsq.target ∧
    (portHeard p s).tsq.mode = s.tsq.mode ∧ (portHeard p s).tsq.lastChange = s.tsq.lastChange ∧
    (portHeard p s).tsq.move = s.tsq.move ∧ (portHeard p s).tsq.halts = s.tsq.halts ∧
    (portHeard p s).tsq.driveRequest = s.tsq.driveRequest ∧ (portHeard p s).tsq.warningEnded = s.tsq.warningEnded ∧
    (portHeard p s).tsq.closureTimer = s.tsq.closureTimer ∧ (portHeard p s).tsq.callLines = s.tsq.callLines := by
  cases p <;> simp [portHeard]

/-! ### Measurement -/

@[simp] theorem testDisagreement_keeps (s : State) :
    (testDisagreement s).lts = s.lts ∧ (testDisagreement s).clock = s.clock ∧
    (testDisagreement s).timeOfDay = s.timeOfDay ∧ (testDisagreement s).minuteMs = s.minuteMs ∧
    (testDisagreement s).pending = s.pending ∧ (testDisagreement s).tsq.direction = s.tsq.direction ∧
    (testDisagreement s).tsq.origin = s.tsq.origin ∧ (testDisagreement s).tsq.target = s.tsq.target ∧
    (testDisagreement s).tsq.mode = s.tsq.mode ∧ (testDisagreement s).tsq.silent = s.tsq.silent ∧
    (testDisagreement s).tsq.halts = s.tsq.halts ∧ (testDisagreement s).tsq.consoleTimer = s.tsq.consoleTimer ∧
    (testDisagreement s).tsq.callLines = s.tsq.callLines ∧ (testDisagreement s).srg.band = s.srg.band ∧
    (testDisagreement s).srg.fRef = s.srg.fRef ∧ (testDisagreement s).srg.insp = s.srg.insp ∧
    (testDisagreement s).srg.phase = s.srg.phase ∧ (testDisagreement s).srg.active = s.srg.active ∧
    (testDisagreement s).srg.period = s.srg.period ∧ (testDisagreement s).srg.dir = s.srg.dir ∧
    (testDisagreement s).obs.fSup = s.obs.fSup ∧ (testDisagreement s).obs.inspSup = s.obs.inspSup ∧
    (testDisagreement s).obs.aSup = s.obs.aSup ∧ (testDisagreement s).obs.direction = s.obs.direction ∧
    (testDisagreement s).obs.pS = s.obs.pS ∧
    (testDisagreement s).obs.still = s.obs.still ∧ (testDisagreement s).obs.stopLatch = s.obs.stopLatch ∧
    (testDisagreement s).obs.pfail = s.obs.pfail ∧ (testDisagreement s).obs.carFault = s.obs.carFault ∧
    (testDisagreement s).rmu.x2 = s.rmu.x2 ∧ (testDisagreement s).rmu.dx2 = s.rmu.dx2 ∧
    (testDisagreement s).rmu.vSup = s.rmu.vSup ∧ (testDisagreement s).rmu.vAvg = s.rmu.vAvg ∧
    (testDisagreement s).rmu.known = s.rmu.known ∧ (testDisagreement s).rmu.twoChannel = s.rmu.twoChannel ∧
    (testDisagreement s).rmu.dM2 = s.rmu.dM2 ∧ (testDisagreement s).rmu.dSL = s.rmu.dSL ∧
    (testDisagreement s).cpt.cars = s.cpt.cars ∧ (testDisagreement s).bcu.loads = s.bcu.loads := by
  unfold testDisagreement recordDisagreement; split <;> (try split) <;> simp [Rmu.failMain]

@[simp] theorem actOnSample_keeps (s : State) :
    (actOnSample s).lts = s.lts ∧ (actOnSample s).clock = s.clock ∧ (actOnSample s).timeOfDay = s.timeOfDay ∧
    (actOnSample s).minuteMs = s.minuteMs ∧ (actOnSample s).freeIndex = s.freeIndex ∧
    (actOnSample s).pending = s.pending ∧ (actOnSample s).tsq.direction = s.tsq.direction ∧
    (actOnSample s).tsq.origin = s.tsq.origin ∧ (actOnSample s).tsq.mode = s.tsq.mode ∧
    (actOnSample s).tsq.silent = s.tsq.silent ∧ (actOnSample s).tsq.consoleTimer = s.tsq.consoleTimer ∧
    (actOnSample s).tsq.callLines = s.tsq.callLines ∧ (actOnSample s).srg.band = s.srg.band ∧
    (actOnSample s).srg.fRef = s.srg.fRef ∧ (actOnSample s).srg.insp = s.srg.insp ∧
    (actOnSample s).srg.active = s.srg.active ∧ (actOnSample s).srg.period = s.srg.period ∧
    (actOnSample s).srg.dir = s.srg.dir ∧ (actOnSample s).obs.fSup = s.obs.fSup ∧
    (actOnSample s).obs.inspSup = s.obs.inspSup ∧ (actOnSample s).obs.aSup = s.obs.aSup ∧
    (actOnSample s).obs.direction = s.obs.direction ∧ (actOnSample s).obs.pfail = s.obs.pfail ∧
    (actOnSample s).obs.carFault = s.obs.carFault ∧ (actOnSample s).rmu.channels = s.rmu.channels ∧
    (actOnSample s).rmu.x2 = s.rmu.x2 ∧ (actOnSample s).rmu.dx2 = s.rmu.dx2 ∧
    (actOnSample s).rmu.vSup = s.rmu.vSup ∧ (actOnSample s).rmu.vAvg = s.rmu.vAvg ∧
    (actOnSample s).rmu.known = s.rmu.known ∧ (actOnSample s).rmu.twoChannel = s.rmu.twoChannel ∧
    (actOnSample s).rmu.pA = s.rmu.pA ∧ (actOnSample s).rmu.p1 = s.rmu.p1 ∧ (actOnSample s).rmu.p2 = s.rmu.p2 ∧
    (actOnSample s).rmu.dM2 = s.rmu.dM2 ∧ (actOnSample s).rmu.dSL = s.rmu.dSL ∧
    (actOnSample s).bcu.loads = s.bcu.loads := by
  simp [actOnSample]

/-! ### Expiries -/

@[simp] theorem failProof_keeps (b : Brake) (r : BrakeRecord) (s : State) :
    (failProof b r s).lts = s.lts ∧ (failProof b r s).clock = s.clock ∧ (failProof b r s).timeOfDay = s.timeOfDay ∧
    (failProof b r s).minuteMs = s.minuteMs ∧ (failProof b r s).freeIndex = s.freeIndex ∧
    (failProof b r s).pending = s.pending ∧ (failProof b r s).tsq.direction = s.tsq.direction ∧
    (failProof b r s).tsq.origin = s.tsq.origin ∧ (failProof b r s).tsq.target = s.tsq.target ∧
    (failProof b r s).tsq.mode = s.tsq.mode ∧ (failProof b r s).tsq.silent = s.tsq.silent ∧
    (failProof b r s).tsq.halts = s.tsq.halts ∧ (failProof b r s).tsq.consoleTimer = s.tsq.consoleTimer ∧
    (failProof b r s).tsq.callLines = s.tsq.callLines ∧ (failProof b r s).srg.band = s.srg.band ∧
    (failProof b r s).srg.fRef = s.srg.fRef ∧ (failProof b r s).srg.insp = s.srg.insp ∧
    (failProof b r s).srg.phase = s.srg.phase ∧ (failProof b r s).srg.active = s.srg.active ∧
    (failProof b r s).srg.period = s.srg.period ∧ (failProof b r s).srg.dir = s.srg.dir ∧
    (failProof b r s).obs.fSup = s.obs.fSup ∧ (failProof b r s).obs.inspSup = s.obs.inspSup ∧
    (failProof b r s).obs.aSup = s.obs.aSup ∧ (failProof b r s).obs.direction = s.obs.direction ∧
    (failProof b r s).obs.pS = s.obs.pS ∧
    (failProof b r s).obs.still = s.obs.still ∧ (failProof b r s).obs.stopLatch = s.obs.stopLatch ∧
    (failProof b r s).obs.pfail = s.obs.pfail ∧ (failProof b r s).obs.carFault = s.obs.carFault ∧
    (failProof b r s).rmu.channels = s.rmu.channels ∧ (failProof b r s).rmu.x2 = s.rmu.x2 ∧
    (failProof b r s).rmu.dx2 = s.rmu.dx2 ∧ (failProof b r s).rmu.vSup = s.rmu.vSup ∧
    (failProof b r s).rmu.vAvg = s.rmu.vAvg ∧ (failProof b r s).rmu.known = s.rmu.known ∧
    (failProof b r s).rmu.twoChannel = s.rmu.twoChannel ∧ (failProof b r s).rmu.pA = s.rmu.pA ∧
    (failProof b r s).rmu.p1 = s.rmu.p1 ∧ (failProof b r s).rmu.p2 = s.rmu.p2 ∧
    (failProof b r s).rmu.dM2 = s.rmu.dM2 ∧ (failProof b r s).rmu.dSL = s.rmu.dSL ∧
    (failProof b r s).cpt.cars = s.cpt.cars ∧ (failProof b r s).bcu.loads = s.bcu.loads := by
  simp [failProof]

@[simp] theorem feedback_keeps (b : Brake) (x : Feedback) (s : State) :
    (feedback b x s).lts = s.lts ∧ (feedback b x s).clock = s.clock ∧ (feedback b x s).timeOfDay = s.timeOfDay ∧
    (feedback b x s).minuteMs = s.minuteMs ∧ (feedback b x s).freeIndex = s.freeIndex ∧
    (feedback b x s).pending = s.pending ∧ (feedback b x s).tsq.direction = s.tsq.direction ∧
    (feedback b x s).tsq.origin = s.tsq.origin ∧ (feedback b x s).tsq.mode = s.tsq.mode ∧
    (feedback b x s).tsq.silent = s.tsq.silent ∧ (feedback b x s).tsq.consoleTimer = s.tsq.consoleTimer ∧
    (feedback b x s).tsq.callLines = s.tsq.callLines ∧ (feedback b x s).srg.band = s.srg.band ∧
    (feedback b x s).srg.fRef = s.srg.fRef ∧ (feedback b x s).srg.insp = s.srg.insp ∧
    (feedback b x s).srg.phase = s.srg.phase ∧ (feedback b x s).srg.active = s.srg.active ∧
    (feedback b x s).srg.period = s.srg.period ∧ (feedback b x s).srg.dir = s.srg.dir ∧
    (feedback b x s).obs.fSup = s.obs.fSup ∧ (feedback b x s).obs.inspSup = s.obs.inspSup ∧
    (feedback b x s).obs.aSup = s.obs.aSup ∧ (feedback b x s).obs.direction = s.obs.direction ∧
    (feedback b x s).obs.pS = s.obs.pS ∧
    (feedback b x s).obs.still = s.obs.still ∧ (feedback b x s).obs.stopLatch = s.obs.stopLatch ∧
    (feedback b x s).obs.pfail = s.obs.pfail ∧ (feedback b x s).obs.carFault = s.obs.carFault ∧
    (feedback b x s).rmu.channels = s.rmu.channels ∧ (feedback b x s).rmu.x2 = s.rmu.x2 ∧
    (feedback b x s).rmu.dx2 = s.rmu.dx2 ∧ (feedback b x s).rmu.vSup = s.rmu.vSup ∧
    (feedback b x s).rmu.vAvg = s.rmu.vAvg ∧ (feedback b x s).rmu.known = s.rmu.known ∧
    (feedback b x s).rmu.twoChannel = s.rmu.twoChannel ∧ (feedback b x s).rmu.pA = s.rmu.pA ∧
    (feedback b x s).rmu.p1 = s.rmu.p1 ∧ (feedback b x s).rmu.p2 = s.rmu.p2 ∧
    (feedback b x s).rmu.dM2 = s.rmu.dM2 ∧ (feedback b x s).rmu.dSL = s.rmu.dSL ∧
    (feedback b x s).bcu.loads = s.bcu.loads := by
  simp only [feedback]; split <;> (try split) <;> simp

@[simp] theorem takeCall_keeps (l : Fin 8) (s : State) :
    (takeCall l s).lts = s.lts ∧ (takeCall l s).rmu = s.rmu ∧ (takeCall l s).srg = s.srg ∧
    (takeCall l s).obs = s.obs ∧ (takeCall l s).dru = s.dru ∧ (takeCall l s).bcu = s.bcu ∧
    (takeCall l s).clock = s.clock ∧ (takeCall l s).timeOfDay = s.timeOfDay ∧
    (takeCall l s).minuteMs = s.minuteMs ∧ (takeCall l s).freeIndex = s.freeIndex ∧
    (takeCall l s).pending = s.pending ∧ (takeCall l s).tsq.state = s.tsq.state ∧
    (takeCall l s).tsq.step = s.tsq.step ∧ (takeCall l s).tsq.resume = s.tsq.resume ∧
    (takeCall l s).tsq.phase = s.tsq.phase ∧ (takeCall l s).tsq.direction = s.tsq.direction ∧
    (takeCall l s).tsq.origin = s.tsq.origin ∧ (takeCall l s).tsq.mode = s.tsq.mode ∧
    (takeCall l s).tsq.lastChange = s.tsq.lastChange ∧ (takeCall l s).tsq.silent = s.tsq.silent ∧
    (takeCall l s).tsq.move = s.tsq.move ∧ (takeCall l s).tsq.driveRequest = s.tsq.driveRequest ∧
    (takeCall l s).tsq.warningEnded = s.tsq.warningEnded ∧ (takeCall l s).tsq.closureTimer = s.tsq.closureTimer ∧
    (takeCall l s).tsq.consoleTimer = s.tsq.consoleTimer ∧ (takeCall l s).tsq.callLines = s.tsq.callLines ∧
    (takeCall l s).cpt.cars = s.cpt.cars := by
  unfold takeCall; split <;> (try split) <;> simp

end Sys2Proof.Machine
end

