-- ==== Sys2Proof/Laws/Causes.lean ====
section
/-! SUPPORT. What a change of the trip state and a cause do, said once. -/

namespace Sys2Proof.Machine

/-! ### A change of the trip state (R100) -/

/-- A change to the same state is not a change. -/
theorem changeTrip_same {new : TripState} (step : Option Step) {s : State} (h : s.tsq.state = new) :
    changeTrip new step s = s := by
  simp [changeTrip, h]

/-- The trip record after a change of state. -/
theorem changeTrip_tsq {new : TripState} (step : Option Step) {s : State} (h : s.tsq.state ≠ new) :
    (changeTrip new step s).tsq =
      { s.tsq with
        state := new, step := step, lastChange := s.clock, phase := none, warningEnded := false, closureTimer := none,
        move := if new = .inspecting then s.tsq.move else none,
        resume := decide (new = .departing) && s.tsq.resume,
        driveRequest := new.keepsDrive && s.tsq.driveRequest } := by
  simp [changeTrip, h, recordTrip]

/-- The state after a change of state. -/
@[simp] theorem changeTrip_state (new : TripState) (step : Option Step) (s : State) :
    (changeTrip new step s).tsq.state = new := by
  by_cases h : s.tsq.state = new
  · rw [changeTrip_same step h, h]
  · rw [changeTrip_tsq step h]

/-- The OBS after a change of state. -/
theorem changeTrip_obs {new : TripState} (step : Option Step) {s : State} (h : s.tsq.state ≠ new) :
    (changeTrip new step s).obs = (obsOnTrip new s).obs := by
  simp [changeTrip, h, obsOnTrip]

/-- The RMU after a change of state: the slip check alone may end (R34). -/
theorem changeTrip_rmu {new : TripState} (step : Option Step) {s : State} (h : s.tsq.state ≠ new) :
    (changeTrip new step s).rmu =
      { s.rmu with slipActive := s.rmu.slipActive && !new.endsTravel && decide (new ≠ .configuring) } := by
  simp [changeTrip, h, rmuOnTrip]

/-- A reference at rest is as it was or 0 (R57). -/
theorem restReference_vRef (s : State) :
    (restReference s).srg.vRef = s.srg.vRef ∨ (restReference s).srg.vRef = 0 := by
  unfold restReference; split <;> simp [Srg.zeroed]

/-- The reference after a change of state is as it was or 0. -/
theorem changeTrip_vRef (new : TripState) (step : Option Step) (s : State) :
    (changeTrip new step s).srg.vRef = s.srg.vRef ∨ (changeTrip new step s).srg.vRef = 0 := by
  unfold changeTrip
  split
  · exact .inl rfl
  · have h := restReference_vRef
      ((bcuOnTrip new (testDoors (obsOnTrip new (recordTrip new step s)))).updSrg (Srg.onTrip s.tsq.state new))
    simpa [srgOnTrip, Srg.onTrip] using h

/-- The permitted speed after a change of state is as it was or absent. -/
theorem changeTrip_vPerm (new : TripState) (step : Option Step) (s : State) :
    (changeTrip new step s).obs.vPerm2 = s.obs.vPerm2 ∨ (changeTrip new step s).obs.vPerm2 = none := by
  by_cases h : s.tsq.state = new
  · rw [changeTrip_same step h]; exact .inl rfl
  · rw [changeTrip_obs step h]
    simp only [obsOnTrip, updObs_obs]
    split <;> simp

/-! ### Severities (R82, R86) -/

theorem Braking.max_code (x y : Braking) : (x.max y).code = Nat.max x.code y.code := by
  cases x <;> cases y <;> rfl

theorem Braking.code_inj {x y : Braking} (h : x.code = y.code) : x = y := by
  cases x <;> cases y <;> simp_all [Braking.code]

/-- The braking that a longer list puts in force (R86). -/
theorem brakingOf_append (l : List CauseEntry) (e : CauseEntry) :
    brakingOf (l ++ [e]) = (brakingOf l).max e.kind.severity := by
  simp [brakingOf, List.foldl_append]

@[simp] theorem brakingOf_nil : brakingOf [] = .none := rfl

/-- No severity is NONE. -/
theorem severity_ne_none (k : CauseKind) : k.severity ≠ .none := by
  cases k <;> decide

/-! ### Brakes (R93, R94) -/

theorem PerBrake.get_set {α : Type} (v : PerBrake α) (b d : Brake) (x : α) :
    (v.set b x).get d = if d = b then x else v.get d := by
  cases b <;> cases d <;> rfl

@[simp] theorem setBrake_brakes (b : Brake) (r : BrakeRecord) (s : State) :
    (setBrake b r s).obs.brakes = s.obs.brakes.set b r := by
  unfold setBrake; split <;> simp

@[simp] theorem applied_command (n : Nat) (r : BrakeRecord) : (r.applied n).command = .applied := by
  unfold BrakeRecord.applied; split <;> rfl

@[simp] theorem raised_command (n : Nat) (r : BrakeRecord) : (r.raised n).command = .lifted := by
  unfold BrakeRecord.raised; split <;> rfl

/-- A brake after an APPLIED command: commanded APPLIED, and the other brake as it was (R89). -/
theorem applyBrake_command (b d : Brake) (s : State) :
    ((applyBrake b s).obs.brakes.get d).command =
      if d = b then .applied else (s.obs.brakes.get d).command := by
  unfold applyBrake
  split
  · rename_i h; split
    · subst d; exact h
    · rfl
  · rw [setBrake_brakes, PerBrake.get_set]
    split <;> simp

/-- A brake after a LIFTED command: commanded LIFTED, and the other brake as it was (R92). -/
theorem liftBrake_command (b d : Brake) (s : State) :
    ((liftBrake b s).obs.brakes.get d).command =
      if d = b then .lifted else (s.obs.brakes.get d).command := by
  unfold liftBrake
  split
  · rename_i h; split
    · subst d; exact h
    · rfl
  · rw [setBrake_brakes, PerBrake.get_set]
    split <;> simp

/-- EMERGENCY braking commands both brakes APPLIED (R90). -/
theorem emergencyBraking_commands (d : Brake) (s : State) :
    ((emergencyBraking s).obs.brakes.get d).command = .applied := by
  simp only [emergencyBraking, updObs_obs, applyBrake_command, serviceBraking]
  cases d <;> simp

/-- EMERGENCY braking sets the rail brake order (R90). -/
@[simp] theorem emergencyBraking_rail (s : State) : (emergencyBraking s).obs.railBrake = true := by
  simp [emergencyBraking]

/-! ### A cause (R83, R84) -/

/-- A cause is taken: the tables are committed and no entry of its kind is present (R83). -/
def State.takesCause (s : State) (k : CauseKind) : Bool := s.lts.committed && !s.hasCause k

/-- A cause that is not taken changes nothing (R83). -/
theorem giveCause_not {k : CauseKind} (src : CauseSource) {s : State} (h : s.takesCause k = false) :
    giveCause k src s = s := by
  unfold giveCause
  rw [if_pos]
  simp only [State.takesCause] at h
  cases hc : s.lts.committed <;> simp_all

/-- The cause list after a cause (R83). -/
theorem giveCause_causes (k : CauseKind) (src : CauseSource) (s : State) :
    (giveCause k src s).obs.causes =
      if s.takesCause k then s.obs.causes ++ [causeEntry k src s] else s.obs.causes := by
  by_cases h : s.takesCause k = true
  · rw [if_pos h]
    simp only [State.takesCause, Bool.and_eq_true, Bool.not_eq_true'] at h
    simp only [giveCause, h.1, h.2]
    split
    · simp_all
    · split
      · simp only [trip]; split <;> simp [joinCause]
      · simp [joinCause]
  · simp only [Bool.not_eq_true] at h
    rw [giveCause_not src h]
    simp [h]

/-- A cause that joins an empty list trips the line (R84). -/
theorem giveCause_first {k : CauseKind} (src : CauseSource) {s : State} (h : s.takesCause k = true)
    (he : s.obs.causes = []) :
    (giveCause k src s).tsq.state = .tripped ∧ (giveCause k src s).obs.trippedFrom = some s.tsq.state := by
  simp only [State.takesCause, Bool.and_eq_true, Bool.not_eq_true'] at h
  simp only [giveCause, h.1, h.2, he]
  simp only [Bool.not_true, Bool.or_self, Bool.false_eq_true, if_false, if_true, trip, changeTrip_state,
    changeTrip_items, updObs_obs, true_and]
  split <;> simp

/-- A cause that joins a list already non-empty leaves the trip state and tripped-from (R84). -/
theorem giveCause_later {k : CauseKind} (src : CauseSource) {s : State} (he : s.obs.causes ≠ []) :
    (giveCause k src s).tsq.state = s.tsq.state ∧ (giveCause k src s).obs.trippedFrom = s.obs.trippedFrom := by
  simp only [giveCause]
  split
  · exact ⟨rfl, rfl⟩
  · simp

/-- A change to TRIPPED leaves the RMU (R34). -/
theorem changeTrip_tripped_rmu (step : Option Step) (s : State) : (changeTrip .tripped step s).rmu = s.rmu := by
  by_cases h : s.tsq.state = .tripped
  · rw [changeTrip_same step h]
  · rw [changeTrip_rmu step h]; simp [TripState.endsTravel]

/-- A cause leaves the RMU. -/
@[simp] theorem giveCause_rmu (k : CauseKind) (src : CauseSource) (s : State) : (giveCause k src s).rmu = s.rmu := by
  simp only [giveCause]
  split
  · rfl
  · split
    · simp only [trip, changeTrip_tripped_rmu]; split <;> simp
    · simp

/-- A cause other than a stop demand leaves the envelope, the endpoint and the measures of travel (R88 alone forms a
controlled-stop endpoint). -/
theorem giveCause_envelope {k : CauseKind} (src : CauseSource) (s : State) (hk : k ≠ .stopDemand) :
    (giveCause k src s).obs.envelope = s.obs.envelope ∧ (giveCause k src s).obs.endpoint = s.obs.endpoint ∧
    (giveCause k src s).obs.eFrom = s.obs.eFrom ∧ (giveCause k src s).obs.rE2 = s.obs.rE2 ∧
    (giveCause k src s).obs.ctlStop = s.obs.ctlStop ∧ (giveCause k src s).obs.vPerm2 = s.obs.vPerm2 ∧
    (giveCause k src s).obs.excursion = s.obs.excursion ∧ (giveCause k src s).obs.rollback = s.obs.rollback ∧
    (giveCause k src s).cpt = s.cpt := by
  have hs : k.severity ≠ .stop := by cases k <;> simp_all [CauseKind.severity]
  have ht : ∀ u : State, (changeTrip .tripped none u).obs.envelope = u.obs.envelope ∧
      (changeTrip .tripped none u).obs.endpoint = u.obs.endpoint ∧
      (changeTrip .tripped none u).obs.eFrom = u.obs.eFrom ∧ (changeTrip .tripped none u).obs.rE2 = u.obs.rE2 ∧
      (changeTrip .tripped none u).obs.ctlStop = u.obs.ctlStop ∧
      (changeTrip .tripped none u).obs.vPerm2 = u.obs.vPerm2 ∧
      (changeTrip .tripped none u).obs.excursion = u.obs.excursion ∧
      (changeTrip .tripped none u).obs.rollback = u.obs.rollback := by
    intro u
    by_cases h : u.tsq.state = .tripped
    · simp [changeTrip_same none h]
    · simp [changeTrip_obs none h, obsOnTrip, TripState.endsTravel]
  simp only [giveCause, hs, if_false]
  split
  · simp
  · split <;> simp [trip, ht, joinCause]

@[simp] theorem causeIf_rmu (cond : Bool) (k : CauseKind) (s : State) : (causeIf cond k s).rmu = s.rmu := by
  unfold causeIf; split <;> simp

end Sys2Proof.Machine
end

