-- ==== Sys2Proof/Laws/Sample.lean ====
section
/-! SUPPORT. What a measurement sample does to the RMU: the channels, the combination of the mains, the disagreement
test; and that the other blocks leave it alone. -/

namespace Sys2Proof.Machine

/-! ### Channels by number -/

@[simp] theorem PerChannel.get_mapIdx {α β : Type} (f : Fin 4 → α → β) (v : PerChannel α) (i : Fin 4) :
    (v.mapIdx f).get i = f i (v.get i) := by
  match i with
  | 0 => rfl
  | 1 => rfl
  | 2 => rfl
  | 3 => rfl

theorem PerChannel.get_set {α : Type} (v : PerChannel α) (i j : Fin 4) (x : α) :
    (v.set i x).get j = if j = i then x else v.get j := by
  match i, j with
  | 0, 0 => rfl
  | 0, 1 => rfl
  | 0, 2 => rfl
  | 0, 3 => rfl
  | 1, 0 => rfl
  | 1, 1 => rfl
  | 1, 2 => rfl
  | 1, 3 => rfl
  | 2, 0 => rfl
  | 2, 1 => rfl
  | 2, 2 => rfl
  | 2, 3 => rfl
  | 3, 0 => rfl
  | 3, 1 => rfl
  | 3, 2 => rfl
  | 3, 3 => rfl

@[simp] theorem PerChannel.set_get {α : Type} (v : PerChannel α) (i : Fin 4) : v.set i (v.get i) = v := by
  match i with
  | 0 => rfl
  | 1 => rfl
  | 2 => rfl
  | 3 => rfl

/-! ### Arithmetic -/

theorem clampTo_eq (a v : Int) (h : 0 ≤ a) : clampTo a v = max (-a) (min a v) := by
  unfold clampTo; split
  · omega
  · split <;> omega

/-! ### The sample of the RMU -/

/-- A channel's state is not changed by its own sample. -/
@[simp] theorem measure_state (n : Nat) (pitch : Int) (c : Channel) : (c.measure n pitch).state = c.state := by
  simp only [Channel.measure]; split <;> rfl

@[simp] theorem persistence_keeps (l : Int) (r : Rmu) (a b : Option Channel) :
    (r.persistence l a b).channels = r.channels ∧ (r.persistence l a b).x2 = r.x2 ∧
    (r.persistence l a b).dx2 = r.dx2 ∧ (r.persistence l a b).vSup = r.vSup ∧ (r.persistence l a b).vAvg = r.vAvg ∧
    (r.persistence l a b).known = r.known ∧ (r.persistence l a b).twoChannel = r.twoChannel ∧
    (r.persistence l a b).dM2 = r.dM2 ∧ (r.persistence l a b).dSL = r.dSL ∧
    (r.persistence l a b).slipActive = r.slipActive := by
  unfold Rmu.persistence; split <;> simp

@[simp] theorem slipTravel_keeps (r : Rmu) (a : Option Channel) :
    (r.slipTravel a).channels = r.channels ∧ (r.slipTravel a).x2 = r.x2 ∧ (r.slipTravel a).dx2 = r.dx2 ∧
    (r.slipTravel a).vSup = r.vSup ∧ (r.slipTravel a).vAvg = r.vAvg ∧ (r.slipTravel a).known = r.known ∧
    (r.slipTravel a).twoChannel = r.twoChannel ∧ (r.slipTravel a).pA = r.pA ∧ (r.slipTravel a).p1 = r.p1 ∧
    (r.slipTravel a).p2 = r.p2 ∧ (r.slipTravel a).slipActive = r.slipActive := by
  unfold Rmu.slipTravel; split <;> simp

/-- Each channel after the sample of the RMU (R19 to R22). -/
theorem sample_channel (t : Lts) (r : Rmu) (i : Fin 4) :
    (Rmu.sample t r).channels.get i = (r.channels.get i).measure t.inForce.window (t.pitch i) := by
  simp [Rmu.sample]

/-- The disagreement test marks one main channel FAILED, or leaves the RMU (R32). -/
theorem testDisagreement_rmu (s : State) :
    (testDisagreement s).rmu = s.rmu ∨
      ∃ i, (s.lts.channelWithRole 0 = some i ∨ s.lts.channelWithRole 1 = some i) ∧
        (testDisagreement s).rmu = Rmu.failMain i s.rmu := by
  unfold testDisagreement
  split
  · split
    · right
      rename_i i j hi hj _
      simp only [recordDisagreement, giveCause_rmu, updRmu_rmu]
      split
      · exact ⟨i, .inl hi, rfl⟩
      · exact ⟨j, .inr hj, rfl⟩
    · exact .inl rfl
  · exact .inl rfl

/-- The other blocks leave the RMU's items at a sample, the slip check's end apart (R34). -/
theorem actOnSample_rmu (s : State) :
    (actOnSample s).rmu.channels = s.rmu.channels ∧ (actOnSample s).rmu.x2 = s.rmu.x2 ∧
    (actOnSample s).rmu.dx2 = s.rmu.dx2 ∧ (actOnSample s).rmu.vSup = s.rmu.vSup ∧
    (actOnSample s).rmu.vAvg = s.rmu.vAvg ∧ (actOnSample s).rmu.known = s.rmu.known ∧
    (actOnSample s).rmu.twoChannel = s.rmu.twoChannel ∧ (actOnSample s).rmu.pA = s.rmu.pA ∧
    (actOnSample s).rmu.p1 = s.rmu.p1 ∧ (actOnSample s).rmu.p2 = s.rmu.p2 ∧ (actOnSample s).rmu.dM2 = s.rmu.dM2 ∧
    (actOnSample s).rmu.dSL = s.rmu.dSL := by
  simp [actOnSample]

/-- The RMU after the disagreement and slip tests of a sample. -/
theorem rmuSample_rmu (s : State) :
    (rmuSample s).rmu = (testDisagreement (s.updRmu (Rmu.sample s.lts))).rmu := by
  simp [rmuSample]

/-- The line clock and the timers leave every other item (R188). -/
@[simp] theorem tick_keeps (s : State) :
    (tick s).lts = s.lts ∧ (tick s).rmu = s.rmu ∧ (tick s).cpt = s.cpt ∧ (tick s).dru = s.dru ∧
    (tick s).lpu.ports = s.lpu.ports ∧ (tick s).clock = s.clock + 2 ∧ (tick s).timeOfDay = s.timeOfDay ∧
    (tick s).freeIndex = s.freeIndex ∧ (tick s).pending = s.pending ∧ (tick s).bcu.loads = s.bcu.loads ∧
    (tick s).tsq = { s.tsq with
      closureTimer := tickTimer s.tsq.closureTimer, consoleTimer := tickTimer s.tsq.consoleTimer } ∧
    (tick s).srg = { s.srg with warning := tickTimer s.srg.warning } ∧
    (tick s).obs = { s.obs with
      brakes := ⟨{ s.obs.brakes.sbk with timer := tickTimer s.obs.brakes.sbk.timer },
                 { s.obs.brakes.ebk with timer := tickTimer s.obs.brakes.ebk.timer }⟩ } :=
  ⟨rfl, rfl, rfl, rfl, rfl, rfl, rfl, rfl, rfl, rfl, rfl, rfl, rfl⟩

/-- What the RMU's sample leaves alone: a disagreement or a slip gives a cause of SERVICE or EMERGENCY braking. -/
@[simp] theorem rmuSample_keeps (s : State) :
    (rmuSample s).lts = s.lts ∧ (rmuSample s).clock = s.clock ∧ (rmuSample s).timeOfDay = s.timeOfDay ∧
    (rmuSample s).minuteMs = s.minuteMs ∧ (rmuSample s).pending = s.pending ∧
    (rmuSample s).tsq.direction = s.tsq.direction ∧ (rmuSample s).tsq.mode = s.tsq.mode ∧
    (rmuSample s).srg.band = s.srg.band ∧ (rmuSample s).srg.fRef = s.srg.fRef ∧
    (rmuSample s).srg.insp = s.srg.insp ∧ (rmuSample s).obs.direction = s.obs.direction ∧
    (rmuSample s).obs.fSup = s.obs.fSup ∧ (rmuSample s).obs.inspSup = s.obs.inspSup ∧
    (rmuSample s).obs.aSup = s.obs.aSup ∧ (rmuSample s).obs.pS = s.obs.pS ∧
    (rmuSample s).obs.still = s.obs.still ∧
    (rmuSample s).obs.stopLatch = s.obs.stopLatch ∧ (rmuSample s).obs.pfail = s.obs.pfail ∧
    (rmuSample s).rmu.known = s.rmu.known := by
  simp only [rmuSample, causeIf]
  split <;> simp [Rmu.sample]

/-- A channel after a whole sample: measured, its state apart, which may become FAILED (R32). -/
theorem measurementSample_channel {s t : State} (h : exec .measurementSample s = .next t) (i : Fin 4) :
    ∃ st, t.rmu.channels.get i =
        { (s.rmu.channels.get i).measure s.lts.inForce.window (s.lts.pitch i) with state := st } ∧
      (st = (s.rmu.channels.get i).state ∨ st = .failed) := by
  simp only [exec, execMeasurementSample, Host.Outcome.next.injEq] at h
  subst h
  rw [(actOnSample_rmu _).1, rmuSample_rmu]
  have hm : ((tick s).updRmu (Rmu.sample (tick s).lts)).rmu.channels.get i =
      (s.rmu.channels.get i).measure s.lts.inForce.window (s.lts.pitch i) := sample_channel _ _ _
  rcases testDisagreement_rmu ((tick s).updRmu (Rmu.sample (tick s).lts)) with h | ⟨k, -, h⟩ <;> rw [h]
  · exact ⟨((s.rmu.channels.get i).measure s.lts.inForce.window (s.lts.pitch i)).state, hm, .inl (measure_state _ _ _)⟩
  · simp only [Rmu.failMain, PerChannel.get_set]
    split
    · rename_i hk
      subst hk
      exact ⟨.failed, by rw [hm], .inr rfl⟩
    · exact ⟨((s.rmu.channels.get i).measure s.lts.inForce.window (s.lts.pitch i)).state, hm, .inl (measure_state _ _ _)⟩

end Sys2Proof.Machine
end

