-- ==== Sys2Proof/Laws/Growth.lean ====
section
/-! SUPPORT. The cause list only grows at a sample (R83, R86), and which causes a sample gives. -/

namespace Sys2Proof.Machine

/-- A cause joins at the end of the list, or the list stays (R83). -/
theorem giveCause_prefix (k : CauseKind) (src : CauseSource) (s : State) :
    s.obs.causes <+: (giveCause k src s).obs.causes := by
  rw [giveCause_causes]; split
  · exact List.prefix_append _ _
  · exact List.prefix_refl _

theorem causeIf_prefix (cond : Bool) (k : CauseKind) (s : State) :
    s.obs.causes <+: (causeIf cond k s).obs.causes := by
  unfold causeIf; split
  · exact giveCause_prefix _ _ _
  · exact List.prefix_refl _

theorem recordDisagreement_prefix (i j : Fin 4) (s : State) :
    s.obs.causes <+: (recordDisagreement i j s).obs.causes := by
  simp only [recordDisagreement]
  refine List.IsPrefix.trans ?_ (giveCause_prefix _ _ _)
  simp

theorem testDisagreement_prefix (s : State) : s.obs.causes <+: (testDisagreement s).obs.causes := by
  unfold testDisagreement
  split
  · split
    · exact recordDisagreement_prefix _ _ _
    · exact List.prefix_refl _
  · exact List.prefix_refl _

theorem rmuSample_prefix (s : State) : s.obs.causes <+: (rmuSample s).obs.causes := by
  have h := testDisagreement_prefix (s.updRmu (Rmu.sample s.lts))
  exact h.trans (causeIf_prefix _ _ _)

@[simp] theorem excursionMark_causes (b : Bool) (s : State) : (excursionMark b s).obs.causes = s.obs.causes := by
  simp only [excursionMark]; split <;> simp

theorem testLevels_prefix (s : State) : s.obs.causes <+: (testLevels s).obs.causes := by
  unfold testLevels
  split
  · refine List.IsPrefix.trans ?_ (causeIf_prefix _ _ _)
    refine List.IsPrefix.trans ?_ (causeIf_prefix _ _ _)
    simp
  · exact List.prefix_refl _

theorem testRollback_prefix (s : State) : s.obs.causes <+: (testRollback s).obs.causes := by
  simp only [testRollback]
  refine List.IsPrefix.trans ?_ (causeIf_prefix _ _ _)
  simp

@[simp] theorem latchStop_causes (s : State) : (latchStop s).obs.causes = s.obs.causes := by
  unfold latchStop; split <;> simp

@[simp] theorem followTarget_causes (s : State) : (followTarget s).obs.causes = s.obs.causes := by
  unfold followTarget; split
  · split <;> simp [Obs.endpointFrom]
  · rfl

@[simp] theorem countStandstill_causes (s : State) : (countStandstill s).obs.causes = s.obs.causes := by
  simp [countStandstill]

theorem obsSample_prefix (s : State) : s.obs.causes <+: (obsSample s).obs.causes := by
  simp only [obsSample, followTarget_causes, latchStop_causes, countStandstill_causes]
  refine List.IsPrefix.trans ?_ (causeIf_prefix _ _ _)
  refine List.IsPrefix.trans ?_ (testRollback_prefix _)
  refine List.IsPrefix.trans ?_ (causeIf_prefix _ _ _)
  exact testLevels_prefix _

@[simp] theorem formPermitted_causes (s : State) : (formPermitted s).obs.causes = s.obs.causes := by
  unfold formPermitted; split <;> simp

@[simp] theorem moveTravel_causes (s : State) : (moveTravel s).obs.causes = s.obs.causes := by
  simp [moveTravel]

@[simp] theorem srgSample_causes (s : State) : (srgSample s).obs.causes = s.obs.causes := by
  simp

@[simp] theorem tsqSample_causes (s : State) : (tsqSample s).obs.causes = s.obs.causes := by
  simp

theorem actOnSample_prefix (s : State) : s.obs.causes <+: (actOnSample s).obs.causes := by
  simp only [actOnSample, testDoors_keeps, tsqSample_causes]
  refine List.IsPrefix.trans ?_ (obsSample_prefix _)
  simp

theorem hasCause_of_prefix {s t : State} (h : s.obs.causes <+: t.obs.causes) (k : CauseKind)
    (hk : s.hasCause k = true) : t.hasCause k = true := by
  simp only [State.hasCause, List.any_eq_true] at hk ⊢
  obtain ⟨e, he, hd⟩ := hk
  exact ⟨e, h.subset he, hd⟩

/-- A cause given with the tables committed is present afterwards (R83). -/
theorem giveCause_has (k : CauseKind) (src : CauseSource) (s : State) (hc : s.lts.committed = true) :
    (giveCause k src s).hasCause k = true := by
  by_cases h : s.hasCause k = true
  · exact hasCause_of_prefix (giveCause_prefix _ _ _) _ h
  · simp only [State.hasCause]
    rw [giveCause_causes, if_pos]
    · simp [causeEntry]
    · simp [State.takesCause, hc, h]

/-- A cause given leaves the presence of every other kind (R83). -/
theorem giveCause_others (k k' : CauseKind) (src : CauseSource) (s : State) (h : k ≠ k') :
    (giveCause k src s).hasCause k' = s.hasCause k' := by
  simp only [State.hasCause, giveCause_causes]
  split
  · simp [causeEntry, h]
  · rfl

end Sys2Proof.Machine
end

