-- ==== Sys2Proof/Laws/Raising.lean ====
section
/-! SUPPORT. Events said once: an event of Machine/Ops.lean is `raising`, two raisings are one, and a raising
commutes with every update of a block. -/

namespace Sys2Proof.Machine

/-! ### Bits of an event kind -/

theorem code_lt (e : EventKind) : e.code < 16 := by
  cases e <;> decide

theorem bit_getLsbD (e : EventKind) (i : Nat) : e.bit.getLsbD i = decide (i = e.code) := by
  by_cases h : i < 16
  · cases e <;> interval_cases i <;> decide
  · rw [BitVec.getLsbD_of_ge _ _ (by omega)]
    have := code_lt e
    symm
    simp only [decide_eq_false_iff_not]
    omega

/-- Recording an event as a set operation (R182). -/
theorem record_eq (e : EventKind) (r : PortRecord) :
    r.record e = { r with events := r.events ||| (e.bit &&& r.subs) } := by
  have h : e.bit &&& r.subs = if r.subs.getLsbD e.code then e.bit else 0 := by
    apply BitVec.eq_of_getLsbD_eq
    intro i hi
    rw [BitVec.getLsbD_and, bit_getLsbD]
    by_cases hc : i = e.code
    · subst hc
      split <;> rename_i hs
      · rw [bit_getLsbD, hs]; simp
      · simp_all
    · split
      · rw [bit_getLsbD]; simp [hc]
      · simp [hc]
  rw [h]
  unfold PortRecord.record
  split <;> simp

theorem eventMask_append (es fs : List EventKind) : eventMask (es ++ fs) = eventMask es ||| eventMask fs := by
  induction es with
  | nil => simp [eventMask]
  | cons e rest ih => simp [eventMask, ih, BitVec.or_assoc]

/-! ### Raising -/

/-- An event on the ports of a scope (R182). -/
theorem raiseOn_eq (scope : PortId → Bool) (e : EventKind) (s : State) :
    raiseOn scope e s = s.raisingOn scope [e] := by
  simp only [raiseOn, State.raisingOn, record_eq, eventMask]
  simp

/-- An event on every port (R182). -/
theorem raise_eq (e : EventKind) (s : State) : raise e s = s.raising [e] := by
  simp [raise, State.raising, raiseOn_eq]

/-- An event of a port's link (R182). -/
theorem raiseLink_eq (e : EventKind) (p : PortId) (s : State) : raiseLink e p s = s.raisingLink p e := by
  simp [raiseLink, State.raisingLink, raiseOn_eq]

/-- One port after a raising. -/
@[simp] theorem raisingOn_port (s : State) (scope : PortId → Bool) (es : List EventKind) (p : PortId) :
    (s.raisingOn scope es).lpu.ports.get p =
      if scope p then { s.lpu.ports.get p with events := (s.lpu.ports.get p).events ||| (eventMask es &&& (s.lpu.ports.get p).subs) }
      else s.lpu.ports.get p := by
  simp [State.raisingOn]

@[simp] theorem raising_port (s : State) (es : List EventKind) (p : PortId) :
    (s.raising es).lpu.ports.get p =
      { s.lpu.ports.get p with events := (s.lpu.ports.get p).events ||| (eventMask es &&& (s.lpu.ports.get p).subs) } := by
  simp [State.raising]

/-- Raising nothing. -/
@[simp] theorem raising_nil (s : State) : s.raising [] = s := by
  obtain ⟨⟩ := s
  simp only [State.raising, State.raisingOn, State.updLpu, eventMask]
  simp [PerPort.mapPort]

/-- Two raisings are one. -/
@[simp] theorem raising_raising (s : State) (es fs : List EventKind) :
    (s.raising es).raising fs = s.raising (es ++ fs) := by
  simp only [State.raising, State.raisingOn, updLpu_updLpu, eventMask_append]
  congr 1
  funext l
  have h (a b x y : Half) : a ||| (x &&& b) ||| (y &&& b) = a ||| ((x ||| y) &&& b) := by
    apply BitVec.eq_of_getLsbD_eq
    intro i _
    simp only [BitVec.getLsbD_or, BitVec.getLsbD_and]
    cases a.getLsbD i <;> cases b.getLsbD i <;> cases x.getLsbD i <;> cases y.getLsbD i <;> rfl
  simp [PerPort.mapPort, h]

/-! ### A raising leaves all but event sets -/

section
variable (s : State) (scope : PortId → Bool) (es : List EventKind)

@[simp] theorem raisingOn_lts : (s.raisingOn scope es).lts = s.lts := rfl
@[simp] theorem raisingOn_rmu : (s.raisingOn scope es).rmu = s.rmu := rfl
@[simp] theorem raisingOn_cpt : (s.raisingOn scope es).cpt = s.cpt := rfl
@[simp] theorem raisingOn_tsq : (s.raisingOn scope es).tsq = s.tsq := rfl
@[simp] theorem raisingOn_srg : (s.raisingOn scope es).srg = s.srg := rfl
@[simp] theorem raisingOn_obs : (s.raisingOn scope es).obs = s.obs := rfl
@[simp] theorem raisingOn_dru : (s.raisingOn scope es).dru = s.dru := rfl
@[simp] theorem raisingOn_bcu : (s.raisingOn scope es).bcu = s.bcu := rfl
@[simp] theorem raisingOn_clock : (s.raisingOn scope es).clock = s.clock := rfl
@[simp] theorem raisingOn_timeOfDay : (s.raisingOn scope es).timeOfDay = s.timeOfDay := rfl
@[simp] theorem raisingOn_minuteMs : (s.raisingOn scope es).minuteMs = s.minuteMs := rfl
@[simp] theorem raisingOn_freeIndex : (s.raisingOn scope es).freeIndex = s.freeIndex := rfl
@[simp] theorem raisingOn_pending : (s.raisingOn scope es).pending = s.pending := rfl
@[simp] theorem raisingOn_carLinks : (s.raisingOn scope es).lpu.carLinks = s.lpu.carLinks := rfl
@[simp] theorem raisingOn_gateLinks : (s.raisingOn scope es).lpu.gateLinks = s.lpu.gateLinks := rfl
@[simp] theorem raisingOn_updLts (f : Lts → Lts) : (s.raisingOn scope es).updLts f = (s.updLts f).raisingOn scope es := rfl
@[simp] theorem raisingOn_updRmu (f : Rmu → Rmu) : (s.raisingOn scope es).updRmu f = (s.updRmu f).raisingOn scope es := rfl
@[simp] theorem raisingOn_updCpt (f : Cpt → Cpt) : (s.raisingOn scope es).updCpt f = (s.updCpt f).raisingOn scope es := rfl
@[simp] theorem raisingOn_updTsq (f : Tsq → Tsq) : (s.raisingOn scope es).updTsq f = (s.updTsq f).raisingOn scope es := rfl
@[simp] theorem raisingOn_updSrg (f : Srg → Srg) : (s.raisingOn scope es).updSrg f = (s.updSrg f).raisingOn scope es := rfl
@[simp] theorem raisingOn_updObs (f : Obs → Obs) : (s.raisingOn scope es).updObs f = (s.updObs f).raisingOn scope es := rfl
@[simp] theorem raisingOn_updDru (f : PerCar (PerSide DoorRecord) → PerCar (PerSide DoorRecord)) : (s.raisingOn scope es).updDru f = (s.updDru f).raisingOn scope es := rfl
@[simp] theorem raisingOn_updBcu (f : Bcu → Bcu) : (s.raisingOn scope es).updBcu f = (s.updBcu f).raisingOn scope es := rfl

end

section
variable (s : State) (es : List EventKind)

@[simp] theorem raising_lts : (s.raising es).lts = s.lts := rfl
@[simp] theorem raising_rmu : (s.raising es).rmu = s.rmu := rfl
@[simp] theorem raising_cpt : (s.raising es).cpt = s.cpt := rfl
@[simp] theorem raising_tsq : (s.raising es).tsq = s.tsq := rfl
@[simp] theorem raising_srg : (s.raising es).srg = s.srg := rfl
@[simp] theorem raising_obs : (s.raising es).obs = s.obs := rfl
@[simp] theorem raising_dru : (s.raising es).dru = s.dru := rfl
@[simp] theorem raising_bcu : (s.raising es).bcu = s.bcu := rfl
@[simp] theorem raising_clock : (s.raising es).clock = s.clock := rfl
@[simp] theorem raising_timeOfDay : (s.raising es).timeOfDay = s.timeOfDay := rfl
@[simp] theorem raising_minuteMs : (s.raising es).minuteMs = s.minuteMs := rfl
@[simp] theorem raising_freeIndex : (s.raising es).freeIndex = s.freeIndex := rfl
@[simp] theorem raising_pending : (s.raising es).pending = s.pending := rfl
@[simp] theorem raising_carLinks : (s.raising es).lpu.carLinks = s.lpu.carLinks := rfl
@[simp] theorem raising_gateLinks : (s.raising es).lpu.gateLinks = s.lpu.gateLinks := rfl
@[simp] theorem raising_updLts (f : Lts → Lts) : (s.raising es).updLts f = (s.updLts f).raising es := rfl
@[simp] theorem raising_updRmu (f : Rmu → Rmu) : (s.raising es).updRmu f = (s.updRmu f).raising es := rfl
@[simp] theorem raising_updCpt (f : Cpt → Cpt) : (s.raising es).updCpt f = (s.updCpt f).raising es := rfl
@[simp] theorem raising_updTsq (f : Tsq → Tsq) : (s.raising es).updTsq f = (s.updTsq f).raising es := rfl
@[simp] theorem raising_updSrg (f : Srg → Srg) : (s.raising es).updSrg f = (s.updSrg f).raising es := rfl
@[simp] theorem raising_updObs (f : Obs → Obs) : (s.raising es).updObs f = (s.updObs f).raising es := rfl
@[simp] theorem raising_updDru (f : PerCar (PerSide DoorRecord) → PerCar (PerSide DoorRecord)) : (s.raising es).updDru f = (s.updDru f).raising es := rfl
@[simp] theorem raising_updBcu (f : Bcu → Bcu) : (s.raising es).updBcu f = (s.updBcu f).raising es := rfl

end

section
variable (s : State) (p : PortId) (e : EventKind)

@[simp] theorem raisingLink_lts : (s.raisingLink p e).lts = s.lts := rfl
@[simp] theorem raisingLink_rmu : (s.raisingLink p e).rmu = s.rmu := rfl
@[simp] theorem raisingLink_cpt : (s.raisingLink p e).cpt = s.cpt := rfl
@[simp] theorem raisingLink_tsq : (s.raisingLink p e).tsq = s.tsq := rfl
@[simp] theorem raisingLink_srg : (s.raisingLink p e).srg = s.srg := rfl
@[simp] theorem raisingLink_obs : (s.raisingLink p e).obs = s.obs := rfl
@[simp] theorem raisingLink_dru : (s.raisingLink p e).dru = s.dru := rfl
@[simp] theorem raisingLink_bcu : (s.raisingLink p e).bcu = s.bcu := rfl
@[simp] theorem raisingLink_clock : (s.raisingLink p e).clock = s.clock := rfl
@[simp] theorem raisingLink_timeOfDay : (s.raisingLink p e).timeOfDay = s.timeOfDay := rfl
@[simp] theorem raisingLink_minuteMs : (s.raisingLink p e).minuteMs = s.minuteMs := rfl
@[simp] theorem raisingLink_freeIndex : (s.raisingLink p e).freeIndex = s.freeIndex := rfl
@[simp] theorem raisingLink_pending : (s.raisingLink p e).pending = s.pending := rfl
@[simp] theorem raisingLink_carLinks : (s.raisingLink p e).lpu.carLinks = s.lpu.carLinks := rfl
@[simp] theorem raisingLink_gateLinks : (s.raisingLink p e).lpu.gateLinks = s.lpu.gateLinks := rfl
@[simp] theorem raisingLink_updLts (f : Lts → Lts) : (s.raisingLink p e).updLts f = (s.updLts f).raisingLink p e := rfl
@[simp] theorem raisingLink_updRmu (f : Rmu → Rmu) : (s.raisingLink p e).updRmu f = (s.updRmu f).raisingLink p e := rfl
@[simp] theorem raisingLink_updCpt (f : Cpt → Cpt) : (s.raisingLink p e).updCpt f = (s.updCpt f).raisingLink p e := rfl
@[simp] theorem raisingLink_updTsq (f : Tsq → Tsq) : (s.raisingLink p e).updTsq f = (s.updTsq f).raisingLink p e := rfl
@[simp] theorem raisingLink_updSrg (f : Srg → Srg) : (s.raisingLink p e).updSrg f = (s.updSrg f).raisingLink p e := rfl
@[simp] theorem raisingLink_updObs (f : Obs → Obs) : (s.raisingLink p e).updObs f = (s.updObs f).raisingLink p e := rfl
@[simp] theorem raisingLink_updDru (f : PerCar (PerSide DoorRecord) → PerCar (PerSide DoorRecord)) : (s.raisingLink p e).updDru f = (s.updDru f).raisingLink p e := rfl
@[simp] theorem raisingLink_updBcu (f : Bcu → Bcu) : (s.raisingLink p e).updBcu f = (s.updBcu f).raisingLink p e := rfl

end

end Sys2Proof.Machine
end

