-- ==== Sys2Proof/Laws/DoorTests.lean ====
section
/-! SUPPORT. What a test moment of the doors does, said once; and the outcome of one while the line is not STOPPED. -/

namespace Sys2Proof.Machine

/-! ### Things per car and per side by name -/

@[simp] theorem PerCar.get_mapCar {α β : Type} (f : Car → α → β) (v : PerCar α) (c : Car) :
    (v.mapCar f).get c = f c (v.get c) := by
  cases c <;> rfl

@[simp] theorem PerSide.get_map {α β : Type} (f : α → β) (v : PerSide α) (side : Side) :
    (v.map f).get side = f (v.get side) := by
  cases side <;> rfl

/-- One door side after a test moment (R126 to R128). -/
theorem testDoors_side (s : State) (c : Car) (side : Side) :
    ((testDoors s).dru.get c).get side = testSide (s.mayRelease c side) ((s.dru.get c).get side) := by
  have h : (testDoors s).dru = testedDoors s := by unfold testDoors; split <;> simp
  rw [h]
  cases c <;> cases side <;> rfl

/-- The release conditions depend on the blocks that a test moment leaves (R126). -/
theorem mayRelease_congr {s t : State} (ht : t.tsq = s.tsq) (hl : t.lts = s.lts) (hr : t.rmu = s.rmu)
    (hc : t.cpt = s.cpt) (hb : t.obs.brakes = s.obs.brakes) (hk : t.lpu.carLinks = s.lpu.carLinks) (c : Car)
    (side : Side) : t.mayRelease c side = s.mayRelease c side := by
  have ha : ∀ k, t.aligned c k = s.aligned c k := by
    intro k
    cases c <;> simp [State.aligned, State.stopError, State.estimate, State.xs, hl, hr, hc]
  simp only [State.mayRelease, State.provenAs, State.carLinkUp, ha, ht, hl, hb, hk]

@[simp] theorem testDoors_carLinks (s : State) : (testDoors s).lpu.carLinks = s.lpu.carLinks :=
  (sansEvents_eq (testDoors_ports s)).1

/-- A test moment does not change what it tests. -/
@[simp] theorem testDoors_mayRelease (s : State) (c : Car) (side : Side) :
    (testDoors s).mayRelease c side = s.mayRelease c side := by
  apply mayRelease_congr <;> simp

/-- A test moment tests the doors (R127). -/
theorem testDoors_tested (s : State) : DoorsTested s (testDoors s) := by
  intro c side
  simp only [testDoors_mayRelease, testDoors_side, testSide]
  split <;> rfl

/-- No side may be released while the line is not STOPPED (R126). -/
theorem mayRelease_not_stopped {s : State} (h : s.tsq.state ≠ .stopped) (c : Car) (side : Side) :
    s.mayRelease c side = false := by
  simp [State.mayRelease, h]

/-- A test moment while the line is not STOPPED orders every RELEASED side closed (R128). -/
theorem testDoors_not_stopped {s : State} (h : s.tsq.state ≠ .stopped) :
    testDoors s = s.updDru (fun d => d.mapCar (fun _ v => v.map orderClose)) := by
  have hm := mayRelease_not_stopped h
  have hr : releasesSome s = false := by simp [releasesSome, hm, newlyReleased]
  simp only [testDoors, hr]
  simp only [Bool.false_eq_true, if_false, State.updDru, testedDoors, hm]
  rfl

/-- Ordering closed twice is ordering closed once. -/
@[simp] theorem orderClose_orderClose (d : DoorRecord) : orderClose (orderClose d) = orderClose d := by
  unfold orderClose; split <;> simp_all

end Sys2Proof.Machine
end

