-- ==== Sys2Proof/WellFormed.lean ====
section
/-! DEFINITION. Which commands a sender can spell at all. A command that is spelled but turned away (a wrong
port, an undefined code, a length other than the table's) is well formed: the part answers it, by R176. -/

namespace Sys2Proof

/-- The most payload bytes a frame can carry: LEN is at most 250 and counts KIND (Table 10-1). -/
def maxPayload : Nat := 249

/-- The pair changes between the two input samples of an edge; two equal samples are no edge (R18). -/
def edgeChanges (before after : QuadPair) : Bool := decide (before ≠ after)

/-- TABLE_WRITE's three leading bytes and its contents fit in one frame (Table 10-1, Table 10-4). -/
def contentsFit (contents : List Byte) : Bool := decide (contents.length + 3 ≤ maxPayload)

/-- MODE with code 3 (CONFIG) is spelled by its own row, MODE_CONFIG (R101, R189). -/
def modeRow (lineMode : Byte) : Bool := decide (lineMode ≠ 3)

/-- A command that a sender can spell. -/
def WellFormed : Instr → Bool
  | .encoderEdge _ before after => edgeChanges before after
  | .mode _ m => modeRow m
  | .tableWrite _ _ _ _ contents => contentsFit contents
  | .powerOnReset | .measurementSample | .demPeriod | .dirPendingChange | .warnToggle | .warningEnd => true
  | .settleExpiry _ | .closureTimerExpiry | .applyProofTimeout _ | .liftProofTimeout _ => true
  | .brakeFeedbackChange _ _ | .pfailChange _ | .callLineChange _ _ | .timeOfDayAdvance => true
  | .consoleTimeout | .carLinkTimeout _ | .gateLinkTimeout _ => true
  | .frameComplete _ _ | .frameGap _ | .framingError _ | .breakDetected _ | .replyEnd _ => true
  | .status _ _ | .events _ | .subscribe _ _ | .start _ _ | .resume _ | .stop _ | .emergency _ => true
  | .acknowledge _ | .modeConfig _ | .serviceOn _ | .serviceOff _ | .timeSet _ _ => true
  | .haltCall _ _ | .haltCancel _ _ | .inspectMove _ _ _ => true
  | .channelServiceRemove _ _ | .channelServiceRestore _ _ | .tableRead _ _ _ | .commit _ => true
  | .carReport _ _ | .ticket _ _ | .passage _ _ _ _ | .stationStatus _ => true
  | .receivedByte _ _ | .lineReturnedHigh _ => true

end Sys2Proof
end

