-- ==== Sys2Proof/Tests/Slice0.lean ====
section
/-! SUPPORT. Tests of one step each, their expected values from the worked figures of the spec or from its rules by
hand, and a witness for the hypotheses of each statement: a concrete state and operands that meet them. -/

set_option Elab.async false

open Sys2Proof Sys2Proof.Machine

namespace Sys2Proof.Tests

/-! ### The line of the tests -/

/-- The six-stop line of chapter 1, section 10, with stop 4 repaired; two segments, the bands of chapter 4, MAIN1 on
Q0 and MAIN2 on Q1, marker 5, CALL2 at stop 3 of car A, and a rule that admits every ticket. -/
def tables : Lts :=
  { resetLts with
    committed := true
    params := (resetLts.params.set 0 1960000).set 1 10000
    stops := (((((resetLts.stops.set 0 ⟨true, 0, 1959880, 1, 2, 0⟩).set 1 ⟨true, 412500, 1547900, 2, 0, 1⟩).set 2
      ⟨true, 688000, 1272350, 0, 0, 2⟩).set 3 ⟨true, 905200, 1054950, 1, 1, 1⟩).set 4
      ⟨true, 1471300, 489000, 3, 3, 0⟩).set 5 ⟨true, 1960000, 210, 1, 2, 0⟩
    segments := (resetLts.segments.set 0 ⟨true, 0, 8000⟩).set 1 ⟨true, 600000, 10000⟩
    markers := resetLts.markers.set 0 ⟨true, 5, 638900⟩
    bands := (((resetLts.bands.set 0 ⟨true, 0xF060, 500, 700, 800⟩).set 1 ⟨true, 0, 600, 800, 900⟩).set 2
      ⟨true, 4000, 600, 800, 900⟩).set 3 ⟨true, 30600, 600, 800, 900⟩
    channels := (resetLts.channels.set 0 ⟨true, 0, 250, 0⟩).set 1 ⟨true, 1, 250, 0⟩
    calls := resetLts.calls.set 2 ⟨true, 3, 0⟩
    rules := resetLts.rules.set 0 ⟨⟨true, { blankRule with stage := 1, reasonCode := 9, displayCode := 7 }⟩, 0⟩ }

/-- A main channel in service at rest, its window filled by samples of no travel. -/
def main : Channel := { resetChannel with state := .inService, window := [0] }

/-- A brake lifted and proven. -/
def lifted : BrakeRecord := ⟨.lifted, .proven, none, .lifted⟩

/-- A car side shut and locked. -/
def shut : DoorRecord := ⟨.holdClosed, some true, some true, none, 0⟩

/-- The line STOPPED at stop 0 in NORMAL, its position known, both links up, doors shut, batches OPEN. -/
def line : State :=
  { State.reset with
    lts := tables
    rmu := { resetRmu with channels := ⟨main, main, resetChannel, resetChannel⟩, known := true, twoChannel := true }
    tsq := { resetTsq with state := .stopped, mode := .normal, target := some 0 }
    obs := { resetObs with
      rollback := .standing 0, railBrake := false, brakes := ⟨resetBrake, lifted⟩, pS := 500, still := true }
    dru := ⟨⟨shut, shut⟩, ⟨shut, shut⟩⟩
    bcu := { State.reset.bcu with batches := ⟨{ resetBatch with state := .opened }, { resetBatch with state := .opened }⟩ }
    lpu := { resetLpu with carLinks := ⟨⟨true, some ⟨0, 400⟩⟩, ⟨true, some ⟨0, 400⟩⟩⟩ }
    clock := 1000 }

def inTsq (f : Tsq → Tsq) (s : State) : State := s.updTsq f
def inObs (f : Obs → Obs) (s : State) : State := s.updObs f
def inSrg (f : Srg → Srg) (s : State) : State := s.updSrg f
def inRmu (f : Rmu → Rmu) (s : State) : State := s.updRmu f

/-- The line at a sheave position in mm. -/
def atMm (x : Int) (s : State) : State := inRmu (fun r => { r with x2 := 2000 * x }) s

/-- DEPARTING in a step, from an origin to stop 4. -/
def departing (st : Machine.Step) (origin : Option Nat) (s : State) : State :=
  inTsq (fun t => { t with
    state := .departing, step := some st, origin := origin, target := some 4, resume := decide (origin = none) })
    { s with cpt := { s.cpt with target := some ⟨4, 1471295, false⟩ } }

/-- The warning running. -/
def warned (s : State) : State := inSrg (fun r => { r with warning := some ⟨0, 5000⟩, warn := true }) s

/-- RUNNING UP to stop 4 in band 1 with both brakes lifted, under the envelope, at a speed of the reference. -/
def running (mmPerS : Nat) : State :=
  inObs (fun o => { o with
    envelope := true, aSup := some 900, endpoint := some 1472095, eFrom := some 1471295, rE2 := 944190000,
    rollback := .running 0, brakes := ⟨lifted, lifted⟩ })
  (inSrg (fun r => { r with vRef := 1000 * mmPerS, band := some 1, dir := .up, frozen := true })
  (inTsq (fun t => { t with state := .running, phase := some .cruise, driveRequest := true })
    (atMm 1000000 (departing .warning (some 0) line))))

/-- OUT_OF_SERVICE in INSPECTION at rest. -/
def inspection : State := inTsq (fun t => { t with state := .outOfService, mode := .inspection, target := none }) line

/-- TRIPPED by a STOP_DEMAND from RUNNING, standing at stop 0. -/
def tripped : State :=
  inObs (fun o => { o with causes := [⟨.stopDemand, .port .p3, none, 0, 0⟩], trippedFrom := some .running, stopLatch := true })
    (inTsq (fun t => { t with state := .tripped }) line)

/-- The tables before their COMMIT. -/
def written : Lts := { tables with committed := false }

/-- CONFIGURING with the tables written. -/
def configuring : State :=
  inTsq (fun t => { t with state := .configuring, mode := .config, target := none })
    { State.reset with lts := written, lpu := line.lpu }

/-- A car report with odometer readings and without marks. -/
def report (now : Odo) : CarReport :=
  { odoNow := now, markerPresent := 0, markerId := 0, odoAtMarker := 0, leftClosed := 1, leftLocked := 1,
    rightClosed := 1, rightLocked := 1, inCounter := 0, outCounter := 0, haltButton := 0, alarmHandle := 0, faultFlag := 0 }

/-- A car report with a marker record. -/
def marked (id : Byte) (now at_ : Odo) : CarReport :=
  { report now with markerPresent := 1, markerId := id, odoAtMarker := at_ }

/-- A ticket for three persons. -/
def someTicket : Ticket :=
  { gate := 1, serial := 77, kindClass := 2, product := 100, concession := 0, groupSize := 3, rides := 5, days := 10,
    bought := 2 }

/-- The command answers a next state that meets a condition. -/
def after (c : Instr) (s : State) (p : State → Bool) : Bool :=
  match exec c s with
  | .next t => p t
  | .fault _ | .refused _ => false

/-- The payload of the reply begun on a port. -/
def replied (p : PortId) (t : State) : List Byte := ((t.lpu.ports.get p).tx.map (·.payload)).getD []

/-! ### Ill-formed terms -/

theorem test_edge_must_change : WellFormed (.encoderEdge 0 ⟨true, false⟩ ⟨true, false⟩) = false := by decide

theorem test_mode_config_has_its_row : WellFormed (.mode .p0 3) = false := by decide

theorem test_contents_must_fit : WellFormed (.tableWrite .p0 7 0 1 (List.replicate 247 0)) = false := by decide +kernel

theorem test_well_formed : WellFormed (.encoderEdge 0 ⟨true, false⟩ ⟨true, true⟩) = true ∧
    WellFormed (.mode .p0 2) = true ∧ WellFormed (.tableWrite .p0 7 0 1 (List.replicate 246 0)) = true := by decide +kernel

/-- No row of the table has bits (assumption 21). -/
theorem test_no_word_spells_a_command : decodeTableWord 32 0x12345678 = none := by decide

/-! ### Measurement (chapter 2) -/

/-- Section 1.1: samples 1 and 5 of a window that fills. -/
theorem test_worked_window :
    (Channel.measure 16 250 { main with window := [], partialMark := true, edges := 1 }) =
      { main with window := [], c := 1, d := 250 } ∧
    (Channel.measure 16 250 { main with window := [1000, 2000, 3000], edges := 16 }) =
      { main with window := [1000, 2000, 3000, 4000], c := 16, d := 4000, vch := 1250 } := by decide

/-- Section 3.1: two speeds, their average truncated toward zero, and the position rounded down. -/
theorem test_worked_combination :
    supervisionSpeed (some { main with vch := -5000 }) (some { main with vch := -5039 }) = -5039 ∧
    averageSpeed (some { main with vch := -5000 }) (some { main with vch := -5039 }) = -5019 ∧
    ({ resetRmu with x2 := 1810020080 } : Rmu).xsMm = 905010 ∧ ({ resetRmu with x2 := -3 } : Rmu).xsUm = -2 ∧
    ({ resetRmu with x2 := -3 } : Rmu).xsMm = -1 := by decide

/-- Section 5: 1,050 mm of slip exceeds a limit of 1,000 mm; 999 mm does not. -/
theorem test_worked_slip :
    let t := { tables with channels := tables.channels.set 2 ⟨true, 2, 250, 0⟩ }
    let r := { resetRmu with channels := { resetRmu.channels with q2 := main }, slipActive := true, dSL := 849350000 }
    Rmu.slips t { r with dM2 := 1700800000 } = true ∧ Rmu.slips t { r with dM2 := 1700698000 } = false := by
  decide +kernel

/-- R18: with an INVERTED sense a forward edge counts −1; a change of both inputs counts 0. -/
theorem test_encoder_edge :
    after (.encoderEdge 0 ⟨false, false⟩ ⟨true, false⟩)
      { line with lts := { tables with channels := tables.channels.set 0 ⟨true, 0, 250, 1⟩ } }
      (fun t => decide (t.rmu.channels.q0.edges = -1)) = true ∧
    after (.encoderEdge 0 ⟨false, false⟩ ⟨true, true⟩) line (fun t => decide (t.rmu.channels.q0.edges = 0)) = true := by
  decide +kernel

/-- R19, R27, R188: an edge count above 4,095 is taken as 4,095; the position and the line clock of one sample. -/
theorem test_measurement_sample :
    after .measurementSample (inRmu (fun r => { r with channels :=
        ⟨{ main with edges := 5000 }, { main with edges := 4095 }, resetChannel, resetChannel⟩ }) line)
      (fun t => decide (t.rmu.channels.q0.c = 4095 ∧ t.rmu.x2 = 2047500 ∧ t.clock = 1002)) = true := by decide +kernel

/-- Section 6.1: homing from car B, its odometer wrapped. -/
theorem test_worked_homing : odoDiff 210 16777000 = 426 ∧ homedPosition tables .b 1203400 426 = 756174 := by
  decide +kernel

/-! ### Position (chapter 3) -/

/-- Section 3.1: car A's offset moves from +120 to −120. -/
theorem test_worked_reconciliation :
    after (.carReport .p1 (marked 5 4999820 5001000))
      (atMm 637840 { line with cpt := { line.cpt with cars := { line.cpt.cars with a := { resetCarRecord with offset := 120 } } } })
      (fun t => decide (t.cpt.cars.a.offset = -120 ∧
        t.cpt.cars.a.lastMarker = some ⟨5, 5001000, -240, .accepted, 1000⟩)) = true := by decide +kernel

/-! ### Reference (chapter 4) -/

/-- Section 2: four imbalances and their bands. -/
theorem test_worked_bands :
    [-6400, 10400, 0, 80].map tables.selectBand = [(0 : Fin 4), 3, 1, 2] := by decide +kernel

/-- Section 3.4: the target speed far from the stop and on the curve into a slower segment. -/
theorem test_worked_approach :
    let s : State := inSrg (fun r => { r with band := some 1 })
      { line with lts := { tables with segments := tables.segments.set 2 ⟨true, 1400000, 6000⟩ } }
    (atMm 1000000 s).targetSpeed 471000 = 10000 ∧ (atMm 1380000 s).targetSpeed 91000 = 8246 := by decide +kernel

/-- Section 5: three duties at M = 1,024. -/
theorem test_worked_duty :
    [8246000, 300000, 10000000].map (fun v => (inSrg (fun r => { r with vRef := v }) line).duty) = [844, 30, 1023] := by
  decide +kernel

/-- R67: the holding duty becomes the active duty. -/
theorem test_dem_period :
    after .demPeriod (inSrg (fun r => { r with holding := 844 }) line) (fun t => decide (t.srg.active = 844)) = true := by
  decide +kernel

/-- R69: a toggle lowers WARN; the end of the warning idles the timer. -/
theorem test_warn_toggle :
    after .warnToggle (warned line) (fun t => decide (t.srg.warn = false ∧ t.srg.warning = some ⟨0, 5000⟩)) = true := by
  decide +kernel

/-- R68: DIR takes the pending direction at active duty 0. -/
theorem test_dir_pending :
    after .dirPendingChange (inSrg (fun r => { r with dirPending := some .up }) line)
      (fun t => decide (t.srg.dir = .up ∧ t.srg.dirPending = none)) = true := by decide +kernel

/-- Section 4: the controlled-stop target of a STOP at 8,000 mm/s with a_dec = 800. -/
theorem test_worked_controlled_stop :
    after (.stop .p3) (running 8000)
      (fun t => decide (t.srg.ctlTarget = some 1040000 ∧ t.tsq.state = .tripped ∧ t.obs.brakes = ⟨lifted, lifted⟩)) = true := by
  decide +kernel

/-! ### Supervision (chapter 5) -/

/-- Section 3.1: level 2 is exceeded at 9,421 mm/s over v_perm² = 72,250,000, level 3 is not. -/
theorem test_worked_level :
    isqrt 72250000 = 8500 ∧ levelExceeded 9421 72250000 102 = true ∧ levelExceeded 9421 72250000 154 = false := by
  decide +kernel

/-- R95: a lifted brake that reads DROPPED gives its fault cause under EMERGENCY braking. -/
theorem test_feedback_fault :
    after (.brakeFeedbackChange .sbk .dropped) (running 5000)
      (fun t => decide (t.obs.causes.map (·.kind) = [.serviceBrakeFault] ∧ t.obs.railBrake = true ∧
        t.obs.brakes.ebk.command = .applied ∧ t.tsq.state = .tripped)) = true := by decide +kernel

/-- R94: a lift proof that runs out. -/
theorem test_lift_proof_timeout :
    after (.liftProofTimeout .ebk)
      (inObs (fun o => { o with brakes := { o.brakes with ebk := ⟨.lifted, .proving, some ⟨500, 500⟩, .dropped⟩ } }) line)
      (fun t => decide (t.obs.causes.map (·.source) = [.lineEbkf] ∧ t.obs.brakes.ebk.command = .applied)) = true := by
  decide +kernel

/-- R93: an apply proof that runs out stays APPLIED and FAILED. -/
theorem test_apply_proof_timeout :
    after (.applyProofTimeout .sbk)
      (inObs (fun o => { o with brakes := { o.brakes with sbk := ⟨.applied, .proving, some ⟨600, 600⟩, .lifted⟩ } }) line)
      (fun t => decide (t.obs.brakes.sbk = ⟨.applied, .failed, none, .lifted⟩)) = true := by decide +kernel

/-- R85: PFAIL going ACTIVE trips the line. -/
theorem test_pfail :
    after (.pfailChange true) line (fun t => decide (t.tsq.state = .tripped ∧ t.obs.pfail = true)) = true := by
  decide +kernel

/-- R113: EMERGENCY from a gate. -/
theorem test_emergency :
    after (.emergency .p4) line
      (fun t => decide (t.obs.causes.map (·.source) = [.port .p4]) && decide (replied .p4 t = [0])) = true := by
  decide +kernel

/-- R97: after an acknowledge the line stands STOPPED at stop 0 with its batches OPEN. -/
theorem test_acknowledge :
    after (.acknowledge .p0) tripped (fun t => decide (t.tsq.state = .stopped ∧ t.tsq.target = some 0 ∧
      t.obs.causes = [] ∧ t.bcu.batches.lower.state = .opened)) = true := by decide +kernel

/-! ### Trips (chapter 6) -/

/-- Section 5.1: from stop 0 UP the nearest served stop is 4; with a request for stop 3 it is 3. -/
theorem test_worked_target :
    line.nearestServed = some 4 ∧
    (inTsq (fun t => { t with halts := [⟨3, [.console], 0⟩] }) line).nearestServed = some 3 := by decide +kernel

/-- Section 6.1: a request for stop 3 taken at 850,000 mm and 9,000 mm/s is feasible, and moves the target. -/
theorem test_worked_halt :
    after (.callLineChange 2 true)
      (atMm 850000 { running 9000 with cpt := { (running 9000).cpt with cars :=
        ⟨{ resetCarRecord with offset := 180 }, { resetCarRecord with offset := -340 }⟩ } })
      (fun t => decide (t.cpt.target = some ⟨3, 904865, false⟩ ∧ t.tsq.target = some 3 ∧
        t.tsq.halts = [⟨3, [.call 2 .a], 1000⟩])) = true := by decide +kernel

/-- R105: a START at stop 0 UP. -/
theorem test_start :
    after (.start .p0 0) line (fun t => decide (t.tsq.state = .departing ∧ t.tsq.step = some .warning ∧
      t.tsq.target = some 4 ∧ t.srg.warn = true ∧ t.bcu.batches.upper.state = .closed)) = true := by decide +kernel

/-- R104: a START at stop 0 DOWN is not possible: NOT_CLEAR with DIRECTION. -/
theorem test_start_down : after (.start .p0 1) line (fun t => decide (replied .p0 t = [2, 7])) = true := by
  decide +kernel

/-- R106: a RESUME of a line that is not STRANDED is refused; of one that is, it departs. -/
theorem test_resume :
    after (.resume .p0) line (fun t => decide (replied .p0 t = [1])) = true ∧
    after (.resume .p0) (atMm 1000000 (inTsq (fun t => { t with state := .stranded }) line))
      (fun t => decide (t.tsq.state = .departing ∧ t.tsq.target = some 4 ∧ t.tsq.origin = none)) = true := by
  decide +kernel

/-- R115, R116: the end of the warning with a side released orders it closed; the closure timer then fails the trip. -/
theorem test_warning_end :
    after .warningEnd (warned (departing .warning (some 1)
        { line with dru := ⟨⟨{ shut with command := .released }, shut⟩, ⟨shut, shut⟩⟩ }))
      (fun t => decide (t.tsq.step = some .closure ∧ t.dru.a.left.command = .closeOrdered)) = true := by decide +kernel

theorem test_closure_timer :
    after .closureTimerExpiry
      (inTsq (fun t => { t with closureTimer := some ⟨30000, 30000⟩ }) (departing .closure (some 0) line))
      (fun t => decide (t.tsq.state = .stopped ∧ t.tsq.target = some 0 ∧ t.tsq.step = none)) = true := by decide +kernel

/-- R101: REDUCED from NORMAL; R189: CONFIG in STOPPED is refused. -/
theorem test_mode :
    after (.mode .p0 1) line (fun t => decide (t.tsq.mode = .reduced)) = true ∧
    after (.modeConfig .p0) line (fun t => decide (replied .p0 t = [1])) = true := by decide +kernel

/-- R189: CONFIG in OUT_OF_SERVICE; R81: the standstill indication stands as the last sample formed it. -/
theorem test_mode_config :
    after (.modeConfig .p0) inspection (fun t => decide (t.tsq.state = .configuring ∧ t.lts.committed = false ∧
      t.rmu.channels.q0.state = .unmapped ∧ t.obs.pS = 0 ∧ t.standstill = true)) = true := by decide +kernel

/-- R103, R102: out of service and back. -/
theorem test_service_off :
    after (.serviceOff .p0) line (fun t => decide (t.tsq.state = .outOfService ∧ t.bcu.batches.lower.state = .suspended)) = true := by
  decide +kernel

theorem test_service_on :
    after (.serviceOn .p0) (inTsq (fun t => { t with state := .outOfService, target := none }) line)
      (fun t => decide (t.tsq.state = .stopped ∧ t.tsq.target = some 0 ∧ t.dru.a.left.command = .released)) = true := by
  decide +kernel

/-- R112: a HALT_CANCEL removes the entry. -/
theorem test_halt_cancel :
    after (.haltCancel .p0 3) (inTsq (fun t => { t with halts := [⟨3, [.console], 0⟩] }) line)
      (fun t => decide (t.tsq.halts = [])) = true := by decide +kernel

/-- R109: a HALT_CALL at stop 4, which is ALWAYS, is a BAD_STOP; at stop 3 it is listed. -/
theorem test_halt_call :
    after (.haltCall .p0 4) line (fun t => decide (replied .p0 t = [6])) = true ∧
    after (.haltCall .p0 3) line (fun t => decide (t.tsq.halts = [⟨3, [.console], 1000⟩])) = true := by decide +kernel

/-- R121: an inspection move DOWN, DIR already down. -/
theorem test_inspect_move :
    after (.inspectMove .p0 1 500) (atMm 1000 inspection) (fun t => decide (t.tsq.state = .inspecting ∧
      t.tsq.driveRequest = true ∧ t.obs.endpoint = some (1000 - 500 - 800))) = true := by decide +kernel

/-- R25: the removal of one main channel, and the refusal to remove the other. -/
theorem test_channel_service :
    after (.channelServiceRemove .p0 0) inspection (fun t => decide (t.rmu.channels.q0.state = .outOfService)) = true ∧
    after (.channelServiceRemove .p0 1)
      (inRmu (fun r => { r with channels := { r.channels with q0 := { main with state := .failed } } }) inspection)
      (fun t => decide (replied .p0 t = [1])) = true := by decide +kernel

theorem test_channel_restore :
    after (.channelServiceRestore .p0 0)
      (inRmu (fun r => { r with channels := { r.channels with q0 := { main with state := .failed } } }) inspection)
      (fun t => decide (t.rmu.channels.q0.state = .inService)) = true := by decide +kernel

/-- R123: the console falls silent. -/
theorem test_console_timeout :
    after .consoleTimeout line (fun t => decide (t.tsq.silent = true ∧ t.tsq.consoleTimer = none ∧ t.tsq.state = .stopped)) = true := by
  decide +kernel

/-- R184: a car link loss in motion trips the line. -/
theorem test_car_link_timeout :
    after (.carLinkTimeout .b) (running 5000)
      (fun t => decide (t.obs.causes.map (·.kind) = [.linkLostB] ∧ t.obs.brakes.sbk.command = .applied)) = true := by
  decide +kernel

/-- R186: a gate link goes DOWN; the gate link states change nothing else. -/
theorem test_gate_link_timeout :
    after (.gateLinkTimeout .upper) line (fun t => decide (t.lpu.gateLinks = ⟨line.lpu.gateLinks.lower, ⟨false, none⟩⟩)) = true := by
  decide +kernel

/-! ### Boarding and tickets (chapters 8 and 9) -/

/-- Section 1: counters that wrap. -/
theorem test_worked_load :
    (LoadRecord.counted { report 0 with inCounter := 3, outCounter := 20019 } ⟨140, some ⟨65530, 20011⟩⟩) =
      ⟨141, some ⟨3, 20019⟩⟩ := by decide

/-- Section 2: the references tried from 254 on. -/
theorem test_worked_reference :
    ({ resetBatch with lastRef := 254, pending := [⟨255, 0, 1, 0, 0⟩, ⟨1, 0, 1, 0, 0⟩, ⟨3, 0, 1, 0, 0⟩] } : Batch).issue = 2 ∧
    ({ resetBatch with lastRef := 2, pending := [⟨255, 0, 1, 0, 0⟩, ⟨1, 0, 1, 0, 0⟩, ⟨3, 0, 1, 0, 0⟩] } : Batch).issue = 4 := by
  decide

/-- Section 4: reference 43 for 3 persons: an expiry counts 169, a passage of 2 counts 168; both close the batch. -/
theorem test_worked_settle :
    let b : Batch := { resetBatch with
      state := .closing, passed := 166, pending := [⟨43, 5, 3, 700, 0⟩], settle := some ⟨0, 30000⟩ }
    let s : State := { line with bcu := { line.bcu with batches := ⟨b, line.bcu.batches.upper⟩ } }
    after (.settleExpiry .lower) s (fun t => decide (t.bcu.batches.lower =
      { b with passed := 169, pending := [], state := .closed, settle := none })) = true ∧
    after (.passage .p3 5 43 2) s (fun t => decide (t.bcu.batches.lower =
      { b with passed := 168, pending := [], state := .closed, settle := none })) = true := by decide +kernel

/-- R164 to R170: a ticket admitted by the FINAL rule 0, under reference 1. -/
theorem test_ticket :
    after (.ticket .p3 someTicket) line (fun t =>
      decide (replied .p3 t = [0, 0, 0, 9, 7, 1, 3, 0, 1, 0, 0, 0, 0, 3]) &&
      decide (t.bcu.batches.lower.pending = [⟨1, 1, 3, 77, 1000⟩])) = true := by decide +kernel

/-- R149: a passage under a reference that nothing holds is STALE. -/
theorem test_passage_stale : after (.passage .p3 5 43 2) line (fun t => decide (replied .p3 t = [8, 0, 0])) = true := by
  decide +kernel

/-- R154: STATION_STATUS of LOWER, car A at the platform. -/
theorem test_station_status :
    after (.stationStatus .p3) line (fun t => decide ((replied .p3 t).take 9 = [0, 0, 0, 0, 0, 0, 0, 180, 0])) = true := by
  decide +kernel

/-! ### Ports, tables and the clocks (chapters 10 and 11) -/

/-- The check value of this CRC over the digits 1 to 9, known outside the spec. -/
theorem test_crc : crc16 [0x31, 0x32, 0x33, 0x34, 0x35, 0x36, 0x37, 0x38, 0x39] = 0x29B1 := by decide +kernel

/-- R173, R176: the frame of RESUME, heard byte by byte, is taken and answered REFUSED_STATE. -/
theorem test_frame_heard :
    let f : ReplyFrame := ⟨5, []⟩
    replied .p0 (line.hears .p0 f.bytes) = [1] ∧ f.bytes.length = 5 := by decide +kernel

/-- R173: a byte other than 0xC3 is discarded, a gap and a framing error hunt, a break holds the receiver. -/
theorem test_receiver :
    after (.receivedByte .p0 0xC2) line (fun t => decide (t = line)) = true ∧
    after (.frameGap .p0) (line.updPort .p0 (fun r => { r with rx := .awaitLen })) (fun t => decide (t = line)) = true ∧
    after (.framingError .p0) (line.updPort .p0 (fun r => { r with rx := .awaitLen })) (fun t => decide (t = line)) = true := by
  decide +kernel

theorem test_break :
    after (.breakDetected .p0) line (fun t => decide ((t.lpu.ports.get .p0).lineLow = true)) = true ∧
    after (.lineReturnedHigh .p0) (line.updPort .p0 (fun r => { r with lineLow := true })) (fun t => decide (t = line)) = true := by
  decide +kernel

/-- R177: the reply ends. -/
theorem test_reply_end :
    after (.replyEnd .p0) (line.updPort .p0 (fun r => { r with tx := some ⟨133, [1]⟩ })) (fun t => decide (t = line)) = true := by
  decide +kernel

/-- R175: a frame that completes with the CHECK of STATUS for section 4 is answered at once. -/
theorem test_frame_complete :
    let crc := crc16 [2, 1, 4]
    after (.frameComplete .p0 (crc.extractLsb' 0 8))
      (line.updPort .p0 (fun r => { r with rx := .collecting 2 [1, 4, crc.extractLsb' 8 8] }))
      (fun t => decide (replied .p0 t = [0, 4, 0])) = true := by decide +kernel

/-- R180: an empty cause list; R183: the events of a port, and a subscription. -/
theorem test_status : after (.status .p0 4) line (fun t => decide (replied .p0 t = [0, 4, 0])) = true := by decide +kernel

theorem test_events :
    after (.events .p3) (line.updPort .p3 (fun r => { r with subs := 0x0103, events := 0x0101 }))
      (fun t => decide (replied .p3 t = [0, 1, 1] ∧ (t.lpu.ports.get .p3).events = 0)) = true ∧
    after (.subscribe .p3 0x0002) (line.updPort .p3 (fun r => { r with subs := 0x0103, events := 0x0101 }))
      (fun t => decide ((t.lpu.ports.get .p3).events = 0)) = true := by decide +kernel

/-- Chapter 11, section 2: 419, then 420 a minute later; R188: a time beyond the day. -/
theorem test_worked_time_of_day :
    after (.timeSet .p0 419) line (fun t => decide (t.timeOfDay = some 419 ∧ t.minuteMs = 0)) = true ∧
    after .timeOfDayAdvance { line with timeOfDay := some 419 } (fun t => decide (t.timeOfDay = some 420)) = true ∧
    after (.timeSet .p0 1440) line (fun t => decide (replied .p0 t = [3])) = true := by decide +kernel

/-- Chapter 1, section 10: the sum check fails at stop 4, and passes once its mark is repaired. -/
theorem test_worked_validation :
    ({ tables with stops := tables.stops.set 4 ⟨true, 1471300, 498000, 3, 3, 0⟩ } : Lts).validate = some (1, 4) ∧
    tables.validate = none := by decide +kernel

/-- R11, R15: of a bad start at segment 0 and a valid entry above the gap, the lower index is reported. -/
theorem test_lowest_failing_segment :
    ({ tables with segments := (tables.segments.set 0 ⟨true, 5, 8000⟩).set 9 ⟨true, 1, 0⟩ } : Lts).validate =
      some (2, 0) := by decide +kernel

/-- R191: a COMMIT of those tables. -/
theorem test_commit :
    after (.commit .p0) configuring (fun t => decide (t.tsq.state = .outOfService ∧ t.tsq.mode = .inspection ∧
      t.lts.committed = true ∧ t.rmu.twoChannel = true)) = true := by decide +kernel

/-- R190: a parameter written and read. -/
theorem test_table_write :
    after (.tableWrite .p0 0 33 1 [0, 0, 0, 2]) configuring (fun t => decide (t.lts.params[33] = 2)) = true ∧
    after (.tableRead .p0 0 1) configuring (fun t => decide (replied .p0 t = [0, 1, 0, 0, 39, 16])) = true := by
  decide +kernel

/-- R134: the CAR_ORDER that answers a report, on a line STOPPED at stop 0. -/
theorem test_car_report :
    after (.carReport .p1 (report 100)) line (fun t => decide (replied .p1 t = [0, 2, 1, 0, 0, 1, 0, 0] ∧
      t.cpt.cars.a.lastOdo = some 100)) = true := by decide +kernel

/-- R187: reset from a running line. -/
theorem test_power_on_reset :
    after .powerOnReset (running 5000) (fun t => decide (t = State.reset)) = true := by decide +kernel

/-! ### Witnesses of the statements' hypotheses -/

/-- The line with one main channel out of service. -/
def oneMain : State :=
  inRmu (fun r => { r with channels := { r.channels with q1 := { main with state := .outOfService } } }) line

theorem witness_StepRunsFrontCommand :
    ({ line with pending := [.warnToggle, .demPeriod] } : State).pending = .warnToggle :: [.demPeriod] := by decide

theorem witness_SamplePositionAndSpeeds :
    mainsServing line = [0, 1] ∧ mainsServing oneMain = [0] ∧ mainsServing State.reset = [] := by decide +kernel

/-- At the last sample before disc_time nothing is recorded; at the next one a stall or a difference is. -/
theorem witness_DisagreementMarksOneMain :
    mainsServing line = [0, 1] ∧ (2 * (48 + 1) : Int) < tables.discTime ∧ (2 * (49 + 1) : Int) = tables.discTime := by
  decide +kernel

/-- The slip check active with a SLIP channel in service. -/
def slipping : State :=
  inRmu (fun r => { r with slipActive := true, channels := { r.channels with q2 := main } })
    { line with lts := { tables with channels := tables.channels.set 2 ⟨true, 2, 250, 0⟩ } }

/-- An arrival whose last sample ends in standstill with SBK reading DROPPED: the line comes to rest at it. -/
def restingAtSample : State :=
  inObs (fun o => { o with rollback := .running 0, brakes := ⟨⟨.lifted, .proven, none, .dropped⟩, lifted⟩ })
    (inTsq (fun t => { t with state := .arriving, step := some .standstill })
      (atMm 1471295 (departing .warning (some 0) line)))

/-- At exactly the slip limit nothing is given, at 1 µm more it is; at exactly the rollback limit, and beyond it, in both
senses, RUNNING and STANDING; the measure INACTIVE, and of a line that comes to rest. -/
theorem witness_SlipAndRollbackGiveCauses :
    (slipping.rmu.slipActive = true ∧ slipping.lts.channelWithRole 2 = some 2 ∧
      (slipping.rmu.channels.get 2).state = .inService ∧ slipping.lts.committed = true ∧
      2000 * slipping.lts.slipLimit = 2000000 ∧
      after .measurementSample (inRmu (fun r => { r with dM2 := 2000000 }) slipping)
        (fun t => decide (t.hasCause .ropeSlip = false)) = true ∧
      after .measurementSample (inRmu (fun r => { r with dM2 := 2000001 }) slipping)
        (fun t => decide (t.hasCause .ropeSlip = true)) = true) ∧
    (line.lts.committed = true ∧ line.obs.brakes.sbk.command = .applied ∧ 2000 * line.lts.rollbackLimit = 300000 ∧
      after .measurementSample (inObs (fun o => { o with rollback := .standing 300000 }) line)
        (fun t => decide (t.hasCause .rollback = false)) = true ∧
      after .measurementSample (inObs (fun o => { o with rollback := .standing 300001 }) line)
        (fun t => decide (t.hasCause .rollback = true)) = true ∧
      after .measurementSample (inObs (fun o => { o with rollback := .standing (-300001) }) line)
        (fun t => decide (t.hasCause .rollback = true)) = true ∧
      after .measurementSample (inObs (fun o => { o with rollback := .running 300000 }) (running 0))
        (fun t => decide (t.obs.rollback = .running 300000 ∧ t.hasCause .rollback = false)) = true ∧
      after .measurementSample (inObs (fun o => { o with rollback := .running 300001 }) (running 0))
        (fun t => decide (t.hasCause .rollback = true)) = true ∧
      after .measurementSample (inObs (fun o => { o with rollback := .inactive }) line)
        (fun t => decide (t.obs.rollback = .inactive)) = true ∧
      after .measurementSample restingAtSample
        (fun t => decide (t.tsq.state = .stopped ∧ t.obs.rollback = .standing 0)) = true) := by decide +kernel

/-- On the endpoint the line has not overrun; a half micrometre beyond it, it has. -/
theorem witness_OverrunGivesCause :
    (running 300).lts.committed = true ∧ (running 300).obs.envelope = true ∧
    after .measurementSample (inObs (fun o => { o with rE2 := 0 }) (running 300))
      (fun t => decide (t.hasCause .overrun = false)) = true ∧
    after .measurementSample (inObs (fun o => { o with rE2 := -1 }) (running 300))
      (fun t => decide (t.hasCause .overrun = true)) = true := by decide +kernel

/-- A channel whose window gives 9,421 mm/s, and one at rest, under v_perm 8,500 mm/s. -/
def fast (v : Int) : State :=
  inRmu (fun r => { r with channels := { r.channels with
      q0 := { main with window := List.replicate 15 (2 * v), edges := v * 2 / 250 } } })
    (inObs (fun o => { o with rE2 := 80000000 }) (running 8000))

theorem witness_OverspeedGivesCauses :
    (fast 0).lts.committed = true ∧ (fast 0).obs.envelope = true ∧
    after .measurementSample (fast 0) (fun t => decide (t.obs.vPerm2 = some 72250000 ∧ t.obs.causes = [])) = true ∧
    after .measurementSample (fast 9500) (fun t => t.obs.vPerm2.isSome && t.hasCause .overspeed &&
      !t.hasCause .overspeedSevere && t.obs.excursion) = true ∧
    after .measurementSample (fast 12000) (fun t => t.obs.vPerm2.isSome && t.hasCause .overspeedSevere) = true ∧
    (let s (v : Int) : State := inObs (fun o => { o with envelope := false }) (fast v)
     (s 0).lts.committed = true ∧ (s 0).obs.envelope = false ∧ (s 0).lts.vLineMax * (1024 + (s 0).lts.margin3) = 11780000 ∧
      after .measurementSample (s 11500) (fun t => decide (t.speed = 11500 ∧ t.obs.causes = [])) = true ∧
      after .measurementSample (s 11625)
        (fun t => decide (t.speed = 11625 ∧ t.obs.causes.map (·.kind) = [.overspeedSevere])) = true) ∧
    after .measurementSample { running 0 with cpt := { line.cpt with target := some ⟨4, 1471300, false⟩ } } (fun t =>
      decide (t.obs.eFrom = some 1471300 ∧ t.obs.endpoint = some 1472100 ∧ t.obs.rE2 = 944200000)) = true ∧
    after .measurementSample (fast 9500) (fun t => decide (t.obs.rE2 = 80000000 - t.rmu.dx2 ∧ 0 < t.rmu.dx2)) = true := by
  decide +kernel

/-- An inspection move UP that moves, its position known from the start or not. -/
def moving (known : Bool) : State :=
  inObs (fun o => { o with
      envelope := true, aSup := some 900, inspSup := true, endpoint := some 1001300, rE2 := 2600000, rollback := .running 0,
      brakes := ⟨lifted, lifted⟩ })
    (inSrg (fun r => { r with band := some 1, dir := .up, insp := true, frozen := true })
      (inTsq (fun t => { t with
          state := .inspecting, step := some .moving, driveRequest := true
          move := some ⟨.up, 500, known, if known then some 1000500 else none, 1000000⟩ }) (atMm 1000000 inspection)))

/-- A controlled stop from 8,000 mm/s. -/
def stopping : State :=
  inObs (fun o => { o with causes := tripped.obs.causes, trippedFrom := some .running, ctlStop := true })
    (inSrg (fun r => { r with ctlTarget := some 1040000 }) (inTsq (fun t => { t with state := .tripped }) (running 8000)))

/-- Each case of a target ahead. -/
theorem witness_TargetAhead (t : State) :
    TargetAhead (running 300) t .up (distance .up t.xs 1471295) ∧
    TargetAhead (moving true) t .up (distance .up t.xs 1000500) ∧
    TargetAhead (moving false) t .up (Int.tdiv (1000000 - travel .up t.rmu.dx2) 2000) ∧
    TargetAhead stopping t .up (distance .up t.xs 1040000) := by
  refine ⟨.inl ⟨?_, ?_, ?_, ?_, _, rfl, rfl⟩, .inr (.inl ⟨?_, .inl ?_, ?_, _, rfl, ?_, .inl ⟨?_, _, rfl, rfl⟩⟩),
    .inr (.inl ⟨?_, .inl ?_, ?_, _, rfl, ?_, .inr ⟨?_, rfl⟩⟩), .inr (.inr ⟨?_, ?_, ?_, ?_, _, rfl, rfl⟩)⟩ <;> decide +kernel

/-- A running trip far from its target, at the creep distance, and at the target; an inspection move and a controlled
stop; a move in step HOLDING that goes on. At its target the trip is ARRIVING and the move HOLDING. Without a running reference, ARRIVING keeps its phase; the ramp of a STOP taken in an inspection move (R65). -/
theorem witness_RunningReferenceAtSample :
    [running 300, moving true, moving false, stopping].all (fun s =>
      after .measurementSample s (fun t => decide (t.obs.causes = s.obs.causes))) = true ∧
    [(1000000 : Int), 1469295, 1471295].all (fun x =>
      let s := atMm x (running 300)
      decide (s.tsq.state = .running ∧ s.srg.ctlTarget = none ∧ s.tsq.move = none ∧
        s.cpt.target = some ⟨4, 1471295, false⟩) &&
      after .measurementSample s (fun t => decide (t.obs.causes = []))) = true ∧
    (let moved := inObs (fun o => { o with pS := 0 })
     [running 300, moved (running 300), moving true].all (fun s => decide ((appliedBrake s s.obs.brakes.sbk).proof ≠ .proven)) =
        true ∧
      after .measurementSample (atMm 1471295 (moved (running 300))) (fun t =>
        decide (t.tsq.state = .arriving ∧ t.tsq.step = some .standstill ∧ t.tsq.driveRequest = true)) = true ∧
      after .measurementSample (atMm 1471295 (running 300)) (fun t =>
        decide (t.tsq.state = .arriving ∧ t.tsq.step = some .apply ∧ t.obs.brakes.sbk.command = .applied)) = true ∧
      after .measurementSample (atMm 1000500 (moved (moving true))) (fun t =>
        decide (t.tsq.state = .inspecting ∧ t.tsq.step = some .holding ∧ t.obs.applyPending = false)) = true) ∧
    (let s := inTsq (fun t => { t with step := some .holding }) (moving true)
     s.srg.ctlTarget = none ∧ s.tsq.move.isSome = true ∧ after .measurementSample s (fun t =>
      decide (t.tsq.state = .inspecting ∧ t.obs.causes = s.obs.causes ∧ t.srg.vRef = 1200)) = true) ∧
    after .measurementSample (atMm 1469295 (running 300)) (fun t =>
      decide (t.cpt.target = some ⟨4, 1471295, true⟩ ∧ t.srg.phase = some .creep)) = true ∧
    (let s := inSrg (fun r => { r with phase := some .creep })
      (inTsq (fun t => { t with state := .arriving }) (atMm 1471295 (running 0)))
     after .measurementSample s (fun t => decide (t.obs.causes = [] ∧ t.srg.phase = some .creep ∧ t.srg.vRef = 0)) =
      true) ∧
    (let s := inSrg (fun r => { r with ctlTarget := none })
      (inObs (fun o => { o with trippedFrom := some .inspecting, pS := 0 }) stopping)
     after .measurementSample stopping (fun t => decide (t.obs.stopLatch = true)) = true ∧ s.tsq.state = .tripped ∧ s.den = true ∧ s.braking = .stop ∧
      after .measurementSample s (fun t => decide (t.obs.causes = s.obs.causes ∧ t.srg.vRef < s.srg.vRef ∧
        0 < t.srg.vRef)) = true) := by decide +kernel

/-- A departure in its brake-release step, the direction UP pending on DIR. -/
def turning : State :=
  inSrg (fun r => { r with dirPending := some .up }) (departing .brakeRelease (some 0) line)

theorem witness_PendingDirectionShown :
    (line.srg.dirPending = none) ∧
    (let s := inSrg (fun r => { r with dirPending := some .up }) line
     s.srg.dirPending = some .up ∧ s.srg.active = 0 ∧ s.den = false ∧ s.releasing = false ∧ s.tsq.step ≠ some .lifting) ∧
    (let s := inTsq (fun t => { t with state := .inspecting, step := some .lifting }) turning
     s.srg.dirPending = some .up ∧ s.srg.active = 0 ∧ s.den = false ∧ s.obs.causes = []) ∧
    (turning.srg.dirPending = some .up ∧ turning.srg.active = 0 ∧ turning.den = false ∧ turning.releasing = true ∧
      turning.obs.causes = [] ∧ turning.obs.brakes.sbk.command = .applied ∧
      turning.obs.brakes.sbk.reading = .dropped ∧ turning.obs.brakes.ebk.command = .lifted) := by decide +kernel

theorem witness_WarningEnds :
    line.srg.warning = none ∧ (warned line).srg.warning.isSome = true ∧ (warned line).tsq.state ≠ .departing ∧
    (let s := warned (departing .warning (some 0) line)
     s.srg.warning.isSome = true ∧ s.tsq.resume = false ∧ s.originIsTerminal = true ∧ s.bothClosed = false) := by
  decide +kernel

/-- A departure from stop 0 whose batches are CLOSED, with a side released or all four proven, or crowded. -/
def leaving (command : DoorCommand) (load : Nat) : State :=
  warned (departing .warning (some 0) { line with
    dru := ⟨⟨{ shut with command := command }, shut⟩, ⟨shut, shut⟩⟩
    bcu := ⟨⟨⟨load, none⟩, ⟨0, none⟩⟩,
      ⟨{ resetBatch with state := .closed, passed := 30 }, { resetBatch with state := .closed }⟩⟩ })

theorem witness_WarningEndOrdersDoors :
    (let s := leaving .released 180
     s.srg.warning.isSome = true ∧ s.tsq.state = .departing ∧ s.tsq.step = some .warning ∧ s.tsq.resume = false ∧
      s.tsq.origin = some 0 ∧ s.lts.isTerminal 0 = true ∧ s.bothClosed = true ∧ ¬ s.lts.inForce.capacity < s.load .a ∧
      allProven s.dru = false) ∧
    allProven (leaving .holdClosed 180).dru = true ∧
    (leaving .holdClosed 180).lts.carAtTerminal 0 .lower = some .a ∧
    (leaving .released 181).lts.inForce.capacity < (leaving .released 181).load .a := by decide +kernel

/-- A resumed departure at the end of its warning, DIR showing UP. -/
def resumed : State := inSrg (fun r => { r with dir := .up }) (warned (departing .warning none (atMm 1000000 line)))

theorem witness_ResumeReleasesBrakes :
    resumed.srg.warning.isSome = true ∧ resumed.tsq.state = .departing ∧ resumed.tsq.step = some .warning ∧
    resumed.tsq.resume = true ∧ resumed.srg.dir = resumed.tsq.direction ∧
    resumed.cpt.target = some ⟨4, 1471295, false⟩ ∧ resumed.obs.causes = [] ∧
    resumed.obs.brakes.sbk.command = .applied ∧ resumed.obs.brakes.sbk.reading = .dropped ∧
    resumed.obs.brakes.ebk.command = .lifted ∧ resumed.tsq.origin = none := by decide +kernel

/-- A departure whose lower batch settles as the last. -/
def settling : State :=
  inTsq (fun t => { t with warningEnded := true }) { departing .warning (some 0) line with
    dru := ⟨⟨{ shut with command := .released }, shut⟩, ⟨shut, shut⟩⟩
    bcu := { line.bcu with batches :=
      ⟨{ resetBatch with state := .closing, settle := some ⟨0, 30000⟩, pending := [⟨1, 1, 3, 77, 0⟩] },
       { resetBatch with state := .closed }⟩ } }

/-- The same with all four sides proven. -/
def allShut : State := { settling with dru := line.dru }

theorem witness_SettleExpiryCounts :
    (let s := inTsq (fun t => { t with warningEnded := false }) settling
     (s.bcu.batches.get .lower).settle.isSome = true ∧ s.tsq.warningEnded = false) ∧
    ((settling.bcu.batches.get .lower).settle.isSome = true ∧ settling.tsq.state = .departing ∧
      settling.tsq.step = some .warning ∧ settling.tsq.warningEnded = true ∧ settling.tsq.resume = false ∧
      settling.tsq.origin = some 0 ∧ settling.overloaded = false ∧ (settling.bcu.batches.get .upper).state = .closed ∧
      allProven (settling.dru.mapCar (fun _ v => v.map orderClose)) = false) ∧
    after (.settleExpiry .lower) allShut (fun t => decide (t.tsq.step = some .brakeRelease ∧ t.obs.envelope = true ∧
      t.bcu.batches.lower = { resetBatch with state := .opened, passed := 3, carried := 3 })) = true ∧
    after (.settleExpiry .lower) { settling with bcu := { settling.bcu with loads := ⟨⟨181, none⟩, ⟨0, none⟩⟩ } }
      (fun t => decide (t.tsq.state = .stopped ∧ t.tsq.target = some 0 ∧ t.bcu.batches.upper.state = .opened)) = true := by
  decide +kernel

theorem witness_ClosureExpiryAbandons :
    line.tsq.state ≠ .departing ∧
    (let s := inTsq (fun t => { t with closureTimer := some ⟨30000, 30000⟩ }) (departing .closure (some 0) line)
     s.tsq.state = .departing ∧ s.tsq.step = some .closure ∧ s.tsq.closureTimer.isSome = true ∧
      s.tsq.origin = some 0) := by decide +kernel

/-- The line with a proof of SBK running for a command. -/
def proving (c : BrakeCommand) : State :=
  inObs (fun o => { o with brakes := { o.brakes with sbk :=
    ⟨c, .proving, some ⟨10, 500⟩, if c = .applied then .lifted else .dropped⟩ } }) line

/-- A STOP under which SBK must prove again: the fault raises the braking to EMERGENCY; under EMERGENCY braking, and before
a COMMIT, nothing is commanded. -/
theorem witness_BrakeFaulted :
    (let s := inObs (fun o => { o with brakes := { o.brakes with sbk := ⟨.applied, .proving, some ⟨10, 400⟩, .lifted⟩ } }) tripped
     s.braking = .stop ∧ s.hasCause .serviceBrakeFault = false ∧ after (.applyProofTimeout .sbk) s (fun t =>
      decide (t.obs.causes.map (·.kind) = [.stopDemand, .serviceBrakeFault] ∧ t.obs.brakes.sbk.proof = .failed ∧
        t.obs.brakes.ebk = ⟨.applied, .proving, some ⟨0, 400⟩, .lifted⟩ ∧ t.obs.railBrake = true)) = true) ∧
    (let s := inObs (fun o => { o with causes := [⟨.emergencyDemand, .port .p3, none, 0, 0⟩] }) tripped
     s.braking = .emergency ∧ after (.brakeFeedbackChange .sbk .lifted) s (fun t =>
      decide (t.obs.causes.map (·.kind) = [.emergencyDemand, .serviceBrakeFault] ∧
        t.obs.brakes.ebk.command = .lifted)) = true) ∧
    after (.brakeFeedbackChange .sbk .lifted) { line with lts := written } (fun t =>
      decide (t.obs.causes = [] ∧ t.obs.brakes.sbk = ⟨.applied, .failed, none, .lifted⟩)) = true := by decide +kernel

theorem witness_ProofTimeoutFaults :
    ¬ (line.obs.brakes.sbk.command = .applied ∧ line.obs.brakes.sbk.proof = .proving) ∧
    ¬ (line.obs.brakes.sbk.command = .lifted ∧ line.obs.brakes.sbk.proof = .proving) ∧
    ((proving .applied).obs.brakes.sbk.proof = .proving ∧ (proving .applied).lts.committed = true ∧
      (proving .applied).obs.causes = []) ∧
    ((proving .lifted).obs.brakes.sbk.proof = .proving ∧ (proving .lifted).obs.causes = []) := by decide +kernel

/-- A departure in its brake-release step, SBK the last brake to prove; an inspection move in step LIFTING, alike. -/
def releasingLast : State :=
  inObs (fun o => { o with
      liftPending := true, brakes := { o.brakes with sbk := ⟨.lifted, .proving, some ⟨10, 500⟩, .dropped⟩ } })
    (departing .brakeRelease (some 0) line)

theorem witness_FeedbackProvesOrFaults :
    line.obs.brakes.sbk.reading = .dropped ∧
    ((proving .applied).obs.brakes.sbk.reading ≠ .dropped ∧ (proving .applied).obs.brakes.sbk.command = .applied ∧
      (proving .applied).obs.liftPending = false ∧ (proving .applied).obs.applyPending = false) ∧
    (releasingLast.obs.brakes.sbk.reading ≠ .lifted ∧ releasingLast.obs.brakes.sbk.command = .lifted ∧
      releasingLast.obs.liftPending = true ∧ releasingLast.releasing = true ∧
      releasingLast.obs.brakes.ebk.command = .lifted ∧ releasingLast.obs.brakes.ebk.proof = .proven) ∧
    (let s := inTsq (fun t => { t with state := .inspecting, step := some .lifting }) releasingLast
     s.obs.brakes.sbk.reading ≠ .lifted ∧ s.obs.brakes.sbk.command = .lifted ∧ s.obs.liftPending = true ∧
      s.tsq.state = .inspecting ∧ s.obs.brakes.ebk.command = .lifted ∧ s.obs.brakes.ebk.proof = .proven) ∧
    (let s := inObs (fun o => { o with brakes := { o.brakes with sbk := ⟨.lifted, .proving, some ⟨10, 500⟩, .lifted⟩ } }) line
     s.obs.brakes.sbk.proof = .proving ∧ s.obs.brakes.sbk.reading ≠ .dropped) ∧
    (line.obs.brakes.sbk.reading ≠ .lifted ∧ line.obs.brakes.sbk.command = .applied ∧
      line.obs.brakes.sbk.proof = .proven ∧ line.lts.committed = true ∧ line.obs.causes = []) ∧
    after (.brakeFeedbackChange .sbk .lifted) line (fun t =>
      decide (t.obs.brakes.sbk = ⟨.applied, .failed, none, .lifted⟩ ∧ t.obs.brakes.ebk.command = .applied)) = true ∧
    after (.brakeFeedbackChange .ebk .dropped) (running 5000) (fun t =>
      decide (t.obs.brakes.ebk = ⟨.applied, .proven, none, .dropped⟩)) = true := by decide +kernel

/-- An arrival at stop 4 that waits for SBK. -/
def arriving : State :=
  inObs (fun o => { o with
      applyPending := true, brakes := { o.brakes with sbk := ⟨.applied, .proving, some ⟨10, 600⟩, .lifted⟩ } })
    (inTsq (fun t => { t with state := .arriving, step := some .apply })
      (atMm 1471295 (departing .apply (some 0) line)))

theorem witness_ArrivalEndsStopped :
    arriving.tsq.state = .arriving ∧ arriving.tsq.step = some .apply ∧ arriving.tsq.target = some 4 ∧
    arriving.tsq.silent = false ∧ arriving.cpt.target = some ⟨4, 1471295, false⟩ ∧ arriving.obs.applyPending = true ∧
    arriving.obs.liftPending = false ∧ arriving.obs.brakes.sbk.command = .applied ∧
    arriving.obs.brakes.sbk.reading = .lifted ∧
    (inTsq (fun t => { t with silent := true }) arriving).tsq.silent = true ∧
    (let s := inTsq (fun t => { t with state := .inspecting, step := some .holding }) arriving
     s.tsq.state = .inspecting ∧ s.tsq.step = some .holding ∧ s.obs.applyPending = true ∧ s.obs.liftPending = false) ∧
    (let marks : Lts := { tables with stops := tables.stops.set 4 ⟨true, 1481300, 489000, 3, 3, 0⟩ }
     after (.brakeFeedbackChange .sbk .dropped)
      (({ arriving with lts := marks } : State).updPort .p3 (fun r => { r with subs := 0xFFFF }))
      (fun t => decide ((t.lpu.ports.get .p3).events.getLsbD 13 = true)) = true) ∧
    (let s := inTsq (fun t => { t with step := some .standstill, driveRequest := true })
      (inObs (fun o => { o with applyPending := false, brakes := ⟨lifted, lifted⟩ }) arriving)
     let dropped := inObs (fun o => { o with brakes := ⟨⟨.lifted, .proven, none, .dropped⟩, lifted⟩ })
     after .measurementSample s (fun t => decide (t.standstill = true ∧ t.tsq.step = some .apply ∧ t.obs.applyPending = true ∧
       t.obs.brakes.sbk = ⟨.applied, .proving, some ⟨0, 400⟩, .lifted⟩)) = true ∧
     after .measurementSample (inObs (fun o => { o with pS := 0 }) s) (fun t => decide (t.standstill = false ∧
       t.tsq.step = some .standstill ∧ t.obs.brakes.sbk.command = .lifted)) = true ∧
     after .measurementSample (dropped s) (fun t => decide (t.tsq.state = .stopped ∧ t.tsq.target = some 4)) = true ∧
     (let m := inTsq (fun t => { t with state := .inspecting, step := some .holding }) s
      after .measurementSample m (fun t => decide (t.tsq.step = some .holding ∧ t.obs.applyPending = true)) = true ∧
      after .measurementSample (dropped m) (fun t => decide (t.tsq.state = .outOfService)) = true)) := by decide +kernel

theorem witness_PfailGivesCause :
    line.obs.pfail = false ∧ (inObs (fun o => { o with pfail := true }) line).obs.pfail = true ∧
    (configuring.obs.pfail = false ∧ configuring.lts.committed = false) ∧
    (line.lts.committed = true ∧ line.hasCause .powerFail = false ∧ line.obs.causes = []) := by decide +kernel

theorem witness_CallLineAsksHalt :
    line.tsq.callLines.get 2 = false ∧ line.lts.call 0 = none ∧
    (line.lts.committed = true ∧ line.lts.call 2 = some (3, .a) ∧ 3 < line.lts.stopCount ∧
      line.lts.onRequest 3 = true ∧ line.tsq.state ≠ .configuring ∧ line.tsq.state ≠ .running ∧
      ¬ (line.tsq.state = .stopped ∧ line.tsq.target = some 3) ∧ line.listed 3 = false) ∧
    (running 9000).lts.call 2 = some (3, .a) ∧ (running 9000).tsq.state = .running := by decide +kernel

theorem witness_ConsoleAndGateTimeouts :
    (inTsq (fun t => { t with consoleTimer := none }) line).tsq.consoleTimer = none ∧
    (line.tsq.consoleTimer.isSome = true ∧ line.earlyDeparture = false) ∧
    ((departing .doors (some 0) line).tsq.consoleTimer.isSome = true ∧
      (departing .doors (some 0) line).earlyDeparture = true) ∧
    (line.lpu.gateLinks.get .lower).timer.isSome = true ∧
    (({ line with lpu := { line.lpu with gateLinks := ⟨⟨false, none⟩, ⟨false, none⟩⟩ } } : State).lpu.gateLinks.get
      .upper).timer = none := by decide +kernel

theorem witness_CarLinkLossDropsSnapshots : (line.lpu.carLinks.get .a).timer.isSome = true := by decide

theorem witness_CarLinkLossTripsMovingLine :
    (State.reset.lpu.carLinks.get .a).timer = none ∧
    ((line.lpu.carLinks.get .a).timer.isSome = true ∧ line.moving = false ∧ line.earlyDeparture = false) ∧
    (((running 5000).lpu.carLinks.get .a).timer.isSome = true ∧ (running 5000).moving = true ∧
      (running 5000).lts.committed = true ∧ (running 5000).obs.causes = []) ∧
    [departing .warning (some 0) line, departing .closure none line].all (fun s =>
      (s.lpu.carLinks.get .a).timer.isSome && s.earlyDeparture && decide (s.tsq.resume = (s.tsq.origin = none)) &&
        [Car.a, Car.b].all (fun c => [Side.left, .right].all (fun x =>
          decide (((s.dru.get c).get x).command ≠ .released)))) = true := by decide +kernel

/-- Without a side RELEASED Law 3 holds. -/
theorem witness_doorLaw : doorLaw (departing .warning (some 0) line) ∧ doorLaw (departing .closure none line) := by
  constructor <;> intro c side <;> cases c <;> cases side <;> decide +kernel

/-- A port that collects a frame: LEN 250 is taken, 251 is not; the last CHECK byte, right and wrong; a right frame on an
empty queue, the transmitter idle and busy; a frame that lacks a CHECK byte. -/
theorem witness_ReceiverTakesBytes :
    (line.lpu.ports.get .p0).lineLow = false ∧ (line.lpu.ports.get .p0).rx = .hunting ∧
    (let s := line.updPort .p0 (fun r => { r with rx := .awaitLen })
     after (.receivedByte .p0 250) s (fun t => decide ((t.lpu.ports.get .p0).rx = .collecting 250 [])) = true ∧
     after (.receivedByte .p0 251) s (fun t => decide ((t.lpu.ports.get .p0).rx = .hunting)) = true ∧
     after (.receivedByte .p0 0) s (fun t => decide ((t.lpu.ports.get .p0).rx = .hunting)) = true) ∧
    (let crc := crc16 [2, 1, 4]
     let s := line.updPort .p0 (fun r => { r with
       rx := .collecting (([4] : List Byte).length + 1) (1 :: [4] ++ [crc.extractLsb' 8 8]), tx := some ⟨133, [1]⟩,
       queue := [⟨5, [], some (.fixed [1])⟩] })
     (s.lpu.ports.get .p0).queue.length = 1 ∧ (s.lpu.ports.get .p0).tx.isSome = true ∧
     crc = half (crc.extractLsb' 8 8) (crc.extractLsb' 0 8) ∧
     crc ≠ half (crc.extractLsb' 8 8) (crc.extractLsb' 0 8 + 1) ∧
     after (.frameComplete .p0 (crc.extractLsb' 0 8)) (s.updPort .p0 (fun r => { r with tx := none, queue := [] })) (fun t =>
      decide (replied .p0 t = [0, 4, 0] ∧ (t.lpu.ports.get .p0).queue = [])) = true ∧
     after (.frameComplete .p0 (crc.extractLsb' 0 8)) (s.updPort .p0 (fun r => { r with queue := [] })) (fun t =>
      decide ((t.lpu.ports.get .p0).queue = [⟨1, [4], some (.fixed [0, 4, 0])⟩])) = true) ∧
    (let s := line.updPort .p0 (fun r => { r with rx := .collecting 2 [1, 4] })
     after (.frameComplete .p0 7) s (fun t => decide (t = s)) = true) := by decide +kernel

theorem witness_FrameIsReassembled :
    (line.lpu.ports.get .p0).rx = .hunting ∧ (line.lpu.ports.get .p0).lineLow = false ∧
    (⟨200, List.replicate 249 0xC3⟩ : ReplyFrame).payload.length ≤ 249 := by decide +kernel

theorem witness_ReplyEndAndLineFaults :
    (line.lpu.ports.get .p0).queue = [] ∧
    ((line.updPort .p0 (fun r => { r with queue := [⟨5, [], some (.fixed [1])⟩] })).lpu.ports.get .p0).queue =
      [⟨5, [], some (.fixed [1])⟩] ∧
    after (.replyEnd .p1) (line.updPort .p1 (fun r => { r with queue := [⟨20, [], some (.carOrder .a)⟩] }))
      (fun t => decide (replied .p1 t = carOrder .a line)) = true ∧
    after (.replyEnd .p0) (line.updPort .p0 (fun r => { r with queue := [⟨5, [], some (.fixed [1])⟩, ⟨5, [], none⟩] }))
      (fun t => decide (replied .p0 t = [1] ∧ (t.lpu.ports.get .p0).queue = [⟨5, [], some (.fixed [1])⟩])) = true := by
  decide +kernel

theorem witness_ValidFrameHeard :
    line.portAtRest .p0 = true ∧ line.portAtRest (Station.port .upper) = true ∧
    line.portAtRest (Car.port .a) = true := by decide +kernel

theorem witness_RequestsRefusedByPorts :
    (requestOf (.commit .p3) = some (.p3, .commit) ∧ permitted .p3 Request.commit.kind = false) ∧
    (requestOf (.start .p0 2) = some (.p0, .start 2) ∧ permitted .p0 (Request.start 2).kind = true ∧
      encodingOk (.start 2) = false) ∧
    requestPayload (.ticket { someTicket with serial := 0x01020304, product := 0x0506, days := 0x0708 }) =
      [1, 1, 2, 3, 4, 2, 5, 6, 0, 3, 5, 7, 8, 2] ∧
    requestPayload (.carReport (marked 9 0x010203 0x040506)) =
      [1, 2, 3, 1, 9, 4, 5, 6, 1, 1, 1, 1, 0, 0, 0, 0, 0, 0, 0] ∧
    (permitted .p3 19 = false ∧ permitted .p0 9 = true ∧ ([] : List Byte).length ≠ requiredLength 9 []) ∧
    requiredLength 17 [7, 127, 1] = 40 ∧
    [(24, .p0, [5]), (0, .p0, [5]), (19, .p3, [4]), (9, .p0, [3])].all (fun (x : Byte × PortId × List Byte) =>
      decide ((takeFrame x.2.1 x.1 [] line).1 = .fixed x.2.2)) = true := by decide +kernel

/-- A state with warn_time 0. -/
def unwarned (s : State) : State := { s with lts := { s.lts with params := s.lts.params.set 23 0 } }

theorem witness_StartBeginsDeparture :
    let u := line.ready .p0
    Direction.ofCode 0 = some .up ∧ u.tsq.state = .stopped ∧ u.tsq.target = some 0 ∧ tripBlock u = none ∧
    u.directionPossible .up 0 = true ∧ u.overloaded = false ∧ 1 ≤ u.lts.warnTime ∧ 4 < u.lts.stopCount ∧
    beyond .up 0 4 = true ∧ u.served 4 = true ∧
    (∀ i < u.lts.stopCount, beyond .up 0 i = true → beyond .up i 4 = true → u.served i = false) ∧
    after (.start .p0 0) (unwarned line) (fun t =>
      decide (replied .p0 t = [0] ∧ t.tsq.step = some .brakeRelease ∧ t.srg.warn = false)) = true ∧
    after (.start .p0 0) { unwarned line with bcu := settling.bcu } (fun t =>
      decide (replied .p0 t = [0] ∧ t.tsq.step = some .warning ∧ t.tsq.warningEnded = true)) = true := by decide +kernel

theorem witness_ResumeBeginsDeparture :
    let u := (atMm 1000000 (inTsq (fun t => { t with state := .stranded }) line)).ready .p0
    u.tsq.state = .stranded ∧ tripBlock u = none ∧ u.overloaded = false ∧ 1 ≤ u.lts.warnTime ∧
    4 < u.lts.stopCount ∧ distance u.tsq.direction u.xs (u.stopTarget 4) > 0 ∧ u.served 4 = true ∧
    (∀ i < u.lts.stopCount, distance u.tsq.direction u.xs (u.stopTarget i) > 0 →
      beyond u.tsq.direction i 4 = true → u.served i = false) ∧
    (let s := atMm 1000000 (inTsq (fun t => { t with state := .stranded, direction := .down }) (unwarned line))
     s.lts.warnTime = 0 ∧ s.srg.dir = s.tsq.direction ∧ s.obs.brakes.sbk.command = .applied ∧
      s.obs.brakes.sbk.reading = .dropped ∧ s.obs.brakes.ebk.command = .lifted ∧
      after (.resume .p0) s (fun t => decide (replied .p0 t = [0] ∧ t.tsq.step = some .brakeRelease ∧
        t.obs.liftPending = true)) = true) := by decide +kernel

/-- START refused DOWN at stop 0 and in OUT_OF_SERVICE; RESUME refused STOPPED, and over capacity. -/
theorem witness_TripRequestsRefused :
    (line.ready .p0).directionPossible .down 0 = false ∧ (inspection.ready .p0).tsq.state ≠ .stopped ∧
    (line.ready .p0).tsq.state ≠ .stranded ∧
    (let u := (atMm 1000000 (inTsq (fun t => { t with state := .stranded })
        { line with bcu := { line.bcu with loads := ⟨⟨181, none⟩, ⟨0, none⟩⟩ } })).ready .p0
     tripBlock u = none ∧ u.nearestServed = some 4 ∧ u.overloaded = true) := by decide +kernel

theorem witness_DemandsTrip :
    permitted .p3 6 = true ∧ permitted .p3 7 = true ∧ (configuring.ready .p3).tsq.state = .configuring ∧
    ((tripped.ready .p3).tsq.state ≠ .configuring ∧ (tripped.ready .p3).hasCause .stopDemand = true ∧
      (tripped.ready .p3).hasCause .emergencyDemand = false ∧ (tripped.ready .p3).lts.committed = true ∧
      (tripped.ready .p3).braking ≠ .emergency) ∧
    (((running 8000).ready .p3).hasCause .stopDemand = false ∧ ((running 8000).ready .p3).tsq.state = .running ∧
      ((running 8000).ready .p3).obs.causes = []) ∧
    (stopping.braking = .stop ∧ stopping.obs.stopLatch = false ∧
      after .measurementSample stopping (fun t => decide (t.braking = .stop ∧ t.standstill = true ∧ t.obs.stopLatch = true ∧
        t.tsq.driveRequest = false ∧ t.obs.brakes.sbk = ⟨.applied, .proving, some ⟨0, 400⟩, .lifted⟩)) = true ∧
      after .measurementSample (inObs (fun o => { o with pS := 0 }) stopping) (fun t => decide (t.standstill = false ∧
        t.obs.stopLatch = false ∧ t.tsq.driveRequest = true ∧ t.obs.brakes.sbk.command = .lifted)) = true ∧
      after .measurementSample (inObs (fun o => { o with rE2 := -2000 }) stopping) (fun t => decide (t.braking ≠ .stop ∧
        t.standstill = true ∧ t.obs.stopLatch = false)) = true) := by decide +kernel

theorem witness_AcknowledgeClears :
    (line.ready .p0).tsq.state ≠ .tripped ∧ (tripped.ready .p0).tsq.state = .tripped ∧
    acknowledgeBlock (tripped.ready .p0) = none ∧
    acknowledgeBlock ((inObs (fun o => { o with still := false }) tripped).ready .p0) = some 9 ∧
    (tripped.ready .p0).standingStop = some 0 := by decide +kernel

theorem witness_ModeConfigEntersConfiguring :
    (configuring.ready .p0).tsq.state = .configuring ∧ (line.ready .p0).tsq.state = .stopped ∧
    (inspection.ready .p0).tsq.state = .outOfService := by decide +kernel

theorem witness_ServiceOnStops :
    (line.ready .p0).tsq.state ≠ .outOfService ∧
    (let u := (inTsq (fun t => { t with state := .outOfService, target := none }) line).ready .p0
     0 < u.lts.stopCount ∧ u.standsAt 0 = true ∧ u.tsq.state = .outOfService ∧ u.tsq.mode = .normal ∧
      u.rmu.known = true) := by decide +kernel

theorem witness_ServiceOffLeavesService :
    (line.ready .p0).tsq.state = .stopped ∧ ((departing .doors (some 0) line).ready .p0).tsq.step = some .doors ∧
    ((departing .brakeRelease (some 0) line).ready .p0).tsq.step = some .brakeRelease := by decide +kernel

/-- The line with the halt request list holding stop 3. -/
def asked : State := inTsq (fun t => { t with halts := [⟨3, [.button .a], 0⟩] }) line

/-- Stop 5 is the last, 6 is beyond it; stop 3 is ON_REQUEST; at 852,500 mm and 9,000 mm/s stop 3 is just feasible. -/
theorem witness_HaltCallLists :
    (line.ready .p0).lts.stopCount = 6 ∧ (line.ready .p0).lts.onRequest 5 = false ∧
    (line.ready .p0).lts.onRequest 3 = true ∧ (line.ready .p0).listed 3 = false ∧ (asked.ready .p0).listed 3 = true ∧
    (inTsq (fun t => { t with target := some 3 }) line).tsq.target = some 3 ∧
    (let u := (atMm 852500 (running 9000)).ready .p0
     u.tsq.state = .running ∧ u.tsq.phase ≠ some .creep ∧ u.tsq.target = some 4 ∧ u.listed 3 = false ∧
      distance u.tsq.direction u.xs (u.stopTarget 3) = 52625) ∧
    (let s := inTsq (fun t => { t with halts := [⟨3, [.button .a], 0⟩] }) (atMm 852500 (running 9000))
     after (.haltCall .p0 3) s (fun t => decide (t.tsq.halts = [⟨3, [.button .a, .console], 0⟩] ∧ t.tsq.target = some 3)) =
        true ∧
     after (.haltCall .p0 3) (atMm 852501 s) (fun t => decide (t.tsq.target = some 4)) = true ∧
     after (.haltCall .p0 3) (inTsq (fun t => { t with phase := some .creep }) s)
      (fun t => decide (t.tsq.halts = [⟨3, [.button .a, .console], 0⟩] ∧ t.tsq.target = some 4)) = true) := by
  decide +kernel

/-- A trip to stop 3 whose request is cancelled goes on to stop 4. -/
theorem witness_HaltCancelRemoves :
    (asked.ready .p0).tsq.state ≠ .configuring ∧ (asked.ready .p0).lts.onRequest 3 = true ∧
    (asked.ready .p0).listed 3 = true ∧ (asked.ready .p0).tsq.target ≠ some 3 ∧ (line.ready .p0).listed 3 = false ∧
    (let s := inTsq (fun t => { t with target := some 3, halts := [⟨3, [.console], 0⟩] }) (atMm 800000 (running 5000))
     (s.ready .p0).tsq.target = some 3 ∧ (s.ready .p0).tsq.state = .running ∧
      ((inTsq (fun t => { t with halts := [] }) s).ready .p0).nearestServed = some 4) := by decide +kernel

/-- 1 and 50,000 mm are taken, 0 and 50,001 mm are not; DIR turns at once, or waits for the active duty. -/
theorem witness_InspectMoveBegins :
    Direction.ofCode 1 = some .down ∧ (inspection.ready .p0).tsq.state = .outOfService ∧
    (inspection.ready .p0).tsq.mode = .inspection ∧ (inspection.ready .p0).srg.dir = .down ∧
    (inspection.ready .p0).obs.causes = [] ∧ (inspection.ready .p0).obs.brakes.sbk.command = .applied ∧
    (inspection.ready .p0).obs.brakes.sbk.reading = .dropped ∧
    (inspection.ready .p0).obs.brakes.ebk.command = .lifted ∧
    [(1 : Long), 50000].all (fun d => after (.inspectMove .p0 1 d) inspection (fun t => decide (replied .p0 t = [0]))) = true ∧
    [(0 : Long), 50001].all (fun d => after (.inspectMove .p0 1 d) inspection (fun t => decide (replied .p0 t = [3]))) = true ∧
    after (.inspectMove .p0 0 500) inspection
      (fun t => decide (t.srg.dir = .up ∧ t.obs.brakes.sbk.command = .lifted)) = true ∧
    after (.inspectMove .p0 0 500) (inSrg (fun r => { r with active := 5 }) inspection)
      (fun t => decide (replied .p0 t = [0] ∧ t.srg.dir = .down ∧ t.srg.dirPending = some .up ∧
        t.tsq.step = some .lifting ∧ t.obs.brakes.sbk.command = .applied)) = true := by
  decide +kernel

theorem witness_TimeOfDaySetAndAdvanced :
    (1439 : Half).toNat ≤ 1439 ∧ 1440 ≤ (1440 : Half).toNat ∧ line.timeOfDay = none ∧
    ({ line with timeOfDay := some 1439 } : State).timeOfDay = some 1439 := by decide

/-- A rule, with its hit counter, in CONFIGURING; a write elsewhere is refused. The last rule and the last range of the
tables at reset, and an entry that nothing wrote on a STOPPED line, are read. -/
theorem witness_WrittenEntryReadsBack :
    permitted .p0 17 = true ∧ encodingOk (.tableWrite 7 127 1 (List.replicate 37 1)) = true ∧
    encodingOk (.tableWrite 0 33 1 [0, 0, 0, 1]) = true ∧ (configuring.ready .p0).tsq.state = .configuring ∧
    (line.ready .p0).tsq.state ≠ .configuring ∧ (configuring.ready .p0).ready .p0 = configuring.ready .p0 ∧
    [((7 : Byte), (127 : Byte)), (8, 7)].all (fun x => encodingOk (.tableRead x.1 x.2)) = true ∧
    encodingOk (.tableRead 8 8) = false ∧
    after (.tableRead .p0 8 7) line (fun t => decide (replied .p0 t = [0, 0, 0, 0, 0, 0, 0])) = true ∧
    after (.tableRead .p0 5 3) State.reset (fun t => decide (replied .p0 t = [0, 0, 3, 0, 0, 0])) = true := by
  decide +kernel

/-- A witness of the first failing check: the length 0 of the tables at reset. -/
theorem witness_checkFails :
    checkFails (State.reset.ready .p0).lts 1 0 ∧
    ∀ earlier < 1, ∀ k, ¬ checkFails (State.reset.ready .p0).lts earlier k := by
  refine ⟨⟨⟨0, ?_, (100000, 4000000), ?_, ?_⟩, fun k h => absurd h (Nat.not_lt_zero k)⟩, ?_⟩
  · decide +kernel
  · decide +kernel
  · decide +kernel
  · intro earlier h k
    obtain rfl : earlier = 0 := by omega
    simp [checkFails, entryFails]

/-- An index with an entry is within the table. -/
theorem lt_of_mem_entry {α : Type} {n i : Nat} {v : Vector α n} {e : α} (h : e ∈ v[i]?) : i < n := by
  by_contra hn
  simp [Nat.le_of_not_lt hn] at h

/-- No entry of the tests' tables fails its check. -/
theorem witness_entriesPass (check i : Nat) : ¬ entryFails written check i := by
  have bounds (n : Nat) (h : written.stopCount ≤ n) : i < written.stopCount → i < n := fun hi => lt_of_lt_of_le hi h
  unfold entryFails
  split
  · rintro ⟨v, hv, r, hr, h⟩
    have key : ∀ i < 34, (written.params[i]?).all (fun v => ((paramRanges written)[i]?).all (fun r =>
        decide (r.1 ≤ v.toInt ∧ v.toInt ≤ r.2))) = true := by decide +kernel
    have sets : written.params[18]? = some 16 ∧ written.params[31]? = some 1024 := by decide +kernel
    have hk := key i (lt_of_mem_entry hv)
    rw [Option.mem_def.1 hv, Option.mem_def.1 hr] at hk
    obtain ⟨h1, h2⟩ := of_decide_eq_true hk
    refine h ⟨h1, h2, fun hi => ?_, fun hi => ?_⟩ <;> subst hi
    · obtain rfl : 16 = v := Option.some.inj (sets.1.symm.trans (Option.mem_def.1 hv))
      decide
    · obtain rfl : 1024 = v := Option.some.inj (sets.2.symm.trans (Option.mem_def.1 hv))
      decide
  · intro h
    have key : ∀ i < 8, ¬ entryFails written 5 i := by
      intro i hi; simp only [entryFails]; revert i; decide +kernel
    exact key i (bounds 8 (by decide +kernel) h.1) h
  · intro h
    have key : ∀ i < 8, ¬ entryFails written 6 i := by
      intro i hi; simp only [entryFails]; revert i; decide +kernel
    exact key i (bounds 8 (by decide +kernel) h.1) h
  · intro h
    have key : ∀ i < 32, ¬ entryFails written 8 i := by
      intro i hi; simp only [entryFails]; revert i; decide +kernel
    exact key i (lt_of_mem_entry h.choose_spec.1) h
  · rintro ⟨e, he, h⟩
    have rise : ∀ k < 3, ∀ f ∈ written.bands[k]?, ∀ g ∈ written.bands[k + 1]?,
        f.val.bound.toInt < g.val.bound.toInt := by decide +kernel
    have key : ∀ i < 4, ∀ e ∈ written.bands[i]?, e.valid = true ∧ -32767 ≤ e.val.bound.toInt ∧
        [e.val.aAcc, e.val.aDec, e.val.aSup].all (fun a => decide (100 ≤ a.toNat ∧ a.toNat ≤ 2000)) = true ∧
        e.val.aDec.toNat ≤ e.val.aSup.toNat := by decide +kernel
    have hi := lt_of_mem_entry he
    obtain ⟨h1, h2, h3, h4⟩ := key i hi e he
    exact h ⟨h1, h2, fun k hk f hf => rise k (by omega) f hf e (hk ▸ he),
      fun a ha => of_decide_eq_true (List.all_eq_true.1 h3 a ha), h4⟩
  · intro h
    have key : ∀ i < 32, ¬ entryFails written 11 i := by
      intro i hi; simp only [entryFails]; revert i; decide +kernel
    exact key i (lt_of_mem_entry h.choose_spec.1) h
  · intro h
    have key : ∀ i < 8, ¬ entryFails written 12 i := by
      intro i hi; simp only [entryFails]; revert i; decide +kernel
    exact key i (lt_of_mem_entry h.choose_spec.1) h
  · intro h
    have key : ∀ i < 128, ¬ entryFails written 13 i := by
      intro i hi; simp only [entryFails]; revert i; decide +kernel
    exact key i (lt_of_mem_entry h.choose_spec.1) h
  · intro h
    have key : ∀ i < 8, ¬ entryFails written 14 i := by
      intro i hi; simp only [entryFails]; revert i; decide +kernel
    exact key i (lt_of_mem_entry h.choose_spec.1) h
  · exact id

/-- No check fails for the tests' tables. -/
theorem witness_checksPass (check i : Nat) : ¬ checkFails written check i := by
  unfold checkFails
  split
  · have h : written.margin1 < written.margin2 ∧ written.margin2 < written.margin3 := by decide +kernel
    omega
  · have h0 : written.stopValid 0 = true ∧ written.stopValid 1 = true := by decide +kernel
    have h1 : ∀ i < 8, written.stopValid i = true → ∀ j < i, written.stopValid j = true := by decide +kernel
    have h2 : written.stopValid i = true → i < 8 := by
      intro h
      by_contra hn
      simp [Lts.stopValid, Nat.le_of_not_lt hn] at h
    rintro (⟨h, -⟩ | ⟨-, h, -⟩ | ⟨-, -, h, ⟨j, hj, hf⟩, -⟩)
    · simp [h0.1] at h
    · simp [h0.2] at h
    · simp [h1 i (h2 h) h j hj] at hf
  · have h : written.stopMark .a 0 = 0 ∧ written.stopMark .a (written.stopCount - 1) = written.lineLength := by decide +kernel
    simp [h]
  · have h : terminalServed written 0 ∧ terminalServed written (written.stopCount - 1) := by
      unfold terminalServed
      decide +kernel
    simp [h]
  · have h1 : ∀ c, ¬ channelFails written c := by
      unfold channelFails
      decide +kernel
    have h2 : ∃ c, written.role c = 0 := by decide +kernel
    have h3 : ∀ c role, role < 3 → ¬ secondWithRole written role c := by
      have : ∀ c, ∀ role < 3, ¬ secondWithRole written role c := by
        unfold secondWithRole
        decide +kernel
      exact fun c role h => this c role h
    simp [h1, h2, h3]
  · exact fun h => witness_entriesPass _ _ h.1

theorem witness_CommitLeavesConfiguring :
    (line.ready .p0).tsq.state ≠ .configuring ∧
    ((State.reset.ready .p0).tsq.state = .configuring ∧ (State.reset.ready .p0).lts.validate = some (0, 0)) ∧
    ((configuring.ready .p0).tsq.state = .configuring ∧ (configuring.ready .p0).lts = written ∧
      (configuring.ready .p0).obs.pfail = false) ∧
    after (.commit .p0) (inObs (fun o => { o with pfail := true }) configuring)
      (fun t => decide (t.tsq.state = .tripped ∧ t.obs.causes.map (·.kind) = [.powerFail] ∧ t.lts.committed = true)) =
        true := by decide +kernel

theorem witness_CarReportTaken :
    let u := inspection.ready (Car.port .a)
    encodingOk (.carReport (report 100)) = true ∧ (report 100).markerPresent = 0 ∧ (report 100).haltButton = 0 ∧
    (report 100).alarmHandle = 0 ∧ (report 100).faultFlag = 0 ∧ doorsWatched u = false ∧ u.tsq.state ≠ .departing := by
  decide +kernel

/-- The commands and order counts of the four sides, A before B and LEFT before RIGHT. -/
def doorOrders (t : State) : List (DoorCommand × Nat) :=
  [t.dru.a.left, t.dru.a.right, t.dru.b.left, t.dru.b.right].map (fun d => (d.command, d.orders))

/-- Quiet reports: all that may be released at stop 0 are, by a report that brings a link up; a side found open in
RUNNING by a car that shows it locked is ordered closed; a side of the other car that is RELEASED away from STOPPED is
withdrawn and not counted. A cause listed already stays as it is, and another joins it. -/
theorem witness_CarReportTaken_doors :
    (let s : State := { line with lpu := { line.lpu with carLinks := ⟨⟨false, none⟩, line.lpu.carLinks.b⟩ } }
     doorsWatched (s.ready .p1) = false ∧
      after (.carReport .p1 (report 100)) s (fun t => decide (t.mayRelease .a .left = true ∧
        (t.dru.get .a).left.command = .released ∧ (t.dru.get .b).right.command = .released)) = true) ∧
    after (.carReport .p1 { report 100 with leftClosed := 0 }) (running 5000)
      (fun t => decide (t.obs.causes = [] ∧
        doorOrders t = [(.closeOrdered, 1), (.holdClosed, 0), (.holdClosed, 0), (.holdClosed, 0)])) = true ∧
    after (.carReport .p1 (report 100))
      { inspection with dru := ⟨⟨shut, { shut with command := .closeOrdered, orders := 1 }⟩,
          ⟨shut, { shut with command := .released }⟩⟩ }
      (fun t => decide (
        doorOrders t = [(.holdClosed, 0), (.holdClosed, 1), (.holdClosed, 0), (.closeOrdered, 0)])) = true ∧
    tripped.hasCause .stopDemand = true ∧ tripped.hasCause .carFault = false ∧ tripped.braking = .stop ∧
    after (.carReport .p1 { report 100 with alarmHandle := 1 }) tripped
      (fun t => decide (t.obs.causes = tripped.obs.causes)) = true ∧
    after (.carReport .p1 { report 100 with faultFlag := 1 }) tripped
      (fun t => decide (t.obs.causes.map (·.kind) = [.stopDemand, .carFault])) = true := by decide +kernel

/-- Each further report of a car meets its clause: the button on the way to stop 3 and where none is ahead, the handle, the
fault flag, an unlocked side in RUNNING, and the closure of the last side. -/
theorem witness_CarReportTaken_clauses :
    (let u := (atMm 852500 (running 9000)).ready .p1
     u.isAhead 3 = true ∧ u.lts.onRequest 3 = true ∧ u.lts.hasPlatform .a 3 = true ∧ u.isAhead 1 = false ∧
      u.lts.hasPlatform .a 2 = false ∧ doorsWatched u = true ∧ u.obs.causes = [] ∧ u.lts.committed = true) ∧
    after (.carReport .p1 { report 100 with haltButton := 1 }) (atMm 852500 (running 9000))
      (fun t => decide (t.tsq.halts = [⟨3, [.button .a], 1000⟩] ∧ t.tsq.target = some 3)) = true ∧
    after (.carReport .p2 { report 100 with haltButton := 1 }) (atMm 1000000 (running 9000))
      (fun t => decide (t.tsq.halts = [])) = true ∧
    after (.carReport .p1 { report 100 with alarmHandle := 1 }) (running 5000)
      (fun t => decide (t.obs.causes.map (·.source) = [.car .a])) = true ∧
    after (.carReport .p2 { report 100 with faultFlag := 1 }) line
      (fun t => decide (t.obs.causes.map (·.kind) = [.carFault])) = true ∧
    after (.carReport .p1 { report 100 with leftLocked := 0 }) (running 5000)
      (fun t => decide (t.obs.causes.map (·.kind) = [.doorUnlockedRunning])) = true ∧
    (let s : State := { departing .closure (some 0) line with
      dru := ⟨⟨{ shut with command := .closeOrdered, orders := 1 }, shut⟩, ⟨shut, shut⟩⟩ }
     allProven s.dru = false ∧ s.obs.brakes.sbk.command = .applied ∧ s.obs.brakes.sbk.reading = .dropped ∧
      after (.carReport .p1 (report 100)) s (fun t => decide (t.tsq.step = some .brakeRelease)) = true ∧
      after (.carReport .p1 (report 100)) { s with dru := ⟨⟨{ s.dru.a.left with orders := 0 }, shut⟩, ⟨shut, shut⟩⟩ }
        (fun t => decide (t.tsq.step = some .closure)) = true) := by decide +kernel

/-- Errors of 600 mm, the tolerance, and of 601 mm; an unknown position; an unknown id, a repeat and tables not committed;
a target that follows the offset and a frozen one; a move that homes. -/
theorem witness_MarkerHomesOrCorrects :
    encodingOk (.carReport (marked 5 100 100)) = true ∧ (marked 5 100 100).markerPresent = 1 ∧
    (line.ready .p1).lts.committed = true ∧ (line.ready .p1).lts.markerPosition 5 = some 638900 ∧
    (line.ready .p1).cpt.cars.a.lastMarker = none ∧ line.lts.markerTol = 600 ∧
    after (.carReport .p1 (marked 5 100 100)) (atMm 638300 (running 5000))
      (fun t => decide (t.cpt.cars.a.offset = 600 ∧ t.obs.causes = [])) = true ∧
    after (.carReport .p1 (marked 5 100 100)) (atMm 638299 (running 5000))
      (fun t => decide (t.cpt.cars.a.offset = 0 ∧ t.hasCause .positionMismatch = true)) = true ∧
    after (.carReport .p1 (marked 5 100 100)) (inRmu (fun r => { r with known := false }) line)
      (fun t => decide (t.rmu.known = true ∧ t.xs = 638900)) = true ∧
    (line.ready .p1).lts.markerPosition 6 = none ∧
    (let s : State := { running 5000 with cpt := { (running 5000).cpt with
      cars := ⟨⟨0, none, some ⟨5, 100, 0, .accepted, 7⟩, none⟩, resetCarRecord⟩ } }
     [(running 5000, marked 6 100 100), (s, marked 5 100 100), ({ line with lts := written }, marked 5 100 100)].all
      (fun x => after (.carReport .p1 x.2) (atMm 638300 x.1) (fun t => decide (t.cpt.cars.a.offset = 0 ∧
        t.cpt.cars.a.lastMarker = x.1.cpt.cars.a.lastMarker ∧ t.cpt.cars.a.lastOdo = some 100))) = true) ∧
    after (.carReport .p1 (marked 5 100 100)) (atMm 638300 (running 5000))
      (fun t => decide (t.cpt.target = some ⟨4, 1470850, false⟩)) = true ∧
    after (.carReport .p1 (marked 5 100 100))
      (atMm 638300 { running 5000 with cpt := { (running 5000).cpt with target := some ⟨4, 1471295, true⟩ } })
      (fun t => decide (t.cpt.target = some ⟨4, 1471295, true⟩)) = true ∧
    after (.carReport .p1 (marked 5 100 100)) (inRmu (fun r => { r with known := false }) (moving false))
      (fun t => decide (t.tsq.move.map (·.endpoint) = some (some 639400))) = true := by decide +kernel

/-- Gate 7 is the last; persons fill the platform to its capacity of 180 exactly. -/
theorem witness_TicketJudged :
    ticketArgumentsBad { someTicket with gate := 8 } = true ∧ ticketArgumentsBad { someTicket with gate := 7 } = false ∧
    (∀ e ∈ (State.reset.ready .p3).lts.rules.toList, e.slot.valid = false) ∧
    (let u := ({ line with bcu := { line.bcu with batches :=
        ⟨{ resetBatch with state := .opened, passed := 177 }, line.bcu.batches.upper⟩ } } : State).ready .p3
     let b := u.bcu.batches.get .lower
     let r := (u.lts.rules.get 0).slot.val
     (u.lts.rules.get 0).slot.valid = true ∧ r.agrees (stage1Key .lower someTicket u) = true ∧ r.actionKind ≠ 1 ∧
      r.outcome = 0 ∧ b.state = .opened ∧ b.recent = [] ∧ b.passed + 0 + 3 ≤ u.lts.inForce.capacity ∧
      b.pending = [] ∧ b.lastRef < 255) ∧
    [(254, [255, 1, 3], 2), (255, [], 1), (254, [], 255)].all (fun x =>
      let b : Batch := { resetBatch with
        state := .opened, lastRef := x.1, pending := x.2.1.map (fun r => ⟨r, 1, 0, 90, 5⟩) }
      after (.ticket .p3 someTicket) { line with bcu := { line.bcu with batches := ⟨b, line.bcu.batches.upper⟩ } }
        (fun t => decide (t.bcu.batches.lower.lastRef = x.2.2))) = true := by decide +kernel

/-- The line with rules 0, stage 1, and 1, stage 2. -/
def ruled (f g : RuleEntry → RuleEntry) : State :=
  { line with lts := { tables with
    rules := (tables.rules.set 0 ⟨⟨true, f { blankRule with stage := 1, linkValue := 5 }⟩, 0⟩).set 1
      ⟨⟨true, g { blankRule with stage := 2, link := ⟨5, 255⟩ }⟩, 65535⟩ } }

/-- Outcome, part reason and the two indices of a verdict. -/
def judged (s : State) : List (List Byte) :=
  match exec (.ticket .p3 someTicket) s with
  | .next t => let r := replied .p3 t; [[r.getD 1 0, r.getD 2 0], (r.drop 8).take 4]
  | .fault _ | .refused _ => []

/-- A CONTINUE to a match, to none and to another CONTINUE; REFER, DENY and each denial of the overriding checks. -/
theorem witness_TicketJudged_outcomes :
    let go (r : RuleEntry) : RuleEntry := { r with actionKind := 1 }
    let batch (f : Batch → Batch) : State := { line with bcu := { line.bcu with batches :=
      ⟨f line.bcu.batches.lower, line.bcu.batches.upper⟩ } }
    judged (ruled go id) = [[0, 0], [1, 0, 1, 1]] ∧
    judged (ruled go (fun r => { r with link := ⟨6, 255⟩ })) = [[2, 1], [1, 0, 0, 0]] ∧
    judged (ruled go go) = [[2, 1], [1, 0, 1, 1]] ∧
    judged (ruled (fun r => { r with outcome := 1 }) id) = [[1, 0], [1, 0, 0, 0]] ∧
    judged (ruled (fun r => { r with outcome := 2 }) id) = [[2, 0], [1, 0, 0, 0]] ∧
    judged (batch (fun b => { b with state := .suspended })) = [[2, 2], [1, 0, 0, 0]] ∧
    judged (batch (fun b => { b with state := .closing })) = [[2, 3], [1, 0, 0, 0]] ∧
    judged (batch (fun b => { b with recent := [⟨77, 999⟩] })) = [[2, 4], [1, 0, 0, 0]] ∧
    judged (batch (fun b => { b with passed := 178 })) = [[2, 5], [1, 0, 0, 0]] ∧
    judged (batch (fun b => { b with pending := (List.range 16).map (fun i => ⟨i + 1, 1, 0, 9, 0⟩) })) =
      [[2, 6], [1, 0, 0, 0]] := by decide +kernel

/-- Gate 7 and 15 persons are values, gate 8, reference 0 and 16 persons are not. -/
theorem witness_PassageCounts :
    [((8 : Byte), (1 : Byte), (0 : Byte)), (7, 0, 0), (7, 1, 16)].all (fun x =>
      after (.passage .p3 x.1 x.2.1 x.2.2) line (fun t => decide (replied .p3 t = [3]))) = true ∧
    after (.passage .p3 7 255 15) line (fun t => decide (replied .p3 t = [8, 0, 0])) = true ∧
    (configuring.ready .p3).tsq.state = .configuring ∧
    (let s : State := { line with bcu := { line.bcu with batches :=
        ⟨{ resetBatch with state := .closing, pending := [⟨1, 7, 3, 77, 0⟩] }, line.bcu.batches.upper⟩ } }
     let b := (s.ready .p3).bcu.batches.get .lower
     (s.ready .p3).tsq.state ≠ .configuring ∧ (s.ready .p3).tsq.state ≠ .departing ∧
      (∀ e ∈ b.pending, e.reference = 1 ∧ e.gate = 7)) ∧
    after (.passage .p3 1 1 3) settling (fun t => decide (t.tsq.step = some .closure ∧ t.dru.a.left.command = .closeOrdered ∧
      replied .p3 t = [0, 2, 3, 3])) = true ∧
    after (.passage .p3 1 1 3) allShut (fun t => decide (t.tsq.step = some .brakeRelease ∧ replied .p3 t = [0, 2, 3, 3] ∧
      t.bcu.batches.lower.carried = 3)) = true ∧
    after (.passage .p3 1 1 3) { settling with bcu := { settling.bcu with loads := ⟨⟨181, none⟩, ⟨0, none⟩⟩ } }
      (fun t => decide (t.tsq.state = .stopped ∧ replied .p3 t = [0, 2, 3, 3])) = true := by decide +kernel

/-! The laws hold of the line of the tests, where sides may be released and a batch counts, and the steps go on. -/

theorem witness_DriveLawsKept :
    (trippedLaw (running 5000) ∧ (running 5000).tsq.driveRequest = true ∧ (running 5000).moving = true ∧
      (running 5000).den = true) ∧
    (tripped.tsq.state = .tripped ∧ tripped.obs.causes ≠ []) ∧
    after (.stop .p0) (running 5000) (fun t => decide (t.tsq.state = .tripped)) = true := by
  refine ⟨⟨?_, ?_⟩, ?_⟩
  · unfold trippedLaw; decide +kernel
  · decide +kernel
  · decide +kernel

theorem witness_DoorLawsKept :
    line.mayRelease .a .left = true ∧ line.mayRelease .b .right = true ∧ ((line.dru.get .a).get .left).command ≠ .released ∧
    after .measurementSample line (fun t => decide (((t.dru.get .a).get .left).command = .released)) = true := by
  decide +kernel

theorem witness_BatchAndHaltLawsKept :
    (asked.tsq.halts.map (·.stopIndex)).Nodup ∧ asked.lts.onRequest 3 = true ∧ 3 < asked.lts.stopCount ∧
    (asked.bcu.batches.get .lower).platformCount ≤ asked.capacity ∧ (asked.bcu.batches.get .lower).recent = [] ∧
    after (.ticket .p3 someTicket) asked (fun t => decide ((t.bcu.batches.get .lower).platformCount = 3)) = true := by
  decide +kernel

theorem witness_ReferenceAndOffsetLawsKept :
    (running 5000).obs.vPerm2 = none ∧ ((running 5000).cpt.cars.get .a).offset = 0 ∧
    after .measurementSample (running 5000)
      (fun t => t.obs.vPerm2.isSome && decide (t.srg.vRef = 5001200)) = true := by decide +kernel

theorem witness_CauseLawsKept :
    (tripped.obs.causes.map (·.kind)).Nodup ∧ tripped.braking = .stop ∧
    after (.emergency .p0) tripped (fun t => decide (t.braking = .emergency ∧ t.obs.railBrake = true)) = true := by
  decide +kernel

theorem witness_PortLawsKept :
    (line.lpu.ports.get .p0).queue = [] ∧ (line.lpu.ports.get .p0).events = 0 ∧
    after (.emergency .p0) (line.updPort .p3 (fun r => { r with subs := 0xFFFF }))
      (fun t => decide ((t.lpu.ports.get .p3).events ≠ 0)) = true := by decide +kernel

end Sys2Proof.Tests
end

section
/-! The statement of 02_rope_measurement on each counting channel at a sample (R19 to R22, R24). `Channel.measure` is
said once by its three cases (UNMAPPED, partial mark set, partial mark clear); `measurementSample_channel` carries
them through the rest of the sample, which changes a channel's state at most. -/

namespace Sys2Proof.Machine

/-! ### The window and its speed (R20, R21) -/

/-- The window after a sample always ends with the sample's distance (R20). -/
theorem pushWindow_eq_append (n : Nat) (d : Int) (w : List Int) :
    pushWindow n d w = (if w.length < n then w else w.tail) ++ [d] := by
  unfold pushWindow; split <;> rfl

/-- A window that holds a distance has a speed by R21's quotient, saturated. -/
theorem windowSpeed_of_ne_nil {w : List Int} (hw : w ≠ []) :
    windowSpeed w = max (-32767) (min 32767 (Int.tdiv w.sum (2 * w.length))) := by
  rw [windowSpeed, if_neg hw, clampTo_eq _ _ (by decide)]
  rfl

theorem pushWindow_ne_nil (n : Nat) (d : Int) (w : List Int) : pushWindow n d w ≠ [] := by
  simp [pushWindow_eq_append]

/-! ### A channel's own sample, case by case -/

@[simp] theorem measure_edges (n : Nat) (pitch : Int) (ch : Channel) : (ch.measure n pitch).edges = 0 := by
  simp only [Channel.measure]; split <;> rfl

@[simp] theorem measure_partialMark (n : Nat) (pitch : Int) (ch : Channel) :
    (ch.measure n pitch).partialMark = false := by
  simp only [Channel.measure]; split <;> rfl

/-- An UNMAPPED channel takes no increment, no distance and no speed, and its window stays (R19 to R21). -/
theorem measure_of_unmapped (n : Nat) (pitch : Int) {ch : Channel} (h : ch.state = .unmapped) :
    ch.measure n pitch = { ch with edges := 0, c := 0, d := 0, vch := 0, partialMark := false } :=
  if_pos h

/-- R19: the saturated increment, and the distance formed from it. -/
theorem measure_increment (n : Nat) (pitch : Int) {ch : Channel} (h : ch.state ≠ .unmapped) :
    (ch.measure n pitch).c = max (-4095) (min 4095 ch.edges) ∧
      (ch.measure n pitch).d = (ch.measure n pitch).c * pitch := by
  simp only [Channel.measure, if_neg h, and_true]
  exact clampTo_eq _ _ (by decide)

/-- R22: the first sample after a window clear leaves the window and reports speed 0. -/
theorem measure_window_of_partial (n : Nat) (pitch : Int) {ch : Channel} (h : ch.state ≠ .unmapped)
    (hp : ch.partialMark = true) :
    (ch.measure n pitch).window = ch.window ∧ (ch.measure n pitch).vch = 0 := by
  simp only [Channel.measure, if_neg h, if_pos hp, and_self]

/-- R20 and R21: otherwise the distance joins the window, and the speed is the new window's. -/
theorem measure_window_of_not_partial (n : Nat) (pitch : Int) {ch : Channel} (h : ch.state ≠ .unmapped)
    (hp : ¬ ch.partialMark = true) :
    (ch.measure n pitch).window = pushWindow n (ch.measure n pitch).d ch.window ∧
      (ch.measure n pitch).vch = windowSpeed (ch.measure n pitch).window := by
  simp only [Channel.measure, if_neg h, if_neg hp, and_self]

/-! ### The statement -/

theorem exec_measurementSample (s : State) :
    exec .measurementSample s = .next (actOnSample (rmuSample (tick s))) := rfl

/-- Settles O6: the channel after the sample is its own `measure`, the state apart, and each case of `measure` gives
the items of that case. -/
theorem channelsAtSample : Obligations.ChannelsAtSample := by
  intro s i
  refine ⟨_, exec_measurementSample s, ?_⟩
  obtain ⟨st, hch, -⟩ := measurementSample_channel (exec_measurementSample s) i
  simp only [hch, measure_edges, measure_partialMark, true_and]
  split
  next hu => simp only [measure_of_unmapped _ _ hu, and_self]
  next hu =>
    obtain ⟨hc, hd⟩ := measure_increment s.lts.inForce.window (s.lts.pitch i) hu
    refine ⟨hc, hd, ?_⟩
    split
    next hp => exact measure_window_of_partial _ _ hu hp
    next hp =>
      obtain ⟨hw, hv⟩ := measure_window_of_not_partial s.lts.inForce.window (s.lts.pitch i) hu hp
      refine ⟨hw.trans (pushWindow_eq_append _ _ _), hv.trans (windowSpeed_of_ne_nil ?_)⟩
      exact hw ▸ pushWindow_ne_nil _ _ _

end Sys2Proof.Machine
end

section
/-! The statements of 05_overspeed_supervision_and_braking on standstill (R81) and on the endpoint (R80). `supervised s`
is the state that the OBS finds at a sample: what the steps before it leave of the standstill count, the envelope and
the cause list is said of it once, and both statements are read off `obsSample` there. Between samples the standstill
indication is a field that no owner writes. -/

namespace Sys2Proof.Machine

/-! ### The state that the OBS finds at a sample -/

/-- The state after the steps of a sample that come before the OBS: the clock, the RMU, the travel of a move, the
permitted speed and the SRG (assumption 7). -/
def supervised (s : State) : State := srgSample (formPermitted (moveTravel (rmuSample (tick s))))

theorem exec_measurementSample_supervised (s : State) :
    exec .measurementSample s = .next (testDoors (tsqSample (obsSample (supervised s)))) := rfl

@[simp] theorem supervised_keeps (s : State) :
    (supervised s).lts = s.lts ∧ (supervised s).obs.pS = s.obs.pS := by
  simp [supervised]

/-- A change to ARRIVING leaves the envelope in force (R71). -/
@[simp] theorem reportReached_envelope (s : State) : (reportReached s).obs.envelope = s.obs.envelope := by
  unfold reportReached
  split
  next hrun =>
    rw [changeTrip_obs _ (by simp [hrun])]
    simp [obsOnTrip, TripState.endsTravel]
  next => split <;> simp

@[simp] theorem srgSample_envelope (s : State) : (srgSample s).obs.envelope = s.obs.envelope := by
  simp only [srgSample]
  split <;> simp

/-- A cause of a sample leaves the envelope and r_e2. -/
theorem causeIf_envelope {k : CauseKind} (cond : Bool) (s : State) (hk : k ≠ .stopDemand) :
    (causeIf cond k s).obs.envelope = s.obs.envelope ∧ (causeIf cond k s).obs.rE2 = s.obs.rE2 := by
  unfold causeIf
  split
  · obtain ⟨henv, -, -, hrE2, -⟩ := giveCause_envelope .internal s hk
    exact ⟨henv, hrE2⟩
  · exact ⟨rfl, rfl⟩

/-- A recorded disagreement leaves the envelope and r_e2. -/
theorem testDisagreement_envelope (s : State) :
    (testDisagreement s).obs.envelope = s.obs.envelope ∧ (testDisagreement s).obs.rE2 = s.obs.rE2 := by
  unfold testDisagreement
  split
  · split
    · simp only [recordDisagreement]
      obtain ⟨henv, -, -, hrE2, -⟩ := giveCause_envelope (k := .encoderDisagree) .internal _ (by decide)
      exact ⟨henv, hrE2⟩
    · exact ⟨rfl, rfl⟩
  · exact ⟨rfl, rfl⟩

theorem rmuSample_envelope (s : State) :
    (rmuSample s).obs.envelope = s.obs.envelope ∧ (rmuSample s).obs.rE2 = s.obs.rE2 := by
  obtain ⟨henv, hrE2⟩ := testDisagreement_envelope (s.updRmu (Rmu.sample s.lts))
  obtain ⟨henv', hrE2'⟩ := causeIf_envelope (k := .ropeSlip)
    ((testDisagreement (s.updRmu (Rmu.sample s.lts))).rmu.slips (testDisagreement (s.updRmu (Rmu.sample s.lts))).lts)
    (testDisagreement (s.updRmu (Rmu.sample s.lts))) (by decide)
  exact ⟨henv'.trans henv, hrE2'.trans hrE2⟩

/-- R72: under the envelope the sample's travel is taken from r_e2. -/
theorem formPermitted_rE2 {s : State} (h : s.obs.envelope = true) :
    (formPermitted s).obs.rE2 = s.obs.rE2 - travel s.obs.direction s.rmu.dx2 := by
  simp [formPermitted, h]

@[simp] theorem supervised_envelope (s : State) : (supervised s).obs.envelope = s.obs.envelope := by
  simp [supervised, rmuSample_envelope]

/-- R72 at the place where the OBS reads it. -/
theorem supervised_rE2 {s : State} (h : s.obs.envelope = true) :
    (supervised s).obs.rE2 = s.obs.rE2 - travel s.obs.direction (supervised s).rmu.dx2 := by
  have henv : (moveTravel (rmuSample (tick s))).obs.envelope = true := by simp [rmuSample_envelope, h]
  simp [supervised, formPermitted_rE2 henv, rmuSample_envelope]

/-! ### The standstill count of a sample (R81) -/

@[simp] theorem countStandstill_obs (s : State) :
    (countStandstill s).obs =
      { s.obs with pS := s.standstillCount, still := decide ((2 * s.standstillCount : Int) ≥ s.lts.tStill) } := rfl

theorem standstillCount_congr {s t : State} (hv : t.rmu.vSup = s.rmu.vSup) (hl : t.lts = s.lts)
    (hp : t.obs.pS = s.obs.pS) : t.standstillCount = s.standstillCount := by
  unfold State.standstillCount State.speed
  rw [hv, hl, hp]

/-- The OBS at a sample keeps its count and forms the indication from it: none of its causes touches either. -/
theorem obsSample_standstill (s : State) :
    (obsSample s).obs.pS = s.standstillCount ∧
      ((obsSample s).standstill = true ↔ (2 * s.standstillCount : Int) ≥ s.lts.tStill) := by
  have hcount : (causeIf s.overran .overrun (testRollback
      (causeIf s.absoluteExceeded .overspeedSevere (testLevels s)))).standstillCount = s.standstillCount := by
    apply standstillCount_congr <;> simp
  simp [obsSample, State.standstill, hcount]

theorem measurementSample_standstill {s t : State} (h : exec .measurementSample s = .next t) :
    t.obs.pS = (if (t.speed : Int) ≤ s.lts.vStill then min (s.obs.pS + 1) 1000 else 0) ∧
      (t.standstill = true ↔ (2 * t.obs.pS : Int) ≥ s.lts.tStill) := by
  rw [exec_measurementSample_supervised, Host.Outcome.next.injEq] at h
  subst h
  obtain ⟨hcount, hstill⟩ := obsSample_standstill (supervised s)
  simp only [State.standstill] at hstill
  simp [State.standstill, State.speed, hcount, hstill, State.standstillCount, Config.standstillCeiling]

/-! ### The indication between samples (R81) -/

@[simp] theorem startMove_still (d : Direction) (x : Int) (s : State) :
    (startMove d x s).obs.still = s.obs.still := by
  simp [startMove]

@[simp] theorem takeInspectMove_still (d : Byte) (x : Long) (s : State) :
    (takeInspectMove d x s).2.obs.still = s.obs.still := by
  unfold takeInspectMove
  split
  · rfl
  · split <;> (try split) <;> (try split) <;> simp

/-- Entry to CONFIGURING sets the count 0 and leaves the indication. -/
@[simp] theorem enterConfiguring_still (s : State) : (enterConfiguring s).obs.still = s.obs.still := by
  simp [enterConfiguring, Obs.atRest]

@[simp] theorem takeMode_still (m : Byte) (s : State) : (takeMode m s).2.obs.still = s.obs.still := by
  unfold takeMode takeModeConfig
  split
  · rfl
  · split <;> simp
  · split <;> (try split) <;> (try split) <;> simp

/-- A successful COMMIT sets the count 0 and leaves the indication. -/
@[simp] theorem commitTables_still (s : State) : (commitTables s).obs.still = s.obs.still := by
  simp only [commitTables]
  split <;> simp [Obs.atCommit, Obs.atRest]

@[simp] theorem takeCommit_still (s : State) : (takeCommit s).2.obs.still = s.obs.still := by
  unfold takeCommit
  split <;> (try split) <;> simp

@[simp] theorem takeCarReport_still (c : Car) (r : CarReport) (s : State) :
    (takeCarReport c r s).obs.still = s.obs.still := by
  simp [takeCarReport]

/-- No request's owner touches the indication. -/
theorem dispatch_still (p : PortId) (r : Request) (s : State) : (dispatch p r s).2.obs.still = s.obs.still := by
  cases r with
  | carReport rep => simp only [dispatch]; split <;> simp [wrongPort, plain]
  | ticket tk => simp only [dispatch]; split <;> simp [wrongPort, plain, full]
  | passage g ref n => simp only [dispatch]; split <;> simp [wrongPort, plain, full]
  | stationStatus => simp only [dispatch]; split <;> simp [wrongPort, plain, full]
  | _ => simp [dispatch, plain, full]

theorem portClosed_still (b : Bool) : PortClosed (fun s => s.obs.still = b) where
  port p f s h := by simpa using h
  heard p s h := by simpa using h
  owner p r s h := (dispatch_still p r s).trans h
  order c s h := by simpa using h

/-- A row that acts on a condition alone leaves the indication when its action does. -/
theorem ite_still {cond : Prop} [Decidable cond] {s t : State} (h : t.obs.still = s.obs.still) :
    (if cond then t else s).obs.still = s.obs.still := by
  split
  · exact h
  · rfl

/-- The rows that go through no port, MEASUREMENT_SAMPLE and POWER_ON_RESET apart, leave the indication. -/
theorem fieldRow_still {c : Instr} {s t : State} (hr : portRow c = false) (hx : exec c s = .next t)
    (hm : c ≠ .measurementSample) (hp : c ≠ .powerOnReset) : t.obs.still = s.obs.still := by
  cases c with
  | measurementSample => exact absurd rfl hm
  | powerOnReset => exact absurd rfl hp
  | encoderEdge => cases hx; rfl
  | demPeriod => cases hx; rfl
  | dirPendingChange =>
    cases hx
    split
    · exact ite_still (by simp)
    · rfl
  | warnToggle => cases hx; exact ite_still rfl
  | warningEnd => cases hx; exact ite_still (by simp)
  | settleExpiry => cases hx; exact ite_still (by simp)
  | closureTimerExpiry => cases hx; exact ite_still (by simp)
  | applyProofTimeout => cases hx; exact ite_still (by simp)
  | liftProofTimeout => cases hx; exact ite_still (by simp)
  | consoleTimeout => cases hx; exact ite_still (by simp)
  | carLinkTimeout => cases hx; exact ite_still (by simp)
  | gateLinkTimeout => cases hx; exact ite_still (by simp)
  | timeOfDayAdvance => cases hx; split <;> rfl
  | brakeFeedbackChange =>
    cases hx
    split <;> simp
  | pfailChange =>
    cases hx
    split
    · rfl
    · exact ite_still (by simp)
  | callLineChange =>
    cases hx
    split
    · rfl
    · split <;> simp
  | _ => simp [portRow, requestOf] at hr

/-- Settles O10: the count and the indication of a sample are those that `obsSample` forms from the state it finds;
every other row goes through a port, whose layer keeps the indication since every owner does, or is a field row. -/
theorem standstillCounted : Obligations.StandstillCounted := by
  refine ⟨fun s => ⟨_, exec_measurementSample s, measurementSample_standstill (exec_measurementSample s)⟩, ?_⟩
  intro c s t hx hm hp
  by_cases hr : portRow c = true
  · exact portRow_keeps_of (portClosed_still s.obs.still) hr rfl hx
  · exact fieldRow_still (by simpa using hr) hx hm hp

/-! ### The entries of one kind -/

/-- The entries of a kind are the same in two cause lists. -/
def SameEntries (k : CauseKind) (s t : State) : Prop :=
  ∀ e : CauseEntry, e.kind = k → (e ∈ t.obs.causes ↔ e ∈ s.obs.causes)

theorem SameEntries.trans {k : CauseKind} {s t u : State} (hst : SameEntries k s t) (htu : SameEntries k t u) :
    SameEntries k s u :=
  fun e he => (htu e he).trans (hst e he)

theorem sameEntries_of_causes {k : CauseKind} {s t : State} (h : t.obs.causes = s.obs.causes) : SameEntries k s t :=
  fun e _ => by rw [h]

theorem SameEntries.hasCause {k : CauseKind} {s t : State} (h : SameEntries k s t) : t.hasCause k = s.hasCause k := by
  rw [Bool.eq_iff_iff]
  simp only [State.hasCause, List.any_eq_true, decide_eq_true_eq]
  exact exists_congr fun e => and_congr_left (h e)

/-- A cause leaves the entries of every other kind (R83). -/
theorem giveCause_sameEntries {k k' : CauseKind} (src : CauseSource) (s : State) (h : k ≠ k') :
    SameEntries k' s (giveCause k src s) := by
  intro e he
  rw [giveCause_causes]
  split
  · have hne : e ≠ causeEntry k src s := fun heq => h (by rw [← he, heq, causeEntry])
    simp [hne]
  · rfl

theorem causeIf_sameEntries {k k' : CauseKind} (cond : Bool) (s : State) (h : k ≠ k') :
    SameEntries k' s (causeIf cond k s) := by
  unfold causeIf
  split
  · exact giveCause_sameEntries _ _ h
  · exact sameEntries_of_causes rfl

theorem testDisagreement_sameEntries {k : CauseKind} (s : State) (h : .encoderDisagree ≠ k) :
    SameEntries k s (testDisagreement s) := by
  unfold testDisagreement
  split
  · split
    · exact giveCause_sameEntries (k := .encoderDisagree) .internal _ h
    · exact sameEntries_of_causes rfl
  · exact sameEntries_of_causes rfl

/-- The RMU adds ENCODER_DISAGREE and ROPE_SLIP at most (R32, R35). -/
theorem rmuSample_sameEntries {k : CauseKind} (s : State) (hd : .encoderDisagree ≠ k) (hs : .ropeSlip ≠ k) :
    SameEntries k s (rmuSample s) :=
  have hsample : SameEntries k s (s.updRmu (Rmu.sample s.lts)) := sameEntries_of_causes rfl
  hsample.trans ((testDisagreement_sameEntries _ hd).trans (causeIf_sameEntries _ _ hs))

/-- No step of a sample between the RMU and the OBS gives a cause. -/
theorem supervised_sameEntries {k : CauseKind} (s : State) (hd : .encoderDisagree ≠ k) (hs : .ropeSlip ≠ k) :
    SameEntries k s (supervised s) :=
  have htick : SameEntries k s (tick s) := sameEntries_of_causes rfl
  htick.trans ((rmuSample_sameEntries _ hd hs).trans (sameEntries_of_causes (by simp [supervised])))

/-- The tests of the three levels add OVERSPEED and OVERSPEED_SEVERE at most (R76). -/
theorem testLevels_sameEntries {k : CauseKind} (s : State) (ho : .overspeed ≠ k) (hs : .overspeedSevere ≠ k) :
    SameEntries k s (testLevels s) := by
  unfold testLevels
  split
  · exact (sameEntries_of_causes (excursionMark_causes _ s)).trans
      ((causeIf_sameEntries _ _ ho).trans (causeIf_sameEntries _ _ hs))
  · exact sameEntries_of_causes rfl

/-- The rollback check adds ROLLBACK at most (R78, R79). -/
theorem testRollback_sameEntries {k : CauseKind} (s : State) (h : .rollback ≠ k) : SameEntries k s (testRollback s) :=
  causeIf_sameEntries _ _ h

/-! ### A cause given at a sample -/

/-- A cause given to a list with the sample's earlier entries of its kind is given at the sample, when what it
records is still published at the sample's end (R83). -/
theorem givenAtSample_of_giveCause {k : CauseKind} {s u t : State} (hcom : u.lts.committed = true)
    (hold : SameEntries k s u) (hcauses : t.obs.causes = (giveCause k .internal u).obs.causes)
    (hentry : causeEntry k .internal u = causeEntry k .internal t) : GivenAtSample k s t := by
  rw [giveCause_causes] at hcauses
  by_cases htaken : u.takesCause k = true
  · rw [if_pos htaken, hentry] at hcauses
    exact ⟨causeEntry k .internal t, by simp [hcauses], rfl, .inr ⟨rfl, rfl, rfl, rfl⟩⟩
  · rw [if_neg htaken] at hcauses
    have hlisted : u.hasCause k = true := by simpa [State.takesCause, hcom] using htaken
    simp only [State.hasCause, List.any_eq_true, decide_eq_true_eq] at hlisted
    obtain ⟨e, hmem, hkind⟩ := hlisted
    exact ⟨e, hcauses ▸ hmem, hkind, .inl ((hold e hkind).mp hmem)⟩

/-! ### OVERRUN (R80) -/

/-- The state to which the OBS gives OVERRUN at a sample: the levels, the line check and the rollback are
tested before it. -/
def beforeOverrun (s : State) : State :=
  testRollback (causeIf s.absoluteExceeded .overspeedSevere (testLevels s))

/-- OVERRUN is the last cause that the OBS gives at a sample. -/
theorem obsSample_causes (s : State) :
    (obsSample s).obs.causes = (causeIf s.overran .overrun (beforeOverrun s)).obs.causes := by
  simp [obsSample, beforeOverrun]

theorem beforeOverrun_sameEntries (s : State) : SameEntries .overrun s (beforeOverrun s) :=
  (testLevels_sameEntries s (by decide) (by decide)).trans
    ((causeIf_sameEntries _ _ (by decide)).trans (testRollback_sameEntries _ (by decide)))

@[simp] theorem beforeOverrun_keeps (s : State) :
    (beforeOverrun s).lts = s.lts ∧ (beforeOverrun s).clock = s.clock ∧ (beforeOverrun s).rmu.x2 = s.rmu.x2 ∧
    (beforeOverrun s).rmu.vSup = s.rmu.vSup ∧ (beforeOverrun s).rmu.known = s.rmu.known := by
  simp [beforeOverrun]

/-- The comparison of R80, in terms of the state before the sample. -/
theorem supervised_overran {s : State} (h : s.obs.envelope = true) :
    (supervised s).overran = decide (s.obs.rE2 - travel s.obs.direction (supervised s).rmu.dx2 < 0) := by
  simp [State.overran, h, supervised_rE2 h]

theorem measurementSample_overrun {s t : State} (hx : exec .measurementSample s = .next t)
    (hcom : s.lts.committed = true) (henv : s.obs.envelope = true) :
    (s.obs.rE2 - travel s.obs.direction t.rmu.dx2 < 0 → GivenAtSample .overrun s t) ∧
      (0 ≤ s.obs.rE2 - travel s.obs.direction t.rmu.dx2 → t.hasCause .overrun = s.hasCause .overrun) := by
  rw [exec_measurementSample_supervised, Host.Outcome.next.injEq] at hx
  have hdx : t.rmu.dx2 = (supervised s).rmu.dx2 := by simp [← hx]
  have hcauses : t.obs.causes =
      (causeIf (supervised s).overran .overrun (beforeOverrun (supervised s))).obs.causes := by
    simp [← hx, obsSample_causes]
  have hold : SameEntries .overrun s (beforeOverrun (supervised s)) :=
    (supervised_sameEntries s (by decide) (by decide)).trans (beforeOverrun_sameEntries _)
  rw [hdx]
  constructor
  · intro hover
    rw [causeIf, supervised_overran henv, if_pos (decide_eq_true hover)] at hcauses
    refine givenAtSample_of_giveCause (by simp [hcom]) hold hcauses ?_
    simp [causeEntry, State.xs, Rmu.xsMm, Rmu.xsUm, State.speed, ← hx]
  · intro hwithin
    rw [causeIf, supervised_overran henv, if_neg (by simpa using hwithin)] at hcauses
    exact (hold.trans (sameEntries_of_causes hcauses)).hasCause

/-- Settles O11: r_e2 is compared with the sample's travel taken from it (`supervised_overran`); OVERRUN is then given
to a list that still holds the earlier OVERRUN entries alone, or that list stays. -/
theorem overrunGivesCause : Obligations.OverrunGivesCause := fun s hcom henv =>
  ⟨_, exec_measurementSample s, measurementSample_overrun (exec_measurementSample s) hcom henv⟩

end Sys2Proof.Machine
end

section
/-! The statement of 08_passenger_counts_and_boarding_batches on a car link loss (R139). Of all that a link loss does, only
`dropCarData` touches the loads. -/

namespace Sys2Proof.Machine

@[simp] theorem PerCar.get_set_self {α : Type} (v : PerCar α) (c : Car) (x : α) : (v.set c x).get c = x := by
  cases c <;> rfl

theorem PerCar.get_set_of_ne {α : Type} (v : PerCar α) {c d : Car} (x : α) (h : d ≠ c) :
    (v.set c x).get d = v.get d := by
  cases c <;> cases d
  case a.a | b.b => exact absurd rfl h
  case a.b | b.a => rfl

@[simp] theorem dropCarData_loads (c : Car) (s : State) :
    (dropCarData c s).bcu.loads = s.bcu.loads.set c { s.bcu.loads.get c with snap := none } := by
  simp [dropCarData]

/-- The event, the cause, the door test and the abandoned departure of a link loss leave the loads, so that they are as
`dropCarData` sets them. -/
theorem carSilence_loads (c : Car) (s : State) :
    (carSilence c s).bcu.loads = s.bcu.loads.set c { s.bcu.loads.get c with snap := none } := by
  simp only [carSilence]
  split <;> split <;> simp

/-- R184: the expiry of a timer that runs is the car's silence. -/
theorem exec_carLinkTimeout_of_running {c : Car} {s : State} (h : (s.lpu.carLinks.get c).timer.isSome = true) :
    exec (.carLinkTimeout c) s = .next (carSilence c s) :=
  congrArg Host.Outcome.next (if_pos h)

/-- Settles O27: the car's entry of the loads after the silence is its old one without the snapshots
(`carSilence_loads`), and the other car's entry is untouched. -/
theorem carLinkLossDropsSnapshots : Obligations.CarLinkLossDropsSnapshots := by
  intro c s hrun
  refine ⟨carSilence c s, exec_carLinkTimeout_of_running hrun, ?_⟩
  simp only [carSilence_loads, PerCar.get_set_self, true_and]
  exact fun x hx => PerCar.get_set_of_ne _ _ hx

end Sys2Proof.Machine
end

section
/-! What every command keeps, argued once for all laws. `OpsKept P` lists the changes of single items that a predicate
survives, each under the conditions in which the model makes it; from these alone every shared operation of
Machine/Ops.lean, every owner of a request and every row is shown to keep `P`. A law is then proved by its own short
`OpsKept` proof. -/

namespace Sys2Proof.Machine

/-! ### The conditions of single changes -/

/-- A batch record as an operation of the BCU other than an admission may leave it: no more persons counted, the serials
kept, no more entries pending (R140, R142). -/
structure Batch.Within (b b' : Batch) : Prop where
  count   : b'.platformCount ≤ b.platformCount
  recent  : b'.recent = b.recent
  pending : b'.pending.length ≤ b.pending.length

/-- A trip record as a change within one trip state may leave it. -/
structure TsqItem (s : State) (t : Tsq) : Prop where
  state  : t.state = s.tsq.state
  halts  : t.halts.Sublist s.tsq.halts
  target : t.target = s.tsq.target ∨ s.tsq.state ≠ .stopped
  drive  : t.driveRequest = s.tsq.driveRequest ∨ t.driveRequest = false
  step   : t.step = s.tsq.step ∨ s.releasing = false

/-- The OBS as a change of items other than the causes and SBK may leave it. -/
structure ObsItem (o o' : Obs) : Prop where
  causes  : o'.causes = o.causes
  from_   : o'.trippedFrom = o.trippedFrom
  rail    : o'.railBrake = o.railBrake
  brakes  : ∀ b, (o'.brakes.get b).command = (o.brakes.get b).command ∧
    (o'.brakes.get b).proof = (o.brakes.get b).proof
  perm    : o'.vPerm2 = o.vPerm2 ∨ o'.vPerm2 = none

/-- Door records among which none is RELEASED that was not. -/
def NoNewRelease (d d' : PerCar (PerSide DoorRecord)) : Prop :=
  ∀ c side, ((d'.get c).get side).command = .released → ((d.get c).get side).command = .released

/-- A change to a trip state other than CONFIGURING and TRIPPED, as the model makes it. -/
structure Passes (s : State) (new : TripState) : Prop where
  config  : new ≠ .configuring
  trip    : new ≠ .tripped
  clear   : s.tsq.state ≠ .tripped ∨ s.obs.causes = []
  departs : new = .departing → s.tsq.state = .stopped ∨ s.tsq.state = .stranded

/-- The changes that a predicate survives. -/
structure OpsKept (P : State → Prop) : Prop where
  raise : ∀ scope e {s}, P s → P (raiseOn scope e s)
  tsq   : ∀ (f : Tsq → Tsq) {s}, TsqItem s (f s.tsq) → P s → P (s.updTsq f)
  drive : ∀ {s}, s.moving = true → P s → P (s.updTsq (fun t => { t with driveRequest := true }))
  srg   : ∀ (f : Srg → Srg) {s}, (f s.srg).vRef ≤ s.srg.vRef → P s → P (s.updSrg f)
  obs   : ∀ (f : Obs → Obs) {s}, ObsItem s.obs (f s.obs) → P s → P (s.updObs f)
  brake : ∀ b (r : BrakeRecord) {s}, r.command = .applied ∨ r.command = (s.obs.brakes.get b).command ∨
    s.obs.causes = [] → P s → P (setBrake b r s)
  cpt   : ∀ (f : Cpt → Cpt) {s}, (∀ c, ((f s.cpt).cars.get c).offset = (s.cpt.cars.get c).offset) → P s →
    P (s.updCpt f)
  rmu   : ∀ (f : Rmu → Rmu) {s}, (f s.rmu).x2 = s.rmu.x2 ∧ (f s.rmu).known = s.rmu.known → P s → P (s.updRmu f)
  dru   : ∀ (f : PerCar (PerSide DoorRecord) → PerCar (PerSide DoorRecord)) {s}, NoNewRelease s.dru (f s.dru) →
    P s → P (s.updDru f)
  bcu   : ∀ (f : Bcu → Bcu) {s}, (∀ st, (s.bcu.batches.get st).Within ((f s.bcu).batches.get st)) → P s →
    P (s.updBcu f)
  doors : ∀ {s}, P s → P (testDoors s)
  links : ∀ (f : Lpu → Lpu) {s}, (f s.lpu).ports = s.lpu.ports → (∀ c, (s.lpu.carLinks.get c).up = true →
    ((f s.lpu).carLinks.get c).up = true) → P s → P (s.updLpu f)
  trip  : ∀ {new} step {s}, Passes s new → P s → P (changeTrip new step s)
  depart : ∀ (f : Tsq → Tsq) (g : Option StopTarget) {s}, (s.tsq.state = .stopped ∨ s.tsq.state = .stranded) →
    (∀ t, (f t).state = t.state ∧ (f t).step = t.step ∧ (f t).halts = t.halts ∧ (f t).driveRequest = t.driveRequest) →
    P s → P (changeTrip .departing (some .warning) ((s.updCpt (fun c => { c with target := g })).updTsq f))
  cause : ∀ k src {s}, P s → P (giveCause k src s)
  list  : ∀ k src {s}, s.tsq.state ≠ .configuring → k < s.lts.stopCount → s.lts.onRequest k = true → P s →
    P (listHalt k src s)
  clock : ∀ (t : Option Nat) (m : Nat) {s}, P s → P { s with timeOfDay := t, minuteMs := m }

/-! ### Facts about the conditions -/

theorem Batch.Within.refl (b : Batch) : b.Within b := ⟨le_rfl, rfl, le_rfl⟩

/-- A record that differs in state, settle timer and counts of boarding alone. -/
theorem Batch.Within.of_eq {b b' : Batch} (hp : b'.passed ≤ b.passed) (hq : b'.pending = b.pending)
    (hr : b'.recent = b.recent) : b.Within b' where
  count := by simp only [Batch.platformCount, Batch.pendingPersons, hq]; omega
  recent := hr
  pending := by rw [hq]

theorem closeRequested_within (b : Batch) (n : Nat) : b.Within (b.closeRequested n) := by
  unfold Batch.closeRequested
  split <;> exact .of_eq le_rfl rfl rfl

theorem carriedOver_within (b : Batch) (n : Nat) : b.Within (b.carriedOver n) :=
  .of_eq (Nat.sub_le _ _) rfl rfl

theorem settled_within (b : Batch) : b.Within b.settled where
  count := by simp [Batch.platformCount, Batch.settled, Batch.pendingPersons]
  recent := rfl
  pending := Nat.zero_le _

/-- The persons of the entries that a passage leaves, with those of the entry it is under, are no more than before. -/
theorem persons_filter_le {l : List Admission} {e : Admission} (h : e ∈ l) :
    ((l.filter (fun x => decide (x.reference ≠ e.reference))).map (·.persons)).sum + e.persons ≤
      (l.map (·.persons)).sum := by
  induction l with
  | nil => cases h
  | cons x rest ih =>
    have hle : ((rest.filter (fun x => decide (x.reference ≠ e.reference))).map (·.persons)).sum ≤
        (rest.map (·.persons)).sum := by
      exact (List.Sublist.map _ List.filter_sublist).sum_le_sum (by simp)
    rcases List.mem_cons.mp h with rfl | h'
    · rw [List.filter_cons_of_neg (by simp), List.map_cons, List.sum_cons]
      omega
    · have hrest := ih h'
      by_cases hx : x.reference = e.reference
      · rw [List.filter_cons_of_neg (by simp [hx]), List.map_cons, List.sum_cons]
        omega
      · rw [List.filter_cons_of_pos (by simp [hx]), List.map_cons, List.map_cons, List.sum_cons, List.sum_cons]
        omega

theorem passedUnder_within (b : Batch) (e : Admission) (n : Nat) (h : e ∈ b.pending) :
    b.Within (b.passedUnder e n) where
  count := by
    have := persons_filter_le h
    simp only [Batch.platformCount, Batch.pendingPersons, Batch.passedUnder]
    omega
  recent := rfl
  pending := List.length_filter_le _ _

/-- A trip record that differs in items which no law reads. -/
theorem TsqItem.of_eq {s : State} {t : Tsq} (hs : t.state = s.tsq.state) (hh : t.halts = s.tsq.halts)
    (ht : t.target = s.tsq.target) (hd : t.driveRequest = s.tsq.driveRequest) (hp : t.step = s.tsq.step) :
    TsqItem s t :=
  ⟨hs, hh ▸ .refl _, .inl ht, .inl hd, .inl hp⟩

theorem ObsItem.of_eq {o o' : Obs} (hc : o'.causes = o.causes) (hf : o'.trippedFrom = o.trippedFrom)
    (hr : o'.railBrake = o.railBrake) (hb : o'.brakes = o.brakes) (hv : o'.vPerm2 = o.vPerm2) : ObsItem o o' :=
  ⟨hc, hf, hr, fun _ => by rw [hb]; exact ⟨rfl, rfl⟩, .inl hv⟩

theorem NoNewRelease.orderClose (d : PerCar (PerSide DoorRecord)) :
    NoNewRelease d (d.mapCar (fun _ v => v.map orderClose)) := by
  intro c side h
  simp only [PerCar.get_mapCar, PerSide.get_map, Machine.orderClose] at h
  split at h <;> simp_all

@[simp] theorem PerStation.get_set {α : Type} (v : PerStation α) (a b : Station) (x : α) :
    (v.set a x).get b = if b = a then x else v.get b := by
  cases a <;> cases b <;> rfl

theorem not_releasing_of_state {s : State} (h : s.tsq.state ≠ .departing) : s.releasing = false := by
  simp [State.releasing, h]

theorem not_releasing_of_step {s : State} (h : s.tsq.step ≠ some .brakeRelease) : s.releasing = false := by
  simp [State.releasing, h]

theorem state_of_releasing {s : State} (h : s.releasing = true) : s.tsq.state = .departing := by
  simp only [State.releasing, Bool.and_eq_true, decide_eq_true_eq] at h
  exact h.1

theorem state_of_early {s : State} (h : s.earlyDeparture = true) : s.tsq.state = .departing := by
  simp only [State.earlyDeparture, Bool.and_eq_true, decide_eq_true_eq] at h
  exact h.1

@[simp] theorem PerCar.get_set {α : Type} (v : PerCar α) (c d : Car) (x : α) :
    (v.set c x).get d = if d = c then x else v.get d := by
  cases c <;> cases d <;> rfl

/-- The count of orders says nothing of the command (R129). -/
@[simp] theorem ordered_command (d : DoorRecord) : d.ordered.command = d.command := by
  unfold DoorRecord.ordered; split <;> rfl

/-! ### The shared operations -/

namespace OpsKept

variable {P : State → Prop} (hP : OpsKept P)
include hP

theorem raised (e : EventKind) {s : State} (h : P s) : P (Machine.raise e s) := hP.raise _ e h

theorem raisedLink (e : EventKind) (p : PortId) {s : State} (h : P s) : P (raiseLink e p s) := hP.raise _ e h

theorem tsqOf (f : Tsq → Tsq) {s : State} (h : P s) (hs : (f s.tsq).state = s.tsq.state)
    (hh : (f s.tsq).halts = s.tsq.halts) (ht : (f s.tsq).target = s.tsq.target)
    (hd : (f s.tsq).driveRequest = s.tsq.driveRequest) (hp : (f s.tsq).step = s.tsq.step) : P (s.updTsq f) :=
  hP.tsq f (.of_eq hs hh ht hd hp) h

theorem setBatch {st : Station} {b : Batch} {s : State} (hb : (s.bcu.batches.get st).Within b) (h : P s) :
    P (setBatch st b s) := by
  have hu : P (s.updBcu (fun u => { u with batches := u.batches.set st b })) := by
    refine hP.bcu _ (fun st' => ?_) h
    rw [PerStation.get_set]
    split
    next he => exact he ▸ hb
    next => exact .refl _
  unfold Machine.setBatch
  split
  · exact hu
  · exact hP.raised _ hu

theorem openBatch (st : Station) {s : State} (h : P s) : P (openBatch st s) :=
  hP.setBatch (.of_eq le_rfl rfl rfl) h

theorem openBatches {s : State} (h : P s) : P (openBatches s) := hP.openBatch _ (hP.openBatch _ h)

theorem openAtTerminal (k : Nat) {s : State} (h : P s) : P (openAtTerminal k s) := by
  unfold Machine.openAtTerminal
  split
  · exact hP.openBatches h
  · exact h

theorem openIfSuspended (st : Station) {s : State} (h : P s) : P (openIfSuspended st s) := by
  unfold Machine.openIfSuspended
  split
  · exact hP.openBatch st h
  · exact h

theorem closeBatch (st : Station) {s : State} (h : P s) : P (closeBatch st s) :=
  hP.setBatch (closeRequested_within _ _) h

theorem carryOverAt (k : Nat) (st : Station) {s : State} (h : P s) : P (carryOverAt k st s) := by
  unfold Machine.carryOverAt
  split
  · exact hP.setBatch (carriedOver_within _ _) h
  · exact h

theorem carryOver {s : State} (h : P s) : P (carryOver s) := by
  unfold Machine.carryOver
  split
  · split
    · exact hP.carryOverAt _ _ (hP.carryOverAt _ _ h)
    · exact h
  · exact h

theorem applyBrake (b : Brake) {s : State} (h : P s) : P (applyBrake b s) := by
  unfold Machine.applyBrake
  split
  · exact h
  · exact hP.brake _ _ (.inl (applied_command _ _)) h

theorem liftBrake (b : Brake) {s : State} (hc : s.obs.causes = []) (h : P s) : P (liftBrake b s) := by
  unfold Machine.liftBrake
  split
  · exact h
  · exact hP.brake _ _ (.inr (.inr hc)) h

theorem dropDrive {s : State} (h : P s) : P (dropDrive s) :=
  hP.srg _ le_rfl (hP.tsq _ ⟨rfl, .refl _, .inl rfl, .inr rfl, .inl rfl⟩ h)

theorem restReference {s : State} (h : P s) : P (restReference s) := by
  unfold Machine.restReference
  split
  · exact h
  · exact hP.srg _ (Nat.zero_le _) h

theorem serveHalt (k : Nat) {s : State} (h : P s) : P (serveHalt k s) := by
  unfold Machine.serveHalt
  split
  · exact hP.raised _ (hP.tsq _ ⟨rfl, List.filter_sublist, .inl rfl, .inl rfl, .inl rfl⟩ h)
  · exact h

/-- The target of a trip that is not STOPPED. -/
theorem target (k : Nat) {s : State} (hs : s.tsq.state ≠ .stopped) (h : P s) :
    P (s.updTsq (fun t => { t with target := some k })) :=
  hP.tsq _ ⟨rfl, .refl _, .inr hs, .inl rfl, .inl rfl⟩ h

theorem stopAt (k : Nat) {s : State} (hs : s.tsq.state ≠ .stopped)
    (hc : s.tsq.state ≠ .tripped ∨ s.obs.causes = []) (h : P s) : P (stopAt k s) :=
  hP.serveHalt k (hP.trip none ⟨by decide, by decide, by simpa using hc, fun h => by cases h⟩ (hP.target k hs h))

theorem abandonToOrigin {s : State} (hs : s.tsq.state = .departing) (h : P s) : P (abandonToOrigin s) :=
  hP.openAtTerminal _ (hP.stopAt _ (by simp [hs]) (.inl (by simp [hs])) h)

theorem cptTarget (f : Option StopTarget → Option StopTarget) {s : State} (h : P s) :
    P (s.updCpt (fun c => { c with target := f c.target })) :=
  hP.cpt _ (fun _ => rfl) h

theorem arrivalTest {s : State} (h : P s) : P (arrivalTest s) := by
  unfold Machine.arrivalTest
  split
  · exact h
  next g _ =>
    have hu := hP.cpt (fun c => { c with cars := ⟨{ c.cars.a with arrival := some (arrivalOf s .a g.stopIndex) },
      { c.cars.b with arrival := some (arrivalOf s .b g.stopIndex) }⟩ }) (by intro c; cases c <;> rfl) h
    dsimp only
    split
    · exact hP.raised _ hu
    · exact hu

theorem brakesLifted {s : State} (h : P s) : P (brakesLifted s) := by
  unfold Machine.brakesLifted
  split
  next hr =>
    have hd := state_of_releasing hr
    exact hP.trip none ⟨by decide, by decide, .inl (by simp [hd]), fun h => by cases h⟩ h
  next =>
    split
    next hi => exact hP.tsq _ ⟨rfl, .refl _, .inl rfl, .inl rfl, .inr (not_releasing_of_state (by simp [hi.1]))⟩ h
    next => exact h

/-- A mark of a request that waits. -/
theorem mark (f : Obs → Obs) {s : State} (h : P s) (hc : (f s.obs).causes = s.obs.causes)
    (hf : (f s.obs).trippedFrom = s.obs.trippedFrom) (hr : (f s.obs).railBrake = s.obs.railBrake)
    (hb : (f s.obs).brakes = s.obs.brakes) (hv : (f s.obs).vPerm2 = s.obs.vPerm2) : P (s.updObs f) :=
  hP.obs f (.of_eq hc hf hr hb hv) h

theorem reportLifted {s : State} (h : P s) : P (reportLifted s) := by
  unfold Machine.reportLifted
  split
  · exact hP.brakesLifted (hP.mark _ h rfl rfl rfl rfl rfl)
  · exact h

theorem liftRequest {s : State} (h : P s) : P (liftRequest s) := by
  unfold Machine.liftRequest
  split
  next hc =>
    exact hP.reportLifted (hP.mark _ (hP.liftBrake _ (by simpa using hc) (hP.liftBrake _ hc h)) rfl rfl rfl rfl rfl)
  next => exact h

theorem arrivalEnd {s : State} (hs : s.tsq.state = .arriving) (h : P s) : P (arrivalEnd s) := by
  have ht : P (Machine.openAtTerminal (s.tsq.target.getD 0)
      (Machine.arrivalTest (Machine.stopAt (s.tsq.target.getD 0) (Machine.dropDrive s)))) :=
    hP.openAtTerminal _ (hP.arrivalTest (hP.stopAt _ (by simp [hs]) (.inl (by simp [hs])) (hP.dropDrive h)))
  unfold Machine.arrivalEnd
  dsimp only
  split
  · refine hP.trip none ⟨by decide, by decide, .inl ?_, fun h => by cases h⟩ ht
    simp [Machine.stopAt]
  · exact ht

theorem moveEnd {s : State} (hs : s.tsq.state = .inspecting) (h : P s) : P (moveEnd s) :=
  hP.trip none ⟨by decide, by decide, .inl (by simp [hs]), fun h => by cases h⟩ (hP.dropDrive h)

theorem sbkProven {s : State} (h : P s) : P (sbkProven s) := by
  unfold Machine.sbkProven
  split
  next ha => exact hP.arrivalEnd ha.1 h
  next =>
    split
    next hi => exact hP.moveEnd hi.1 h
    next => exact h

theorem reportApplied {s : State} (h : P s) : P (reportApplied s) := by
  unfold Machine.reportApplied
  split
  · exact hP.sbkProven (hP.mark _ h rfl rfl rfl rfl rfl)
  · exact h

theorem applyRequest {s : State} (h : P s) : P (applyRequest s) :=
  hP.reportApplied (hP.mark _ (hP.applyBrake _ h) rfl rfl rfl rfl rfl)

theorem directionShown {s : State} (h : P s) : P (directionShown s) := by
  unfold Machine.directionShown
  split
  next hm =>
    refine hP.liftRequest (hP.drive ?_ h)
    rcases hm with hr | ⟨hi, -⟩
    · simp [State.moving, hr]
    · simp [State.moving, hi]
  next => exact h

theorem handDirection (d : Direction) {s : State} (h : P s) : P (handDirection d s) := by
  unfold Machine.handDirection
  split
  · exact hP.directionShown (hP.srg _ le_rfl h)
  · split
    · exact hP.directionShown (hP.srg _ le_rfl h)
    · exact hP.srg _ le_rfl h

theorem freeze (d : Direction) {s : State} (h : P s) : P (freeze d s) := hP.srg _ le_rfl h

theorem envelopeForTrip {s : State} (h : P s) : P (envelopeForTrip s) := by
  unfold Machine.envelopeForTrip
  refine hP.obs _ ?_ h
  dsimp only
  split <;> exact .of_eq rfl rfl rfl rfl rfl

theorem releaseActions {s : State} (hr : s.releasing = false) (h : P s) : P (releaseActions s) :=
  hP.openIfSuspended _ (hP.openIfSuspended _ (hP.carryOver (hP.envelopeForTrip (hP.rmu _ ⟨rfl, rfl⟩ (hP.freeze _
    (hP.tsq _ ⟨rfl, .refl _, .inl rfl, .inl rfl, .inr hr⟩ h))))))

theorem brakeRelease {s : State} (hr : s.releasing = false) (h : P s) : P (brakeRelease s) :=
  hP.handDirection _ (hP.releaseActions hr h)

theorem closureReport {s : State} (h : P s) : P (closureReport s) := by
  unfold Machine.closureReport
  split
  next hc => exact hP.brakeRelease (not_releasing_of_step (by simp [hc.2])) h
  next => exact h

theorem enterClosure {s : State} (hr : s.releasing = false) (h : P s) : P (enterClosure s) := by
  have hu := hP.tsq (fun t => { t with
    step := some .closure, closureTimer := some ⟨0, (s.lts.closeTime * 1000).toNat⟩ }) ⟨rfl, .refl _, .inl rfl, .inl rfl, .inr hr⟩ h
  unfold Machine.enterClosure
  dsimp only
  split
  · exact hP.closureReport (hP.raised _ hu)
  · exact hu

theorem doorsStep {s : State} (hs : s.tsq.state = .departing) (hr : s.releasing = false) (h : P s) :
    P (doorsStep s) := by
  have hu := hP.tsq (fun t => { t with step := some .doors }) ⟨rfl, .refl _, .inl rfl, .inl rfl, .inr hr⟩ h
  unfold Machine.doorsStep
  dsimp only
  split
  · exact hP.raised _ (hP.abandonToOrigin hs hu)
  · refine hP.enterClosure (not_releasing_of_step ?_) (hP.dru _ (NoNewRelease.orderClose _) hu)
    simp

theorem endWarningStep {s : State} (h : P s) : P (endWarningStep s) := by
  unfold Machine.endWarningStep
  split
  next hd =>
    have hw : s.tsq.state = .departing ∧ s.tsq.step = some .warning := by
      simp only [State.warningStepDone, Bool.and_eq_true, decide_eq_true_eq] at hd
      exact hd.1.1
    have hr : s.releasing = false := not_releasing_of_step (by simp [hw.2])
    split
    · exact hP.brakeRelease hr h
    · exact hP.doorsStep hw.1 hr h
  next => exact h

theorem startWarning {s : State} (h : P s) : P (startWarning s) := by
  unfold Machine.startWarning
  split
  · exact hP.tsqOf _ h rfl rfl rfl rfl rfl
  · exact hP.srg _ le_rfl h

theorem beginDeparture {s : State} (h : P (changeTrip .departing (some .warning) s)) : P (beginDeparture s) := by
  have hw := hP.startWarning h
  unfold Machine.beginDeparture
  dsimp only
  split
  · exact hP.endWarningStep (hP.closeBatch _ (hP.closeBatch _ hw))
  · exact hP.endWarningStep hw

/-! ### Halt requests (R109 to R112) -/

theorem moveTarget (k : Nat) {s : State} (hs : s.tsq.state ≠ .stopped) (h : P s) : P (moveTarget k s) :=
  hP.raised _ (hP.target k hs (hP.cptTarget (fun _ => _) h))

theorem testFeasibility (k : Nat) {s : State} (h : P s) : P (testFeasibility k s) := by
  unfold Machine.testFeasibility
  split
  next hr => exact hP.moveTarget k (by simp [hr.1]) h
  next => exact h

theorem haltRequest (k : Nat) (src : HaltSource) {s : State} (h : P s) : P (haltRequest k src s).2 := by
  unfold Machine.haltRequest
  split
  · exact h
  next hc =>
    split
    · exact h
    next hk =>
      split
      · exact h
      next ho =>
        split
        · exact hP.raised _ h
        · exact hP.testFeasibility _ (hP.list k src hc (by omega) (by simpa using ho) h)

theorem takeHaltCancel (k : Nat) {s : State} (h : P s) : P (takeHaltCancel k s).2 := by
  have hu := hP.tsq (fun t => { t with halts := t.halts.filter (fun e => decide (e.stopIndex ≠ k)) })
    ⟨rfl, List.filter_sublist, .inl rfl, .inl rfl, .inl rfl⟩ h
  unfold Machine.takeHaltCancel
  split
  · exact h
  · split
    · exact h
    · split
      · exact h
      · split
        · exact h
        · split
          · exact h
          · dsimp only
            split
            next ht =>
              unfold rechooseTarget
              dsimp only
              split
              · refine hP.moveTarget _ ?_ hu
                rcases ht.2 with h' | h' <;> simp [h']
              · exact hu
            next => exact hu

theorem haltButton (c : Car) {s : State} (h : P s) : P (haltButton c s) := by
  unfold Machine.haltButton
  split
  · exact hP.haltRequest _ _ h
  · exact h

/-! ### Requests of the TSQ and the OBS -/

theorem startTrip (d : Direction) {s : State} (hs : s.tsq.state = .stopped) (h : P s) : P (startTrip d s) :=
  hP.beginDeparture (hP.depart (s := s) (fun t => { t with
    direction := d, origin := some s.stoppedAt, resume := false, target := some _ }) (some _) (.inl hs)
    (fun _ => ⟨rfl, rfl, rfl, rfl⟩) h)

theorem takeStart (b : Byte) {s : State} (h : P s) : P (takeStart b s).2 := by
  unfold Machine.takeStart
  split
  · exact h
  · split
    · exact h
    next hs =>
      split
      · exact h
      · split
        · exact h
        · exact hP.startTrip _ (by simpa using hs) h

theorem resumeTrip (k : Nat) {s : State} (hs : s.tsq.state = .stranded) (h : P s) : P (resumeTrip k s) :=
  hP.beginDeparture (hP.depart (s := s) (fun t => { t with origin := none, resume := true, target := some k }) (some _)
    (.inr hs) (fun _ => ⟨rfl, rfl, rfl, rfl⟩) h)

theorem takeResume {s : State} (h : P s) : P (takeResume s).2 := by
  unfold Machine.takeResume
  split
  · exact h
  next hs =>
    split
    · exact h
    · split
      · exact h
      · split
        · exact h
        · exact hP.resumeTrip _ (by simpa using hs) h

theorem takeDemand (k : CauseKind) (p : PortId) {s : State} (h : P s) : P (takeDemand k p s).2 := by
  unfold Machine.takeDemand
  split
  · exact h
  · exact hP.cause _ _ h

theorem setMode (m : LineMode) {s : State} (h : P s) : P (setMode m s) := by
  unfold Machine.setMode
  refine hP.tsqOf _ (hP.srg _ ?_ h) rfl rfl rfl rfl rfl
  split <;> exact le_rfl

theorem takeServiceOn {s : State} (h : P s) : P (takeServiceOn s).2 := by
  unfold Machine.takeServiceOn
  split
  · exact h
  next hs =>
    have hs' : s.tsq.state = .outOfService := by simpa using hs
    split
    · exact h
    · split
      · exact h
      · split
        · exact h
        · exact hP.openAtTerminal _ (hP.stopAt _ (by simp [hs']) (.inl (by simp [hs']))
            (hP.tsqOf _ h rfl rfl rfl rfl rfl))

theorem takeServiceOff {s : State} (h : P s) : P (takeServiceOff s).2 := by
  unfold Machine.takeServiceOff
  split
  next hs =>
    have ht : s.tsq.state ≠ .tripped := by
      rcases hs with hs | hs | hs
      · simp [hs]
      · simp [hs]
      · simp only [State.earlyDeparture, Bool.and_eq_true, decide_eq_true_eq] at hs
        simp [hs.1]
    exact hP.trip none ⟨by decide, by decide, .inl ht, fun h => by cases h⟩ h
  next => exact h

theorem startMove (d : Direction) (x : Int) {s : State} (hs : s.tsq.state = .outOfService) (h : P s) :
    P (startMove d x s) := by
  unfold Machine.startMove
  refine hP.handDirection d ?_
  refine hP.mark _ (hP.freeze d (hP.trip _ ⟨by decide, by decide, .inl (by simp [hs]), fun h => by cases h⟩
    (hP.tsqOf _ h rfl rfl rfl rfl rfl))) rfl rfl rfl rfl rfl

theorem takeInspectMove (b : Byte) (x : Long) {s : State} (h : P s) : P (takeInspectMove b x s).2 := by
  unfold Machine.takeInspectMove
  split
  · exact h
  · split
    · exact h
    · split
      · exact h
      next hs =>
        split
        · exact h
        · exact hP.startMove _ _ (by simpa using hs) h

theorem takeChannelService (c a : Byte) {s : State} (h : P s) : P (takeChannelService c a s).2 := by
  have hset : ∀ i x, P (setChannelState i x s) := fun i x => by
    unfold setChannelState
    refine hP.rmu _ ?_ h
    dsimp only
    split <;> exact ⟨rfl, rfl⟩
  have hserve : ∀ i x, P (serveChannel i x s).2 := fun i x => by
    unfold serveChannel
    split
    · exact h
    · split
      · exact h
      · split
        · exact h
        · split
          · exact h
          · exact hset i x
  unfold Machine.takeChannelService
  split
  · split
    · exact hserve _ _
    · exact hserve _ _
    · exact h
  · exact h

theorem takeTimeSet (m : Nat) {s : State} (h : P s) : P (takeTimeSet m s).2 := by
  unfold Machine.takeTimeSet
  split
  · exact h
  · exact hP.clock (some m) 0 h

theorem takePassage (st : Station) (g r n : Nat) {s : State} (h : P s) : P (takePassage st g r n s).2 := by
  unfold Machine.takePassage
  dsimp only
  split
  · exact h
  · split
    · exact h
    · split
      · exact h
      next e he =>
        exact hP.endWarningStep (hP.setBatch (passedUnder_within _ _ _ (List.mem_of_find?_eq_some he)) h)

/-! ### Expiries and links -/

theorem warningOver {s : State} (h : P s) : P (warningOver s) :=
  hP.endWarningStep (hP.tsqOf _ (hP.srg _ le_rfl h) rfl rfl rfl rfl rfl)

theorem settleOver (st : Station) {s : State} (h : P s) : P (settleOver st s) :=
  hP.endWarningStep (hP.setBatch (settled_within _) h)

theorem abandonForLink {s : State} (hs : s.tsq.state = .departing) (h : P s) : P (abandonForLink s) := by
  unfold Machine.abandonForLink
  refine hP.raised _ ?_
  split
  · exact hP.trip none ⟨by decide, by decide, .inl (by simp [hs]), fun h => by cases h⟩ h
  · exact hP.abandonToOrigin hs h

theorem consoleSilence {s : State} (h : P s) : P (consoleSilence s) := by
  have ht := hP.raisedLink .linkDown .p0 (hP.tsqOf (fun t => { t with silent := true, consoleTimer := none }) h
    rfl rfl rfl rfl rfl)
  unfold Machine.consoleSilence
  dsimp only
  split
  next he =>
    have hd := state_of_early he
    exact hP.trip none ⟨by decide, by decide, .inl (by simp only [hd]; decide), fun h => by cases h⟩ ht
  next => exact ht

theorem consoleHeard {s : State} (h : P s) : P (consoleHeard s) := by
  have ht := hP.tsqOf (fun t => { t with silent := false, consoleTimer := some (secondsTimer s.lts.consoleTo) }) h
    rfl rfl rfl rfl rfl
  unfold Machine.consoleHeard
  dsimp only
  split
  · exact hP.raisedLink _ _ ht
  · exact ht

theorem gateLink (st : Station) (l : Link) {s : State} (h : P s) :
    P (s.updLpu (fun u => { u with gateLinks := u.gateLinks.set st l })) :=
  hP.links _ rfl (fun _ h => h) h

theorem gateHeard (st : Station) {s : State} (h : P s) : P (gateHeard st s) := by
  unfold Machine.gateHeard
  dsimp only
  split
  · exact hP.gateLink _ _ h
  · exact hP.raisedLink _ _ (hP.gateLink _ _ h)

theorem gateSilence (st : Station) {s : State} (h : P s) : P (gateSilence st s) :=
  hP.raisedLink _ _ (hP.gateLink _ _ h)

theorem portHeard (p : PortId) {s : State} (h : P s) : P (portHeard p s) := by
  cases p with
  | p0 => exact hP.consoleHeard h
  | p1 => exact h
  | p2 => exact h
  | p3 => exact hP.gateHeard _ h
  | p4 => exact hP.gateHeard _ h

theorem carHeard (c : Car) {s : State} (h : P s) : P (carHeard c s) := by
  have ht := hP.links (fun l => { l with
    carLinks := l.carLinks.set c ⟨true, some ⟨0, s.lts.carLinkTo.toNat⟩⟩ }) (s := s) rfl
    (by intro c' hc'; simp only [PerCar.get_set]; split; exacts [rfl, hc']) h
  unfold Machine.carHeard
  dsimp only
  split
  · exact ht
  · exact hP.doors (hP.raisedLink _ _ ht)

theorem takeCall (l : Fin 8) {s : State} (h : P s) : P (takeCall l s) := by
  unfold Machine.takeCall
  split
  · split
    · exact hP.haltRequest _ _ h
    · exact h
  · exact h

theorem brakeFault (b : Brake) {s : State} (h : P s) : P (brakeFault b s) := by
  cases b <;> exact hP.cause _ _ h

/-- A proof that fails changes no command (R93 to R95). -/
theorem failProof (b : Brake) (r : BrakeRecord) {s : State} (hr : r.command = (s.obs.brakes.get b).command)
    (h : P s) : P (failProof b r s) :=
  hP.brakeFault b (hP.brake _ _ (.inr (.inl hr)) h)

theorem feedback (b : Brake) (f : Feedback) {s : State} (h : P s) : P (feedback b f s) := by
  unfold Machine.feedback
  dsimp only
  split
  · exact hP.reportApplied (hP.reportLifted (hP.brake _ _ (.inr (.inl rfl)) h))
  · split
    · exact hP.failProof _ _ rfl h
    · exact hP.brake _ _ (.inr (.inl rfl)) h

theorem countOrder (c : Car) {s : State} (h : P s) : P (countOrder c s) := by
  refine hP.dru _ ?_ h
  intro c' side hr
  rw [PerCar.get_set] at hr
  split at hr
  next hc => simpa [hc] using hr
  next => exact hr

end OpsKept

end Sys2Proof.Machine
end

section
/-! From single changes to rows: the sample, the car report and the loss of a car link for the predicates that also
survive a new position and a fallen link (`FreeKept`, `SampleKept`), every owner of a request, and every row (`RowsKept`). -/

namespace Sys2Proof.Machine

/-! ### Predicates of neither the position nor the links -/

/-- The further changes that a predicate survives which reads no position and no link. -/
structure FreeKept (P : State → Prop) : Prop where
  rmu    : ∀ (f : Rmu → Rmu) {s}, P s → P (s.updRmu f)
  offset : ∀ (f : Cpt → Cpt) {s}, (∀ c, ((f s.cpt).cars.get c).offset = (s.cpt.cars.get c).offset ∨
    ((f s.cpt).cars.get c).offset.natAbs ≤ s.lts.inForce.maxCorr) → P s → P (s.updCpt f)
  links  : ∀ (f : Lpu → Lpu) {s}, (f s.lpu).ports = s.lpu.ports → P s → P (s.updLpu f)

/-- The further changes that a predicate survives which a sample keeps. -/
structure SampleKept (P : State → Prop) : Prop extends FreeKept P where
  index  : ∀ n {s}, P s → P { s with freeIndex := n }
  now    : ∀ (n : Long) {s}, P s → P { s with clock := n }
  formed : ∀ {s}, P s → P (formReference (formPermitted s))

/-- A value clamped lies within the bound (R45). -/
theorem clampTo_natAbs (a : Nat) (v : Int) : (clampTo a v).natAbs ≤ a := by
  rw [clampTo_eq _ _ (by omega)]
  omega

/-- The closure rules make no side RELEASED (R130). -/
theorem closure_released {d : DoorRecord} (h : d.closure.command = .released) : d.command = .released := by
  unfold DoorRecord.closure at h
  cases hd : d.command with
  | released => rfl
  | holdClosed => simp only [hd] at h; split at h <;> simp_all
  | closeOrdered => simp only [hd] at h; split at h <;> simp_all

namespace OpsKept

variable {P : State → Prop} (hP : OpsKept P)
include hP

/-! ### The parts of a sample that every predicate here survives -/

theorem tick (hF : SampleKept P) {s : State} (h : P s) : P (tick s) := by
  have ht := hP.tsqOf (fun t => { t with
    closureTimer := tickTimer t.closureTimer, consoleTimer := tickTimer t.consoleTimer }) h rfl rfl rfl rfl rfl
  have hr := hP.srg (fun r => { r with warning := tickTimer r.warning }) le_rfl ht
  have ho := hP.obs (fun o => { o with
    brakes := ⟨{ o.brakes.sbk with timer := tickTimer o.brakes.sbk.timer },
               { o.brakes.ebk with timer := tickTimer o.brakes.ebk.timer }⟩ })
    ⟨rfl, rfl, rfl, fun b => by cases b <;> exact ⟨rfl, rfl⟩, .inl rfl⟩ hr
  have hb := hP.bcu (fun u => { u with
    batches := u.batches.mapStation (fun _ b => { b with settle := tickTimer b.settle }) })
    (fun st => by cases st <;> exact .of_eq le_rfl rfl rfl) ho
  have hl := hP.links (fun l => { l with
    carLinks  := l.carLinks.mapCar (fun _ k => { k with timer := tickTimer k.timer })
    gateLinks := l.gateLinks.mapStation (fun _ k => { k with timer := tickTimer k.timer }) })
    rfl (fun c hc => by cases c <;> exact hc) hb
  exact hF.now _ (hP.clock _ _ hl)

theorem causeIf (c : Bool) (k : CauseKind) {s : State} (h : P s) : P (causeIf c k s) := by
  unfold Machine.causeIf
  split
  · exact hP.cause _ _ h
  · exact h

theorem moveTravel {s : State} (h : P s) : P (moveTravel s) := hP.tsqOf _ h rfl rfl rfl rfl rfl

theorem handPhase {s : State} (h : P s) : P (handPhase s) := by
  have ht := hP.tsqOf (fun t => { t with phase := s.srg.phase }) h rfl rfl rfl rfl rfl
  unfold Machine.handPhase
  split
  · dsimp only
    split
    · exact hP.cptTarget _ ht
    · exact ht
  · exact h

theorem reportReached {s : State} (h : P s) : P (reportReached s) := by
  unfold Machine.reportReached
  split
  next hs => exact hP.trip _ ⟨by decide, by decide, .inl (by simp [hs]), fun h => by cases h⟩ h
  next =>
    split
    next hi => exact hP.tsq _ ⟨rfl, .refl _, .inl rfl, .inl rfl, .inr (not_releasing_of_state (by simp [hi.1]))⟩ h
    next => exact h

theorem testLevels {s : State} (h : P s) : P (testLevels s) := by
  have hx : ∀ b, P (excursionMark b s) := fun b => by
    have hu := hP.mark (fun o => { o with excursion := b }) h rfl rfl rfl rfl rfl
    unfold excursionMark
    dsimp only
    split
    · exact hP.raised _ hu
    · exact hu
  unfold Machine.testLevels
  split
  · exact hP.causeIf _ _ (hP.causeIf _ _ (hx _))
  · exact h

theorem latchStop {s : State} (h : P s) : P (latchStop s) := by
  unfold Machine.latchStop
  split
  · exact hP.restReference (hP.applyBrake _ (hP.dropDrive (hP.mark _ h rfl rfl rfl rfl rfl)))
  · exact h

theorem followTarget {s : State} (h : P s) : P (followTarget s) := by
  unfold Machine.followTarget
  split
  · split
    · exact hP.mark _ h rfl rfl rfl rfl rfl
    · exact h
  · exact h

theorem obsSample {s : State} (h : P s) : P (obsSample s) :=
  hP.followTarget (hP.latchStop (hP.mark _ (hP.causeIf _ _ (hP.causeIf _ _ (hP.mark _ (hP.causeIf _ _
    (hP.testLevels h)) rfl rfl rfl rfl rfl))) rfl rfl rfl rfl rfl))

theorem tsqSample {s : State} (h : P s) : P (tsqSample s) := by
  unfold Machine.tsqSample
  split
  · exact h
  · split
    next ha =>
      exact hP.applyRequest (hP.tsq _ ⟨rfl, .refl _, .inl rfl, .inl rfl, .inr (not_releasing_of_state (by simp [ha.1]))⟩ h)
    next =>
      split
      · exact hP.applyRequest h
      · exact h

theorem closureOver {s : State} (ha : s.awaitsClosure = true) (h : P s) : P (closureOver s) := by
  simp only [State.awaitsClosure, Bool.and_eq_true, decide_eq_true_eq] at ha
  exact hP.raised _ (hP.abandonToOrigin ha.1.1 h)

/-! ### The parts of a car report that every predicate here survives -/

theorem bcuReport (c : Car) (r : CarReport) {s : State} (h : P s) : P (bcuReport c r s) :=
  hP.bcu _ (fun _ => .refl _) h

theorem tsqReport (c : Car) (r : CarReport) {s : State} (h : P s) : P (tsqReport c r s) := by
  have hb : P (if yes r.haltButton then Machine.haltButton c s else s) := by
    split
    · exact hP.haltButton c h
    · exact h
  unfold Machine.tsqReport
  dsimp only
  generalize (if yes r.haltButton then Machine.haltButton c s else s) = t at hb ⊢
  split
  · exact hP.cause _ _ hb
  · exact hb

theorem obsReport (c : Car) (r : CarReport) {s : State} (h : P s) : P (obsReport c r s) := by
  have ht := hP.mark (fun o => { o with carFault := o.carFault.set c (yes r.faultFlag) }) h rfl rfl rfl rfl rfl
  unfold Machine.obsReport
  dsimp only
  split
  · exact hP.cause _ _ ht
  · exact ht

theorem doorContacts (c : Car) (r : CarReport) {s : State} (h : P s) : P (doorContacts c r s) := by
  have ht := hP.dru (fun d => d.set c ((d.get c).reported r s.clock)) (by
    intro c' side hr
    rw [PerCar.get_set] at hr
    split at hr
    next hc =>
      subst hc
      cases side
      · exact closure_released (d := (s.dru.get c').left.contacts _ _ _) hr
      · exact closure_released (d := (s.dru.get c').right.contacts _ _ _) hr
    next => exact hr) h
  unfold Machine.doorContacts
  dsimp only
  split
  · exact hP.closureReport (hP.raised _ ht)
  · exact ht

theorem druReport (c : Car) (r : CarReport) {s : State} (h : P s) : P (druReport c r s) := by
  have hc := hP.doorContacts c r h
  refine hP.doors ?_
  unfold runningCheck
  split
  · exact hP.cause _ _ hc
  · exact hc

/-- The end of a car link loss: the doors tested, and an early departure abandoned (R118, R127, R184). -/
theorem abandonedEarly {t : State} (h : P t) : P (if t.earlyDeparture then Machine.abandonForLink t else t) := by
  split
  next he => exact hP.abandonForLink (state_of_early he) h
  next => exact h

/-! ### The sample -/

theorem testDisagreement (hF : SampleKept P) {s : State} (h : P s) : P (testDisagreement s) := by
  unfold Machine.testDisagreement
  split
  · split
    · exact hP.cause _ _ (hF.index _ (hF.rmu _ h))
    · exact h
  · exact h

theorem srgSample {s : State} (h : P (formReference s)) : P (srgSample s) := by
  have ht := hP.handPhase (hP.srg (fun r => { r with
    holding := if (formReference s).den then (formReference s).duty else 0 }) le_rfl h)
  unfold Machine.srgSample
  dsimp only
  split
  · exact hP.reportReached ht
  · exact ht

theorem sample (hF : SampleKept P) {s : State} (h : P s) : P (actOnSample (rmuSample (Machine.tick s))) :=
  hP.doors (hP.tsqSample (hP.obsSample (hP.srgSample (hF.formed (hP.moveTravel
    (hP.causeIf _ _ (hP.testDisagreement hF (hF.rmu _ (hP.tick hF h)))))))))

/-! ### A car report and the loss of a car link -/

variable (hF : FreeKept P)
include hF

omit hP in
/-- A change of one car's CPT record that keeps the offset, or one within its bound. -/
theorem carRecord (c : Car) (f : CarRecord → CarRecord) {s : State} (h : P s)
    (ho : (f (s.cpt.cars.get c)).offset = (s.cpt.cars.get c).offset ∨
      (f (s.cpt.cars.get c)).offset.natAbs ≤ s.lts.inForce.maxCorr) : P (s.updCarRecord c f) := by
  refine hF.offset _ (fun c' => ?_) h
  rw [PerCar.get_set]
  split
  next hc => subst hc; exact ho
  next => exact .inl rfl

theorem reconcile (c : Car) (r : CarReport) (m : Int) {s : State} (h : P s) : P (reconcile c r m s) := by
  unfold Machine.reconcile setLastMarker
  dsimp only
  split
  · exact OpsKept.carRecord hF _ _ (hP.cause _ _ h) (.inl rfl)
  · have ho := OpsKept.carRecord hF c (fun u => { u with
      offset := clampTo s.lts.inForce.maxCorr ((s.cpt.cars.get c).offset + markerError c r m s) }) h
      (.inr (clampTo_natAbs _ _))
    have ht := fun f hf => OpsKept.carRecord hF c f ho (.inl hf)
    split
    · exact ht _ rfl
    · unfold recomputeTarget
      exact hP.cptTarget _ (ht _ rfl)

theorem takeMarker (c : Car) (r : CarReport) {s : State} (h : P s) : P (takeMarker c r s) := by
  unfold Machine.takeMarker
  split
  · exact h
  · split
    · exact h
    · split
      · exact h
      · split
        · unfold home setLastMarker
          dsimp only
          exact OpsKept.carRecord hF _ _ (hP.tsqOf _ (hF.rmu _ h) rfl rfl rfl rfl rfl) (.inl rfl)
        · exact hP.reconcile hF _ _ _ h

theorem report (c : Car) (r : CarReport) {s : State} (h : P s) : P (takeCarReport c r s) := by
  refine hP.druReport _ _ (hP.obsReport _ _ (hP.tsqReport _ _ (hP.bcuReport _ _ ?_)))
  have hh := hP.carHeard c h
  unfold cptReport
  dsimp only
  refine OpsKept.carRecord hF _ _ ?_ (.inl rfl)
  split
  · exact hP.takeMarker hF _ _ hh
  · exact hh

theorem silence (c : Car) {s : State} (h : P s) : P (carSilence c s) := by
  have hl := hP.raisedLink .linkDown c.port
    (hF.links (fun l => { l with carLinks := l.carLinks.set c { up := false, timer := none } }) rfl h)
  unfold carSilence
  dsimp only
  refine hP.abandonedEarly (hP.doors (hP.bcu (fun u => { u with
    loads := u.loads.set c { u.loads.get c with snap := none } }) (fun _ => .refl _) (hF.offset _ ?_ ?_)))
  · intro c'
    rw [PerCar.get_set]
    split
    next hc => subst hc; exact .inl rfl
    next => exact .inl rfl
  · split
    · exact hP.cause _ _ hl
    · exact hl

end OpsKept

/-! ### Owners and rows -/

/-- What a predicate survives beyond `OpsKept`, so that every owner of a request keeps it, and every row that goes
through no port, POWER_ON_RESET and MEASUREMENT_SAMPLE apart. -/
structure OwnersKept (P : State → Prop) : Prop extends OpsKept P where
  rules     : ∀ (f : Lts → Lts) {s}, (∃ x, f s.lts = { s.lts with rules := x }) → P s → P (s.updLts f)
  write     : ∀ (f : Lts → Lts) {s}, s.tsq.state = .configuring → (f s.lts).inForce = s.lts.inForce → P s →
    P (s.updLts f)
  taken     : ∀ st g n ser now {s}, (s.bcu.batches.get st).platformCount + n ≤ s.capacity →
    (s.bcu.batches.get st).pending.length < Config.pendingDepth → P s →
    P (setBatch st ((s.bcu.batches.get st).taken g n ser now) s)
  clear     : ∀ {s}, s.tsq.state = .tripped → P s → P (clearCauses s)
  configure : ∀ {s}, s.tsq.state = .outOfService → P s → P (enterConfiguring s)
  commit    : ∀ {s}, s.tsq.state = .configuring → P s → P (commitTables s)
  takes     : ∀ c r {s}, P s → P (takeCarReport c r s)
  silent    : ∀ c {s}, P s → P (carSilence c s)
  events    : ∀ p {s}, P s → P (takeEvents p s).2
  subscribe : ∀ p k {s}, P s → P (takeSubscribe p k s)

/-- What a predicate survives so that every row keeps it, the ports' own records apart. -/
structure RowsKept (P : State → Prop) : Prop extends OwnersKept P where
  samples : ∀ {s}, P s → P (actOnSample (rmuSample (tick s)))
  reset : ∀ {s}, P s → P { State.reset with pending := s.pending, freeIndex := s.freeIndex }

/-- TABLE_WRITE leaves the values in force (R190). -/
theorem write_inForce (t : Lts) (table index : Nat) (v : Bool) (bytes : List Byte) :
    (t.write table index v bytes).inForce = t.inForce := by
  unfold Lts.write
  split <;> (try split) <;> rfl

theorem countHit_rules (t : Lts) (i : Option Nat) : ∃ x, t.countHit i = { t with rules := x } := by
  unfold Lts.countHit
  split
  · exact ⟨_, rfl⟩
  · split
    · exact ⟨_, rfl⟩
    · exact ⟨_, rfl⟩

/-- Two hits counted change the rule table alone (R165). -/
theorem countHits_rules (t : Lts) (i j : Option Nat) :
    ∃ x, (t.countHit i).countHit j = { t with rules := x } := by
  obtain ⟨x, hx⟩ := countHit_rules t i
  obtain ⟨y, hy⟩ := countHit_rules (t.countHit i) j
  exact ⟨y, by rw [hy, hx]⟩

/-- The batch of a verdict: the one that was, or an admission that the overriding checks let through (R167). -/
theorem judge_batch (st : Station) (t : Ticket) (m : Match) (s : State) :
    (judge st t m s).2 = s.bcu.batches.get st ∨
      ∃ n, (judge st t m s).2 = (s.bcu.batches.get st).taken t.gate.toNat n t.serial s.clock ∧
        (s.bcu.batches.get st).platformCount + n ≤ s.capacity ∧
        (s.bcu.batches.get st).pending.length < Config.pendingDepth := by
  unfold judge
  dsimp only
  split
  · exact .inl rfl
  · split
    · exact .inl rfl
    · exact .inl rfl
    · split
      · exact .inl rfl
      next r _ _ _ hd =>
        refine .inr ⟨_, rfl, ?_⟩
        unfold denialReason at hd
        repeat' (split at hd; · cases hd)
        constructor <;> omega

namespace OwnersKept

variable {P : State → Prop} (hP : OwnersKept P)
include hP

/-- The hits of a match counted, and the batch of its verdict put in place (R165, R167, R169). -/
theorem judged (st : Station) (t : Ticket) (m : Match) {s : State} (h : P s) :
    P (setBatch st (judge st t m s).2 (s.updLts (fun l => (l.countHit m.stage1).countHit m.stage2))) := by
  obtain ⟨x, hx⟩ := countHits_rules s.lts m.stage1 m.stage2
  have hu := hP.rules (fun l => (l.countHit m.stage1).countHit m.stage2) ⟨x, hx⟩ h
  rcases judge_batch st t m s with hj | ⟨n, hj, hn, hl⟩
  · rw [hj]
    exact hP.setBatch (.refl _) hu
  · rw [hj]
    exact hP.taken (s := s.updLts _) st _ n _ _ (by simpa [State.capacity, hx] using hn) hl hu

theorem takeTicket (st : Station) (t : Ticket) {s : State} (h : P s) : P (takeTicket st t s).2 := by
  unfold Machine.takeTicket
  split
  · exact h
  · exact hP.judged st t _ h

theorem takeMode (m : Byte) {s : State} (h : P s) : P (takeMode m s).2 := by
  unfold Machine.takeMode
  split
  · exact h
  · unfold takeModeConfig
    split
    next hs => exact hP.configure hs h
    next => exact h
    next => exact h
  · split
    · exact h
    · split
      · exact h
      · split
        · exact h
        · exact hP.setMode _ h

theorem takeAcknowledge {s : State} (h : P s) : P (takeAcknowledge s).2 := by
  unfold Machine.takeAcknowledge
  split
  · exact h
  next hs =>
    split
    · exact h
    · exact hP.clear (by simpa using hs) h

theorem takeTableWrite (t i pr : Byte) (c : List Byte) {s : State} (h : P s) : P (takeTableWrite t i pr c s).2 := by
  unfold Machine.takeTableWrite
  split
  · exact h
  next hs => exact hP.write (fun l => l.write t.toNat i.toNat (yes pr) c) (by simpa using hs) (write_inForce _ _ _ _ _) h

theorem takeCommit {s : State} (h : P s) : P (takeCommit s).2 := by
  unfold Machine.takeCommit
  split
  · exact h
  next hs =>
    split
    · exact h
    · exact hP.commit (by simpa using hs) h

/-- Every owner of a request keeps the predicate (R176). -/
theorem owner (p : PortId) (r : Request) {s : State} (h : P s) : P (dispatch p r s).2 := by
  cases r with
  | status => exact h
  | events => exact hP.events p h
  | subscribe k => exact hP.subscribe p k h
  | start d => exact hP.takeStart d h
  | resume => exact hP.takeResume h
  | stop => exact hP.takeDemand _ _ h
  | emergency => exact hP.takeDemand _ _ h
  | acknowledge => exact hP.takeAcknowledge h
  | mode m => exact hP.takeMode m h
  | serviceOn => exact hP.takeServiceOn h
  | serviceOff => exact hP.takeServiceOff h
  | timeSet m => exact hP.takeTimeSet _ h
  | haltCall k => exact hP.haltRequest _ _ h
  | haltCancel k => exact hP.takeHaltCancel _ h
  | inspectMove d x => exact hP.takeInspectMove d x h
  | channelService c a => exact hP.takeChannelService c a h
  | tableWrite t i pr c => exact hP.takeTableWrite t i pr c h
  | tableRead => exact h
  | commit => exact hP.takeCommit h
  | carReport rep =>
    simp only [dispatch]
    split
    · exact hP.takes _ _ h
    · exact h
  | ticket tk =>
    simp only [dispatch]
    split
    · exact hP.takeTicket _ tk h
    · exact h
  | passage g ref n =>
    simp only [dispatch]
    split
    · exact hP.takePassage _ _ _ _ h
    · exact h
  | stationStatus =>
    simp only [dispatch]
    split <;> exact h

/-- The rows that go through no port, POWER_ON_RESET and MEASUREMENT_SAMPLE apart, keep the predicate. -/
theorem fieldRow {c : Instr} {s t : State} (hr : portRow c = false) (hc : c ≠ .powerOnReset)
    (hm : c ≠ .measurementSample) (h : P s) (hx : exec c s = .next t) : P t := by
  cases c with
  | powerOnReset => exact absurd rfl hc
  | encoderEdge i x y => cases hx; exact hP.rmu _ ⟨rfl, rfl⟩ h
  | measurementSample => exact absurd rfl hm
  | demPeriod => cases hx; exact hP.srg _ le_rfl h
  | dirPendingChange =>
    cases hx
    split
    · split
      · exact hP.directionShown (hP.srg _ le_rfl h)
      · exact h
    · exact h
  | warnToggle =>
    cases hx
    split
    · exact hP.srg _ le_rfl h
    · exact h
  | warningEnd =>
    cases hx
    split
    · exact hP.warningOver h
    · exact h
  | settleExpiry st =>
    cases hx
    split
    · exact hP.settleOver st h
    · exact h
  | closureTimerExpiry =>
    cases hx
    split
    next ha => exact hP.closureOver ha h
    next => exact h
  | applyProofTimeout b =>
    cases hx
    split
    · exact hP.failProof b _ rfl h
    · exact h
  | liftProofTimeout b =>
    cases hx
    split
    · exact hP.failProof b _ rfl h
    · exact h
  | brakeFeedbackChange b f =>
    cases hx
    split
    · exact h
    · exact hP.feedback b f h
  | pfailChange a =>
    cases hx
    have hu := hP.mark (fun o => { o with pfail := a }) h rfl rfl rfl rfl rfl
    split
    · exact h
    · split
      · exact hP.cause _ _ hu
      · exact hu
  | callLineChange l a =>
    cases hx
    have hu := hP.tsqOf (fun t => { t with callLines := t.callLines.set l a }) h rfl rfl rfl rfl rfl
    split
    · exact h
    · split
      · exact hP.takeCall l hu
      · exact hu
  | timeOfDayAdvance =>
    cases hx
    split
    · exact hP.clock _ _ h
    · exact h
  | consoleTimeout =>
    cases hx
    split
    · exact hP.consoleSilence h
    · exact h
  | carLinkTimeout c =>
    cases hx
    split
    · exact hP.silent c h
    · exact h
  | gateLinkTimeout st =>
    cases hx
    split
    · exact hP.gateSilence st h
    · exact h
  | _ => simp [portRow, requestOf] at hr

end OwnersKept

namespace RowsKept

variable {P : State → Prop} (hP : RowsKept P)
include hP

/-- A predicate that also says nothing of a port's record is kept by every command. -/
theorem exec (hp : ∀ p f {s}, P s → P (s.updPort p f)) {c : Instr} {s t : State} (h : P s)
    (hx : exec c s = .next t) : P t := by
  by_cases hr : portRow c = true
  · exact portRow_keeps_of ⟨fun p f _ h => hp p f h, fun p _ h => hP.portHeard p h, fun p r _ h => hP.owner p r h,
      fun c _ h => hP.countOrder c h⟩ hr h hx
  · by_cases hc : c = .powerOnReset
    · subst hc
      cases hx
      exact hP.reset h
    · by_cases hm : c = .measurementSample
      · subst hm
        cases hx
        exact hP.samples h
      · exact hP.fieldRow (by simpa using hr) hc hm h hx

end RowsKept

end Sys2Proof.Machine
end

section
/-! Laws 8 and 12 (R63, R45), Law 7 (R108), and Laws 4 and 6 (R140, R142). These predicates do not read the cause list
(`CauseKept`), so a cause and an ACKNOWLEDGE are argued once for all of them. -/

namespace Sys2Proof.Machine

/-! ### Predicates that do not read the cause list -/

/-- The changes that a cause and its braking are made of, for a predicate that does not read the cause list. -/
structure CauseKept (P : State → Prop) : Prop where
  raise   : ∀ scope e {s}, P s → P (raiseOn scope e s)
  request : ∀ {s}, P s → P (s.updTsq (fun t => { t with driveRequest := false }))
  srg     : ∀ (f : Srg → Srg) {s}, (f s.srg).vRef ≤ s.srg.vRef → P s → P (s.updSrg f)
  obs     : ∀ (f : Obs → Obs) {s}, (f s.obs).brakes = s.obs.brakes → (f s.obs).vPerm2 = s.obs.vPerm2 → P s →
    P (s.updObs f)
  brake   : ∀ b (r : BrakeRecord) {s}, P s → P (setBrake b r s)
  cpt     : ∀ (f : Cpt → Cpt) {s}, (∀ c, ((f s.cpt).cars.get c).offset = (s.cpt.cars.get c).offset) → P s →
    P (s.updCpt f)
  tripped : ∀ {s}, P s → P (changeTrip .tripped none s)

namespace CauseKept

variable {P : State → Prop} (hC : CauseKept P)
include hC

theorem applyBrake (b : Brake) {s : State} (h : P s) : P (applyBrake b s) := by
  unfold Machine.applyBrake
  split
  · exact h
  · exact hC.brake _ _ h

theorem serviceBraking {s : State} (h : P s) : P (serviceBraking s) :=
  hC.applyBrake _ (hC.srg _ (Nat.zero_le _) (hC.srg _ le_rfl (hC.request h)))

theorem brakingAction (b : Braking) {s : State} (h : P s) : P (brakingAction b s) := by
  unfold Machine.brakingAction
  split
  · split
    · exact hC.serviceBraking h
    · exact h
  · split
    · exact hC.obs _ (by rfl) (by rfl) (hC.applyBrake _ (hC.serviceBraking h))
    · exact h
  · exact h

theorem stopAction {s : State} (h : P s) : P (stopAction s) := by
  unfold Machine.stopAction
  split
  · unfold controlledStop
    refine hC.cpt _ (fun _ => rfl) (hC.srg _ ?_ (hC.obs _ ?_ ?_ h)) 
    exacts [le_rfl, rfl, rfl]
  · exact hC.srg _ le_rfl h
  · exact h

/-- A cause (R83 to R90). -/
theorem cause (k : CauseKind) (src : CauseSource) {s : State} (h : P s) : P (giveCause k src s) := by
  have hj : P (joinCause k src s) := hC.raise _ _ (hC.obs _ (by rfl) (by rfl) h)
  unfold giveCause
  split
  · exact h
  · split
    · refine hC.tripped (hC.obs _ (by rfl) (by rfl) (hC.brakingAction _ ?_))
      split
      · exact hC.stopAction hj
      · exact hj
    · exact hC.brakingAction _ hj

end CauseKept

namespace OpsKept

variable {P : State → Prop} (hP : OpsKept P)
include hP

/-- The trip state after an ACKNOWLEDGE, the cause list emptied (R97). -/
theorem leaveTripped {s : State} (hs : s.tsq.state = .tripped) (hc : s.obs.causes = []) (h : P s) :
    P (leaveTripped s) := by
  unfold Machine.leaveTripped
  split
  · exact hP.trip none ⟨by decide, by decide, .inr hc, fun h => by cases h⟩ h
  · split
    · exact hP.openBatches (hP.stopAt _ (by simp [hs]) (.inr hc) h)
    · exact hP.trip none ⟨by decide, by decide, .inr hc, fun h => by cases h⟩ h

/-- An ACKNOWLEDGE taken (R97), for a predicate that does not read the cause list. -/
theorem clear (hC : CauseKept P) {s : State} (hs : s.tsq.state = .tripped) (h : P s) : P (clearCauses s) := by
  have h1 : P (Machine.raise .causesCleared (s.updObs (fun o => { o with causes := [], stopLatch := false }))) :=
    hP.raised _ (hC.obs _ (by rfl) (by rfl) h)
  unfold clearCauses
  refine hC.obs _ (by rfl) (by rfl) (hP.leaveTripped (by simp [hs]) (by simp) (hC.obs _ (by rfl) (by rfl) (hP.liftBrake _ (by simp) h1)))

end OpsKept

/-- The state that a COMMIT has formed before the trip state changes (R191). -/
def committing (s : State) : State :=
  ((((((s.updLts Lts.atCommit).updRmu (Rmu.atCommit s.lts)).updCpt (fun _ =>
    { cars := ⟨resetCarRecord, resetCarRecord⟩, target := none })).updSrg Srg.atRest).updObs
    (Obs.atCommit s.lts)).updBcu (fun u => { u with
      batches := u.batches.mapStation (fun _ b => b.atCommit) })).updTsq (Tsq.atRest .inspection)

/-- COMMIT in three steps: the tables taken, the trip state OUT_OF_SERVICE, and POWER_FAIL where PFAIL reads ACTIVE. -/
theorem commitTables_eq (s : State) :
    commitTables s =
      let t := raise .configCommitted (changeTrip .outOfService none (committing s))
      if t.obs.pfail then giveCause .powerFail .linePfail t else t := rfl

/-- A COMMIT taken keeps what holds once the line is OUT_OF_SERVICE. -/
theorem OpsKept.commitOf {P : State → Prop} (hP : OpsKept P) {s : State}
    (h : P (changeTrip .outOfService none (committing s))) : P (commitTables s) := by
  rw [commitTables_eq]
  dsimp only
  split
  · exact hP.cause _ _ (hP.raised _ h)
  · exact hP.raised _ h

/-! ### Law 8: the reference within the permitted speed (R63) -/

/-- The law stands while the permitted speed stays or is no longer formed and the reference does not rise. -/
theorem referenceLaw.of_le {s t : State} (h : referenceLaw s) (hr : t.srg.vRef ≤ s.srg.vRef)
    (hv : t.obs.vPerm2 = s.obs.vPerm2 ∨ t.obs.vPerm2 = none) : referenceLaw t := by
  intro v hv'
  rcases hv with hv | hv
  · exact hr.trans (h v (hv ▸ hv'))
  · rw [hv] at hv'; cases hv'

theorem referenceLaw.of_none {t : State} (h : t.obs.vPerm2 = none) : referenceLaw t := by
  intro v hv
  rw [h] at hv; cases hv

theorem changeTrip_vRef_le (new : TripState) (step : Option Step) (s : State) :
    (changeTrip new step s).srg.vRef ≤ s.srg.vRef := by
  rcases changeTrip_vRef new step s with h | h <;> omega

theorem referenceLaw.changeTrip {s : State} (h : referenceLaw s) (new : TripState) (step : Option Step) :
    referenceLaw (changeTrip new step s) :=
  h.of_le (changeTrip_vRef_le _ _ _) (changeTrip_vPerm _ _ _)

theorem referenceLaw_causeKept : CauseKept referenceLaw where
  raise _ _ _ h := h.of_le (by simp) (by simp)
  request h := h
  srg _ _ hv h := h.of_le hv (.inl rfl)
  obs _ _ _ hv h := h.of_le le_rfl (.inl hv)
  brake _ _ _ h := h.of_le (by simp) (by simp)
  cpt _ _ _ h := h
  tripped h := h.changeTrip _ _

theorem referenceLaw_opsKept : OpsKept referenceLaw where
  raise := referenceLaw_causeKept.raise
  tsq _ _ _ h := h.of_le le_rfl (.inl rfl)
  drive _ h := h.of_le le_rfl (.inl rfl)
  srg := referenceLaw_causeKept.srg
  obs _ _ ho h := h.of_le le_rfl ho.perm
  brake _ _ _ _ h := referenceLaw_causeKept.brake _ _ h
  cpt _ _ _ h := h.of_le le_rfl (.inl rfl)
  rmu _ _ _ h := h.of_le le_rfl (.inl rfl)
  dru _ _ _ h := h.of_le le_rfl (.inl rfl)
  bcu _ _ _ h := h.of_le le_rfl (.inl rfl)
  doors h := h.of_le (by simp) (by simp)
  links _ _ _ _ h := h.of_le le_rfl (.inl rfl)
  trip _ _ _ h := h.changeTrip _ _
  depart _ _ _ _ _ h := by
    refine referenceLaw.changeTrip ?_ _ _
    exact h.of_le le_rfl (.inl rfl)
  cause _ _ _ h := referenceLaw_causeKept.cause _ _ h
  list _ _ _ _ _ _ h := h.of_le (by simp) (by simp)
  clock _ _ _ h := h.of_le le_rfl (.inl rfl)

/-- The clamp of a sample holds the reference within the permitted speed (R63). -/
theorem clampRef_le (p v : Nat) : clampRef (some p) v ≤ 1000 * isqrt p := Nat.min_le_right _ _

/-- The reference formed at a sample obeys the law, whatever it was (R63). -/
theorem formReference_law (s : State) : referenceLaw (formReference s) := by
  intro v hv
  have hv' : s.obs.vPerm2 = some v := by simpa using hv
  unfold formReference
  split
  · split
    · simp only [computeReference, updSrg_srg, hv']
      split
      · exact Nat.zero_le _
      · exact clampRef_le _ _
    · exact Nat.zero_le _
  · split
    · simp only [rampReference, updSrg_srg, hv']
      exact clampRef_le _ _
    · exact Nat.zero_le _

theorem referenceLaw_freeKept : FreeKept referenceLaw where
  rmu _ _ h := h
  offset _ _ _ h := h
  links _ _ _ h := h

theorem referenceLaw_sampleKept : SampleKept referenceLaw where
  __ := referenceLaw_freeKept
  index _ _ h := h
  now _ _ h := h
  formed _ := formReference_law _

theorem referenceLaw_rowsKept : RowsKept referenceLaw where
  __ := referenceLaw_opsKept
  rules _ _ _ h := h
  write _ _ _ _ h := h
  taken _ _ _ _ _ _ _ _ h := h.of_le (by simp) (by simp)
  clear hs h := referenceLaw_opsKept.clear referenceLaw_causeKept hs h
  configure _ _ := .of_none (by simp [enterConfiguring, Obs.atRest])
  commit _ _ := referenceLaw_opsKept.commitOf (.changeTrip (.of_none rfl) _ _)
  takes c r _ h := referenceLaw_opsKept.report referenceLaw_freeKept c r h
  silent c _ h := referenceLaw_opsKept.silence referenceLaw_freeKept c h
  samples h := referenceLaw_opsKept.sample referenceLaw_sampleKept h
  events _ _ h := h
  subscribe _ _ _ h := h
  reset _ := .of_none rfl

/-! ### Law 12: the stretch offsets within max_corr (R45) -/

theorem offsetLaw.of_eq {s t : State} (h : offsetLaw s)
    (ho : ∀ c, (t.cpt.cars.get c).offset = (s.cpt.cars.get c).offset)
    (hl : t.lts.inForce.maxCorr = s.lts.inForce.maxCorr) : offsetLaw t := by
  intro c
  rw [ho, hl]
  exact h c

/-- The law stands while the CPT's cars and the tables stay. -/
theorem offsetLaw.of_cars {s t : State} (h : offsetLaw s) (hc : t.cpt.cars = s.cpt.cars) (hl : t.lts = s.lts) :
    offsetLaw t :=
  h.of_eq (fun _ => by rw [hc]) (by rw [hl])

theorem offsetLaw_opsKept : OpsKept offsetLaw where
  raise _ _ _ h := h.of_cars (by simp) (by simp)
  tsq _ _ _ h := h.of_cars rfl rfl
  drive _ h := h.of_cars rfl rfl
  srg _ _ _ h := h.of_cars rfl rfl
  obs _ _ _ h := h.of_cars rfl rfl
  brake _ _ _ _ h := h.of_cars (by simp) (by simp)
  cpt _ _ ho h := h.of_eq ho rfl
  rmu _ _ _ h := h.of_cars rfl rfl
  dru _ _ _ h := h.of_cars rfl rfl
  bcu _ _ _ h := h.of_cars rfl rfl
  doors h := h.of_cars (by simp) (by simp)
  links _ _ _ _ h := h.of_cars rfl rfl
  trip _ _ _ h := h.of_cars (by simp) (by simp)
  depart _ _ _ _ _ h := h.of_cars (by simp) (by simp)
  cause _ _ _ h := h.of_cars (by simp) (by simp)
  list _ _ _ _ _ _ h := h.of_cars (by simp) (by simp)
  clock _ _ _ h := h.of_cars rfl rfl

theorem offsetLaw_freeKept : FreeKept offsetLaw where
  rmu _ _ h := h.of_cars rfl rfl
  offset f s ho h := fun c => by
    rcases ho c with hc | hc
    · rw [show (s.updCpt f).cpt = f s.cpt from rfl, hc]
      exact h c
    · exact hc
  links _ _ _ h := h.of_cars rfl rfl

theorem offsetLaw_sampleKept : SampleKept offsetLaw where
  __ := offsetLaw_freeKept
  index _ _ h := h.of_cars rfl rfl
  now _ _ h := h.of_cars rfl rfl
  formed h := h.of_cars (by simp) (by simp)

theorem offsetLaw_rowsKept : RowsKept offsetLaw where
  __ := offsetLaw_opsKept
  rules _ _ hx h := by
    obtain ⟨x, hx⟩ := hx
    exact h.of_eq (fun _ => rfl) (by simp [hx])
  write _ _ _ hi h := h.of_eq (fun _ => rfl) (by simp [hi])
  taken _ _ _ _ _ _ _ _ h := h.of_cars (by simp) (by simp)
  clear _ h := h.of_cars (by simp) (by simp)
  configure _ h := h.of_eq (fun _ => by simp [enterConfiguring]) (by simp [enterConfiguring])
  commit _ _ := offsetLaw_opsKept.commitOf (fun c => by
    cases c <;> simp [committing, resetCarRecord, PerCar.get])
  takes c r _ h := offsetLaw_opsKept.report offsetLaw_freeKept c r h
  silent c _ h := offsetLaw_opsKept.silence offsetLaw_freeKept c h
  samples h := offsetLaw_opsKept.sample offsetLaw_sampleKept h
  events _ _ h := h.of_cars rfl rfl
  subscribe _ _ _ h := h.of_cars rfl rfl
  reset _ := fun c => by cases c <;> exact Nat.zero_le _

/-- Settles O58: both laws are kept by every change that the commands are made of, and neither reads a port. -/
theorem referenceAndOffsetLawsKept : Obligations.ReferenceAndOffsetLawsKept :=
  ⟨fun _ _ _ h hx => referenceLaw_rowsKept.exec (fun _ _ _ h => h.of_le le_rfl (.inl rfl)) h hx,
    fun _ _ _ h hx => offsetLaw_rowsKept.exec (fun _ _ _ h => h.of_cars rfl rfl) h hx⟩

end Sys2Proof.Machine
end

section
/-! Law 7 (R108) on the halt request list, and Laws 4 and 6 (R140, R142) on the boarding batches. -/

namespace Sys2Proof.Machine

/-! ### Law 7: the halt request list (R108) -/

theorem onRequest_congr {t u : Lts} (h : t.stops = u.stops) (k : Nat) : t.onRequest k = u.onRequest k := by
  rw [Lts.onRequest, Lts.onRequest, Lts.stop, Lts.stop, h]

theorem stopCount_congr {t u : Lts} (h : t.stops = u.stops) : t.stopCount = u.stopCount := by
  simp [Lts.stopCount, h]

/-- The law stands while entries are only removed, the stops stay, and CONFIGURING is not entered. -/
theorem haltLaw.of_sublist {s t : State} (h : haltLaw s) (hh : t.tsq.halts.Sublist s.tsq.halts)
    (hl : t.lts.stops = s.lts.stops) (hs : t.tsq.state = .configuring → s.tsq.state = .configuring) : haltLaw t := by
  obtain ⟨hnodup, hline, hconf⟩ := h
  refine ⟨hnodup.sublist (hh.map _), fun e he => ?_, fun hc => ?_⟩
  · rw [onRequest_congr hl, stopCount_congr hl]
    exact hline e (hh.subset he)
  · exact List.sublist_nil.mp (hconf (hs hc) ▸ hh)

/-- The law stands while list, stops and trip state stay. -/
theorem haltLaw.of_eq {s t : State} (h : haltLaw s) (hh : t.tsq.halts = s.tsq.halts) (hl : t.lts = s.lts)
    (hs : t.tsq.state = s.tsq.state) : haltLaw t :=
  h.of_sublist (hh ▸ .refl _) (by rw [hl]) (by rw [hs]; exact id)

/-- An empty list obeys the law. -/
theorem haltLaw.of_nil {t : State} (h : t.tsq.halts = []) : haltLaw t := by
  refine ⟨?_, ?_, fun _ => h⟩ <;> simp [h]

theorem haltLaw.changeTrip {s : State} (h : haltLaw s) {new : TripState} (step : Option Step)
    (hn : new ≠ .configuring) : haltLaw (changeTrip new step s) :=
  h.of_sublist (by simp) (by simp) (by simp [hn])

/-- A source added to an entry changes no stop index (R109). -/
theorem addSource_stopIndex (src : HaltSource) (k : Nat) (e : HaltEntry) :
    (addSource src k e).stopIndex = e.stopIndex := by
  unfold addSource; split <;> rfl

/-- A request listed: one entry per stop still, for an ON_REQUEST stop of the line (R108, R109). -/
theorem haltLaw.listHalt {s : State} (h : haltLaw s) {k : Nat} (src : HaltSource) (hs : s.tsq.state ≠ .configuring)
    (hk : k < s.lts.stopCount) (ho : s.lts.onRequest k = true) : haltLaw (listHalt k src s) := by
  obtain ⟨hnodup, hline, -⟩ := h
  unfold Machine.listHalt
  split
  · have hmap : (s.tsq.halts.map (addSource src k)).map (·.stopIndex) = s.tsq.halts.map (·.stopIndex) := by
      simp only [List.map_map]
      exact List.map_congr_left fun e _ => addSource_stopIndex src k e
    refine ⟨by simpa only [updTsq_tsq, hmap] using hnodup, fun e he => ?_, fun hc => absurd hc hs⟩
    obtain ⟨d, hd, rfl⟩ := List.mem_map.mp he
    rw [addSource_stopIndex]
    exact hline d hd
  next hl =>
    have hnew : ∀ e ∈ s.tsq.halts, e.stopIndex ≠ k := by simpa [State.listed] using hl
    refine ⟨?_, fun e he => ?_, fun hc => absurd (by simpa using hc) hs⟩
    · simp only [raise_keeps, updTsq_tsq, List.map_append, List.nodup_append]
      refine ⟨hnodup, by simp, ?_⟩
      intro a ha b hb
      obtain ⟨e, he, rfl⟩ := List.mem_map.mp ha
      simp only [List.map_cons, List.map_nil, List.mem_singleton] at hb
      exact hb ▸ hnew e he
    · simp only [raise_keeps, updTsq_tsq, updTsq_lts, List.mem_append, List.mem_singleton] at he ⊢
      rcases he with he | rfl
      · exact hline e he
      · exact ⟨ho, hk⟩

theorem haltLaw_causeKept : CauseKept haltLaw where
  raise _ _ _ h := h.of_eq (by simp) (by simp) (by simp)
  request h := h.of_eq rfl rfl rfl
  srg _ _ _ h := h.of_eq rfl rfl rfl
  obs _ _ _ _ h := h.of_eq rfl rfl rfl
  brake _ _ _ h := h.of_eq (by simp) (by simp) (by simp)
  cpt _ _ _ h := h.of_eq rfl rfl rfl
  tripped h := h.changeTrip _ (by decide)

theorem haltLaw_opsKept : OpsKept haltLaw where
  raise := haltLaw_causeKept.raise
  tsq _ _ ht h := h.of_sublist ht.halts rfl (fun hc => ht.state ▸ hc)
  drive _ h := h.of_eq rfl rfl rfl
  srg := haltLaw_causeKept.srg
  obs _ _ _ h := h.of_eq rfl rfl rfl
  brake _ _ _ _ h := haltLaw_causeKept.brake _ _ h
  cpt _ _ _ h := h.of_eq rfl rfl rfl
  rmu _ _ _ h := h.of_eq rfl rfl rfl
  dru _ _ _ h := h.of_eq rfl rfl rfl
  bcu _ _ _ h := h.of_eq rfl rfl rfl
  doors h := h.of_eq (by simp) (by simp) (by simp)
  links _ _ _ _ h := h.of_eq rfl rfl rfl
  trip _ _ hp h := h.changeTrip _ hp.config
  depart f _ s _ hf h := by
    refine haltLaw.changeTrip ?_ _ (by decide)
    obtain ⟨hstate, -, hhalts, -⟩ := hf s.tsq
    exact h.of_eq hhalts rfl hstate
  cause _ _ _ h := haltLaw_causeKept.cause _ _ h
  list _ src _ hs hk ho h := h.listHalt src hs hk ho
  clock _ _ _ h := h.of_eq rfl rfl rfl

theorem haltLaw_freeKept : FreeKept haltLaw where
  rmu _ _ h := h.of_eq rfl rfl rfl
  offset _ _ _ h := h.of_eq rfl rfl rfl
  links _ _ _ h := h.of_eq rfl rfl rfl

theorem haltLaw_sampleKept : SampleKept haltLaw where
  __ := haltLaw_freeKept
  index _ _ h := h.of_eq rfl rfl rfl
  now _ _ h := h.of_eq rfl rfl rfl
  formed h := h.of_eq (by simp) (by simp) (by simp)

theorem haltLaw_rowsKept : RowsKept haltLaw where
  __ := haltLaw_opsKept
  rules _ _ hx h := by
    obtain ⟨x, hx⟩ := hx
    exact h.of_sublist (.refl _) (by simp [hx]) id
  write _ _ hs _ h := .of_nil (h.2.2 hs)
  taken _ _ _ _ _ _ _ _ h := h.of_eq (by simp) (by simp) (by simp)
  clear hs h := haltLaw_opsKept.clear haltLaw_causeKept hs h
  configure _ _ := .of_nil rfl
  commit _ _ := haltLaw_opsKept.commitOf (.of_nil (by simp [committing, Tsq.atRest]))
  takes c r _ h := haltLaw_opsKept.report haltLaw_freeKept c r h
  silent c _ h := haltLaw_opsKept.silence haltLaw_freeKept c h
  samples h := haltLaw_opsKept.sample haltLaw_sampleKept h
  events _ _ h := h.of_eq rfl rfl rfl
  subscribe _ _ _ h := h.of_eq rfl rfl rfl
  reset _ := .of_nil rfl

/-! ### Laws 4 and 6: the boarding batches (R140, R142) -/

/-- A batch record within the capacity in force, its lists within their bounds. -/
structure Batch.Bounded (capacity : Nat) (b : Batch) : Prop where
  count   : b.platformCount ≤ capacity
  nodup   : (b.recent.map (·.serial)).Nodup
  recent  : b.recent.length ≤ 64
  pending : b.pending.length ≤ 16

/-- Laws 4 and 6, per batch. -/
def batchLaw (s : State) : Prop := ∀ st, (s.bcu.batches.get st).Bounded s.capacity

theorem batchLaw_iff (s : State) : batchLaw s ↔ platformLaw s ∧ listsLaw s := by
  constructor
  · exact fun h => ⟨fun st => (h st).count, fun st => ⟨(h st).nodup, (h st).recent, (h st).pending⟩⟩
  · rintro ⟨hp, hl⟩ st
    obtain ⟨hn, hr, hq⟩ := hl st
    exact ⟨hp st, hn, hr, hq⟩

theorem Batch.Bounded.within {n : Nat} {b b' : Batch} (h : b.Bounded n) (hw : b.Within b') : b'.Bounded n :=
  ⟨hw.count.trans h.count, hw.recent ▸ h.nodup, hw.recent ▸ h.recent, hw.pending.trans h.pending⟩

theorem batchLaw.of_within {s t : State} (h : batchLaw s)
    (hb : ∀ st, (s.bcu.batches.get st).Within (t.bcu.batches.get st)) (hl : t.lts.inForce = s.lts.inForce) :
    batchLaw t := by
  intro st
  rw [State.capacity, hl]
  exact (h st).within (hb st)

theorem batchLaw.of_eq {s t : State} (h : batchLaw s) (hb : t.bcu.batches = s.bcu.batches) (hl : t.lts = s.lts) :
    batchLaw t :=
  h.of_within (fun st => hb ▸ .refl _) (by rw [hl])

@[simp] theorem setBatch_batches (st : Station) (b : Batch) (s : State) :
    (setBatch st b s).bcu.batches = s.bcu.batches.set st b := by
  unfold setBatch; split <;> simp

/-- A change of the trip state leaves the batches' counts and lists: at most it suspends them (R144). -/
theorem changeTrip_within (new : TripState) (step : Option Step) (s : State) (st : Station) :
    (s.bcu.batches.get st).Within ((changeTrip new step s).bcu.batches.get st) := by
  unfold changeTrip
  split
  · exact .refl _
  · simp only [rmuOnTrip_keeps, srgOnTrip_keeps, bcuOnTrip]
    split
    · cases st <;> simp [suspendBatches, suspendBatch] <;> exact .of_eq le_rfl rfl rfl
    · simpa using .refl _

theorem batchLaw.changeTrip {s : State} (h : batchLaw s) (new : TripState) (step : Option Step) :
    batchLaw (changeTrip new step s) :=
  h.of_within (changeTrip_within _ _ _) (by simp)

/-- A serial appended leaves each serial once, within the list's depth (R142). -/
theorem appendSerial_bounds (x : Long) (now : Long) {l : List RecentSerial} (hn : (l.map (·.serial)).Nodup)
    (hl : l.length ≤ 64) :
    ((appendSerial x now l).map (·.serial)).Nodup ∧ (appendSerial x now l).length ≤ 64 := by
  have hnew : ∀ m : List RecentSerial, (m.map (·.serial)).Nodup → (∀ e ∈ m, e.serial ≠ x) →
      ((m ++ [(⟨x, now⟩ : RecentSerial)]).map (·.serial)).Nodup := by
    intro m hm hx
    rw [List.map_append, List.nodup_append]
    refine ⟨hm, by simp, fun a ha b hb => ?_⟩
    obtain ⟨e, he, rfl⟩ := List.mem_map.mp ha
    simp only [List.map_cons, List.map_nil, List.mem_singleton] at hb
    exact hb ▸ hx e he
  unfold appendSerial
  split
  next ha =>
    obtain ⟨e, he, hex⟩ := List.any_eq_true.mp ha
    refine ⟨hnew _ (hn.sublist (List.filter_sublist.map _)) (fun e he => by simpa using (List.mem_filter.mp he).2), ?_⟩
    have hlt : (l.filter (fun e => decide (e.serial ≠ x))).length < l.length := by
      apply List.length_filter_lt_length_iff_exists.mpr
      exact ⟨e, he, by simpa using hex⟩
    simp only [List.length_append, List.length_singleton]
    omega
  next ha =>
    have hx : ∀ e ∈ l, e.serial ≠ x := by simpa using ha
    split
    next hd =>
      refine ⟨hnew _ (hn.sublist ((List.tail_sublist _).map _)) (fun e he => hx e (List.mem_of_mem_tail he)), ?_⟩
      have : Config.recentDepth = 64 := rfl
      simp only [List.length_append, List.length_tail, List.length_singleton]
      omega
    next hd =>
      have : Config.recentDepth = 64 := rfl
      refine ⟨hnew _ hn hx, ?_⟩
      simp only [List.length_append, List.length_singleton]
      omega

/-- An admission under its conditions keeps the bounds (R143). -/
theorem Batch.Bounded.taken {n : Nat} {b : Batch} (h : b.Bounded n) (gate persons : Nat) (serial now : Long)
    (hc : b.platformCount + persons ≤ n) (hp : b.pending.length < Config.pendingDepth) :
    (b.taken gate persons serial now).Bounded n where
  count := by
    simp only [Batch.platformCount, Batch.pendingPersons, Batch.taken, List.map_append, List.sum_append] at hc ⊢
    simpa [Nat.add_assoc] using hc
  nodup := (appendSerial_bounds serial now h.nodup h.recent).1
  recent := (appendSerial_bounds serial now h.nodup h.recent).2
  pending := by
    simp only [Batch.taken, List.length_append, List.length_singleton]
    exact hp

theorem batchLaw_causeKept : CauseKept batchLaw where
  raise _ _ _ h := h.of_eq (by simp) (by simp)
  request h := h.of_eq rfl rfl
  srg _ _ _ h := h.of_eq rfl rfl
  obs _ _ _ _ h := h.of_eq rfl rfl
  brake _ _ _ h := h.of_eq (by simp) (by simp)
  cpt _ _ _ h := h.of_eq rfl rfl
  tripped h := h.changeTrip _ _

theorem batchLaw_opsKept : OpsKept batchLaw where
  raise := batchLaw_causeKept.raise
  tsq _ _ _ h := h.of_eq rfl rfl
  drive _ h := h.of_eq rfl rfl
  srg := batchLaw_causeKept.srg
  obs _ _ _ h := h.of_eq rfl rfl
  brake _ _ _ _ h := batchLaw_causeKept.brake _ _ h
  cpt _ _ _ h := h.of_eq rfl rfl
  rmu _ _ _ h := h.of_eq rfl rfl
  dru _ _ _ h := h.of_eq rfl rfl
  bcu _ _ hb h := h.of_within hb rfl
  doors h := h.of_eq (by simp) (by simp)
  links _ _ _ _ h := h.of_eq rfl rfl
  trip _ _ _ h := h.changeTrip _ _
  depart _ _ _ _ _ h := by
    refine batchLaw.changeTrip ?_ _ _
    exact h.of_eq rfl rfl
  cause _ _ _ h := batchLaw_causeKept.cause _ _ h
  list _ _ _ _ _ _ h := h.of_eq (by simp) (by simp)
  clock _ _ _ h := h.of_eq rfl rfl

theorem batchLaw_freeKept : FreeKept batchLaw where
  rmu _ _ h := h.of_eq rfl rfl
  offset _ _ _ h := h.of_eq rfl rfl
  links _ _ _ h := h.of_eq rfl rfl

theorem batchLaw_sampleKept : SampleKept batchLaw where
  __ := batchLaw_freeKept
  index _ _ h := h.of_eq rfl rfl
  now _ _ h := h.of_eq rfl rfl
  formed h := h.of_eq (by simp) (by simp)

/-- A batch cleared at COMMIT is within any capacity (Table 8-1). -/
theorem atCommit_bounded (b : Batch) (n : Nat) : b.atCommit.Bounded n := by
  constructor <;> simp [Batch.atCommit, Batch.platformCount, Batch.pendingPersons]

theorem batchLaw_rowsKept : RowsKept batchLaw where
  __ := batchLaw_opsKept
  rules _ _ hx h := by
    obtain ⟨x, hx⟩ := hx
    exact h.of_within (fun _ => .refl _) (by simp [hx])
  write _ _ _ hi h := h.of_within (fun _ => .refl _) hi
  taken st g n ser now s hc hp h := by
    intro st'
    rw [setBatch_batches, PerStation.get_set, State.capacity, (setBatch_keeps _ _ _).1]
    split
    · exact (h st).taken g n ser now hc hp
    · exact h st'
  clear hs h := batchLaw_opsKept.clear batchLaw_causeKept hs h
  configure _ h := by
    unfold enterConfiguring
    exact (h.changeTrip .configuring none).of_within (fun _ => .refl _) rfl
  commit _ _ := batchLaw_opsKept.commitOf (.changeTrip (fun st => by
    cases st <;> exact atCommit_bounded _ _) _ _)
  takes c r _ h := batchLaw_opsKept.report batchLaw_freeKept c r h
  silent c _ h := batchLaw_opsKept.silence batchLaw_freeKept c h
  samples h := batchLaw_opsKept.sample batchLaw_sampleKept h
  events _ _ h := h.of_eq rfl rfl
  subscribe _ _ _ h := h.of_eq rfl rfl
  reset _ := fun st => by cases st <;> constructor <;> simp [State.reset, PerStation.get, resetBatch, Batch.platformCount, Batch.pendingPersons]

/-- Settles O57: the batches' bounds and the halt list's law are kept by every change that the commands are made of. -/
theorem batchAndHaltLawsKept : Obligations.BatchAndHaltLawsKept :=
  ⟨fun _ s t hp hl hx => (batchLaw_iff t).mp (batchLaw_rowsKept.exec (fun _ _ _ h => h.of_eq rfl rfl)
      ((batchLaw_iff s).mpr ⟨hp, hl⟩) hx),
    fun _ _ _ h hx => haltLaw_rowsKept.exec (fun _ _ _ h => h.of_eq rfl rfl rfl) h hx⟩

end Sys2Proof.Machine
end

section
/-! Laws 1 and 9 (R84, R119), Laws 10 and 11 (R83, R90), and Laws 2 and 3 (R126). The first two read the cause list, so
a cause and an ACKNOWLEDGE are argued for each; the doors are tested at the end of whatever moves what they depend on. -/

namespace Sys2Proof.Machine

/-! ### Laws 1 and 9: TRIPPED and the drive request (R84, R119) -/

/-- TRIPPED exactly while a cause is listed, and the drive request only while the line moves or a trip from moving. -/
def driveInv (s : State) : Prop := trippedLaw s ∧ requestLaw s

/-- Law 1 is a consequence: drive enable needs the request and a braking that permits it (R86, R119). -/
theorem driveLaw_of_inv {s : State} (h : driveInv s) : driveLaw s := by
  obtain ⟨htrip, hreq⟩ := h
  intro hden
  simp only [State.den, Bool.and_eq_true] at hden
  rcases hreq hden.1 with hm | ⟨ht, hf⟩
  · refine .inl ⟨hm, ?_⟩
    by_contra hc
    have := htrip.mpr hc
    simp [State.moving, State.releasing, this] at hm
  · refine .inr ⟨ht, hf, ?_⟩
    have hb : s.braking ≠ .none := by
      obtain ⟨l, e, hl⟩ := List.eq_nil_or_concat s.obs.causes |>.resolve_left (htrip.mp ht)
      intro hn
      rw [State.braking, hl, List.concat_eq_append, brakingOf_append] at hn
      have hcode := congrArg Braking.code hn
      rw [Braking.max_code] at hcode
      have hle := Nat.le_max_right (brakingOf l).code e.kind.severity.code
      have hz : e.kind.severity.code = Braking.none.code := by
        have hn0 : Braking.none.code = 0 := rfl
        rw [hn0] at hcode ⊢
        exact Nat.le_zero.mp (hcode ▸ hle)
      exact severity_ne_none _ (Braking.code_inj hz)
    have hp := hden.2
    unfold State.permission at hp
    cases hbr : s.braking <;> simp_all

/-- The invariant stands while the items it reads stay, or the drive request falls. -/
theorem driveInv.of_eq {s t : State} (h : driveInv s) (hs : t.tsq.state = s.tsq.state)
    (hp : t.tsq.step = s.tsq.step ∨ s.releasing = false)
    (hd : t.tsq.driveRequest = s.tsq.driveRequest ∨ t.tsq.driveRequest = false)
    (hc : t.obs.causes = s.obs.causes) (hf : t.obs.trippedFrom = s.obs.trippedFrom) : driveInv t := by
  obtain ⟨htrip, hreq⟩ := h
  refine ⟨by rw [trippedLaw, hs, hc]; exact htrip, fun hdr => ?_⟩
  have hds : s.tsq.driveRequest = true := by rcases hd with hd | hd <;> simp_all
  rcases hreq hds with hm | ht
  · left
    rcases hp with hp | hp
    · simpa [State.moving, State.releasing, hs, hp] using hm
    · simp only [State.moving, hp, Bool.false_or] at hm
      simp only [State.moving, hs, Bool.or_assoc] at hm ⊢
      simp [hm]
  · right
    rw [hs, hf]
    exact ht

/-- A line that does not move and is not tripped has no drive request. -/
theorem driveInv.no_request {s : State} (h : driveInv s) (hm : s.moving = false) (ht : s.tsq.state ≠ .tripped) :
    s.tsq.driveRequest = false := by
  by_contra hd
  rcases h.2 (by simpa using hd) with h' | h'
  · simp [hm] at h'
  · exact ht h'.1

theorem not_moving_of_rest {s : State} (h : s.tsq.state.moves = false) : s.moving = false := by
  cases hs : s.tsq.state <;> simp_all [State.moving, State.releasing, TripState.moves]

/-- A state that is not TRIPPED, with no cause listed and no drive request out of place. -/
theorem driveInv.of_clear {t : State} (ht : t.tsq.state ≠ .tripped) (hc : t.obs.causes = [])
    (hr : t.tsq.driveRequest = true → t.moving = true) : driveInv t :=
  ⟨by simp [trippedLaw, ht, hc], fun hd => .inl (hr hd)⟩

theorem driveInv.changeTrip {s : State} (h : driveInv s) {new : TripState} (step : Option Step)
    (hp : Passes s new) : driveInv (changeTrip new step s) := by
  by_cases hs : s.tsq.state = new
  · rwa [changeTrip_same step hs]
  have hc : s.obs.causes = [] := by
    rcases hp.clear with hc | hc
    · by_contra hne
      exact hc (h.1.mpr hne)
    · exact hc
  refine .of_clear (by simpa using hp.trip) (by simpa using hc) fun hd => ?_
  rw [changeTrip_tsq step hs] at hd
  simp only [Bool.and_eq_true] at hd
  cases new with
  | departing =>
    have hrest : s.tsq.driveRequest = false := by
      apply h.no_request (not_moving_of_rest ?_) ?_ <;> rcases hp.departs rfl with h' | h' <;> simp [h', TripState.moves]
    simp [hrest] at hd
  | running => simp [State.moving]
  | arriving => simp [State.moving]
  | inspecting => simp [State.moving]
  | tripped => exact absurd rfl hp.trip
  | configuring => simp [TripState.keepsDrive] at hd
  | outOfService => simp [TripState.keepsDrive] at hd
  | stopped => simp [TripState.keepsDrive] at hd
  | stranded => simp [TripState.keepsDrive] at hd

/-- What a cause leaves of the drive request: none is raised. -/
theorem requestFalls_causeKept (b : Bool) : CauseKept (fun u => u.tsq.driveRequest = true → b = true) where
  raise _ _ _ h := by simpa using h
  request _ := by simp
  srg _ _ _ h := h
  obs _ _ _ _ h := h
  brake _ _ _ h := by simpa using h
  cpt _ _ _ h := h
  tripped {s} h := by
    by_cases hs : s.tsq.state = .tripped
    · rwa [changeTrip_same none hs]
    · rw [changeTrip_tsq none hs]
      intro hd
      exact h (by simpa [TripState.keepsDrive] using hd)

theorem giveCause_request {k : CauseKind} {src : CauseSource} {s : State}
    (h : (giveCause k src s).tsq.driveRequest = true) : s.tsq.driveRequest = true :=
  (requestFalls_causeKept s.tsq.driveRequest).cause k src (s := s) id h

theorem driveInv.cause {s : State} (h : driveInv s) (k : CauseKind) (src : CauseSource) :
    driveInv (giveCause k src s) := by
  by_cases ht : s.takesCause k = true
  · have hne : (giveCause k src s).obs.causes ≠ [] := by simp [giveCause_causes, ht]
    by_cases he : s.obs.causes = []
    · obtain ⟨hst, hfrom⟩ := giveCause_first src ht he
      refine ⟨by simp [trippedLaw, hst, hne], fun hd => .inr ⟨hst, _, hfrom, ?_⟩⟩
      rcases h.2 (giveCause_request hd) with hm | hm
      · by_contra hmv
        simp [not_moving_of_rest (by simpa using hmv)] at hm
      · exact absurd he (h.1.mp hm.1)
    · obtain ⟨hst, hfrom⟩ := giveCause_later (k := k) src he
      have hts := h.1.mpr he
      refine ⟨by simp [trippedLaw, hst, hts, hne], fun hd => .inr ⟨hst.trans hts, ?_⟩⟩
      rw [hfrom]
      rcases h.2 (giveCause_request hd) with hm | hm
      · simp [State.moving, State.releasing, hts] at hm
      · exact hm.2
  · rwa [giveCause_not src (by simpa using ht)]

theorem driveInv_opsKept : OpsKept driveInv where
  raise _ _ _ h := h.of_eq (by simp) (.inl (by simp)) (.inl (by simp)) (by simp) (by simp)
  tsq _ _ ht h := h.of_eq ht.state ht.step ht.drive rfl rfl
  drive hm h := ⟨h.1, fun _ => .inl hm⟩
  srg _ _ _ h := h.of_eq rfl (.inl rfl) (.inl rfl) rfl rfl
  obs _ _ ho h := h.of_eq rfl (.inl rfl) (.inl rfl) ho.causes ho.from_
  brake _ _ _ _ h := h.of_eq (by simp) (.inl (by simp)) (.inl (by simp)) (by simp) (by simp)
  cpt _ _ _ h := h.of_eq rfl (.inl rfl) (.inl rfl) rfl rfl
  rmu _ _ _ h := h.of_eq rfl (.inl rfl) (.inl rfl) rfl rfl
  dru _ _ _ h := h.of_eq rfl (.inl rfl) (.inl rfl) rfl rfl
  bcu _ _ _ h := h.of_eq rfl (.inl rfl) (.inl rfl) rfl rfl
  doors h := h.of_eq (by simp) (.inl (by simp)) (.inl (by simp)) (by simp) (by simp)
  links _ _ _ _ h := h.of_eq rfl (.inl rfl) (.inl rfl) rfl rfl
  trip _ _ hp h := h.changeTrip _ hp
  depart f g s hs hf h := by
    obtain ⟨hstate, hstep, -, hdrive⟩ := hf s.tsq
    refine driveInv.changeTrip ?_ _ ?_
    · exact h.of_eq hstate (.inl hstep) (.inl hdrive) rfl rfl
    refine ⟨by decide, by decide, .inl ?_, fun _ => ?_⟩
    · rcases hs with hs | hs <;> simp [hstate, hs]
    · simpa [hstate] using hs
  cause k src _ h := h.cause k src
  list _ _ _ _ _ _ h := h.of_eq (by simp) (.inl (by simp)) (.inl (by simp)) (by simp) (by simp)
  clock _ _ _ h := h.of_eq rfl (.inl rfl) (.inl rfl) rfl rfl

theorem driveInv_freeKept : FreeKept driveInv where
  rmu _ _ h := h.of_eq rfl (.inl rfl) (.inl rfl) rfl rfl
  offset _ _ _ h := h.of_eq rfl (.inl rfl) (.inl rfl) rfl rfl
  links _ _ _ h := h.of_eq rfl (.inl rfl) (.inl rfl) rfl rfl

theorem driveInv_sampleKept : SampleKept driveInv where
  __ := driveInv_freeKept
  index _ _ h := h.of_eq rfl (.inl rfl) (.inl rfl) rfl rfl
  now _ _ h := h.of_eq rfl (.inl rfl) (.inl rfl) rfl rfl
  formed h := h.of_eq (by simp) (.inl (by simp)) (.inl (by simp)) (by simp) (by simp)

/-- A change to a state at rest drops the drive request (R119). -/
theorem changeTrip_no_request {new : TripState} (step : Option Step) {s : State} (hn : new.keepsDrive = false)
    (hs : s.tsq.state ≠ new) : (changeTrip new step s).tsq.driveRequest = false := by
  rw [changeTrip_tsq step hs]
  simp [hn]

/-- An ACKNOWLEDGE taken leaves TRIPPED for a state at rest, without a drive request (R97). -/
theorem leaveTripped_rest {s : State} (hs : s.tsq.state = .tripped) :
    (leaveTripped s).tsq.state ≠ .tripped ∧ (leaveTripped s).tsq.driveRequest = false := by
  have hrest : ∀ new : TripState, new.keepsDrive = false → ∀ u : State, u.tsq.state = .tripped →
      (changeTrip new none u).tsq.state ≠ .tripped ∧ (changeTrip new none u).tsq.driveRequest = false := by
    intro new hn u hu
    have hne : new ≠ .tripped := fun h => by rw [h] at hn; cases hn
    exact ⟨by simpa using hne, changeTrip_no_request none hn (by rw [hu]; exact hne.symm)⟩
  unfold leaveTripped
  split
  · exact hrest _ rfl s hs
  · split
    next k _ =>
      have := hrest .stopped rfl (s.updTsq (fun t => { t with target := some k })) hs
      simpa [stopAt] using this
    next => exact hrest _ rfl s hs

theorem driveInv_rowsKept : RowsKept driveInv where
  __ := driveInv_opsKept
  rules _ _ _ h := h.of_eq rfl (.inl rfl) (.inl rfl) rfl rfl
  write _ _ _ _ h := h.of_eq rfl (.inl rfl) (.inl rfl) rfl rfl
  taken _ _ _ _ _ _ _ _ h := h.of_eq (by simp) (.inl (by simp)) (.inl (by simp)) (by simp) (by simp)
  clear {s} hs h := by
    have hrest := leaveTripped_rest (s := (liftBrake .ebk (raise .causesCleared
      (s.updObs (fun o => { o with causes := [], stopLatch := false })))).updObs (fun o => { o with railBrake := false }))
      (by simpa using hs)
    refine .of_clear hrest.1 (by simp [clearCauses]) fun hd => ?_
    rw [show (clearCauses s).tsq.driveRequest = false from hrest.2] at hd
    cases hd
  configure {s} hs h := by
    have hr := changeTrip_no_request (new := .configuring) none rfl (s := s) (by simp [hs])
    refine .of_clear (by simp [enterConfiguring, Tsq.atRest]) rfl fun hd => ?_
    rw [show (enterConfiguring s).tsq.driveRequest = (changeTrip .configuring none s).tsq.driveRequest from rfl, hr] at hd
    cases hd
  commit {s} hs h := by
    have hr := changeTrip_no_request (new := .outOfService) none rfl (s := committing s)
      (by simp [committing, Tsq.atRest, hs])
    refine driveInv_opsKept.commitOf (.of_clear (by simp) (by simp [committing, Obs.atCommit, Obs.atRest]) fun hd => ?_)
    rw [hr] at hd
    cases hd
  takes c r _ h := driveInv_opsKept.report driveInv_freeKept c r h
  silent c _ h := driveInv_opsKept.silence driveInv_freeKept c h
  samples h := driveInv_opsKept.sample driveInv_sampleKept h
  events _ _ h := h.of_eq rfl (.inl rfl) (.inl rfl) rfl rfl
  subscribe _ _ _ h := h.of_eq rfl (.inl rfl) (.inl rfl) rfl rfl
  reset _ := .of_clear (fun h => by cases h) rfl (fun hd => by cases hd)

theorem driveInv_kept {c : Instr} {s t : State} (h : driveInv s) (hx : exec c s = .next t) : driveInv t :=
  driveInv_rowsKept.exec (fun _ _ _ h => h.of_eq rfl (.inl rfl) (.inl rfl) rfl rfl) h hx

/-- Settles O55: `driveInv` is kept by every change that the commands are made of, and Law 1 follows from it. -/
theorem driveLawsKept : Obligations.DriveLawsKept := by
  intro c s t htrip hreq hx
  have h := driveInv_kept ⟨htrip, hreq⟩ hx
  exact ⟨h.1, h.2, driveLaw_of_inv h⟩

/-! ### Laws 10 and 11: the cause list and EMERGENCY braking (R83, R90) -/

/-- Each cause kind at most once, and the lines that EMERGENCY braking holds. -/
def causeInv (s : State) : Prop := causeLaw s ∧ emergencyLaw s

theorem causeInv.of_eq {s t : State} (h : causeInv s) (hc : t.obs.causes = s.obs.causes)
    (hb : (t.obs.brakes.get .ebk).command = (s.obs.brakes.get .ebk).command ∨ (t.obs.brakes.get .ebk).command = .applied)
    (hr : t.obs.railBrake = s.obs.railBrake) : causeInv t := by
  refine ⟨by rw [causeLaw, hc]; exact h.1, fun hem => ?_⟩
  obtain ⟨hebk, hrail⟩ := h.2 (by rwa [State.braking, ← hc])
  refine ⟨?_, hr ▸ hrail⟩
  rcases hb with hb | hb
  · exact hb.trans hebk
  · exact hb

/-- With no cause listed there is nothing to say. -/
theorem causeInv.of_nil {t : State} (hc : t.obs.causes = []) : causeInv t :=
  ⟨by simp [causeLaw, hc], fun hem => by simp [State.braking, hc] at hem⟩

theorem causeInv.of_obs {s t : State} (h : causeInv s) (ho : t.obs = s.obs) : causeInv t :=
  h.of_eq (by rw [ho]) (.inl (by rw [ho])) (by rw [ho])

@[simp] theorem brakingAction_braking (b : Braking) (s : State) : (brakingAction b s).braking = s.braking := by
  simp [State.braking]

/-- The braking that has risen to EMERGENCY commands its lines (R90); one that has not leaves them. -/
theorem emergencyLaw_brakingAction {before : Braking} {s : State}
    (h : Braking.code before < Braking.code .emergency ∨ emergencyLaw s) : emergencyLaw (brakingAction before s) := by
  intro hem
  rw [brakingAction_braking] at hem
  unfold brakingAction
  rw [hem]
  dsimp only
  split
  · exact ⟨emergencyBraking_commands .ebk s, emergencyBraking_rail s⟩
  next hlt => exact (h.resolve_left hlt) hem

@[simp] theorem trip_braking (s : State) : (trip s).braking = s.braking := by
  simp [State.braking]

/-- The cause list after a cause holds each kind once (R83). -/
theorem causeLaw.cause {s : State} (h : causeLaw s) (k : CauseKind) (src : CauseSource) :
    causeLaw (giveCause k src s) := by
  rw [causeLaw, giveCause_causes]
  split
  next ht =>
    rw [List.map_append, List.nodup_append]
    refine ⟨h, by simp, ?_⟩
    simp only [State.takesCause, State.hasCause, Bool.and_eq_true, Bool.not_eq_true', List.any_eq_false,
      decide_eq_true_eq] at ht
    intro a ha b hb
    obtain ⟨e, he, rfl⟩ := List.mem_map.mp ha
    simp only [causeEntry, List.map_cons, List.map_nil, List.mem_singleton] at hb
    exact hb ▸ ht.2 e he
  next => exact h

/-- EMERGENCY braking holds its lines after a cause (R90). -/
theorem emergencyLaw.cause {s : State} (h : emergencyLaw s) (k : CauseKind) (src : CauseSource) :
    emergencyLaw (giveCause k src s) := by
  unfold giveCause
  split
  · exact h
  · split
    · have ha : ∀ u, emergencyLaw (brakingAction .none u) := fun _ => emergencyLaw_brakingAction (.inl (by decide))
      intro hem
      rw [trip_braking] at hem
      simpa using ha _ hem
    · refine emergencyLaw_brakingAction ?_
      by_cases hb : s.braking = .emergency
      · exact .inr fun _ => by simpa using h hb
      · left
        cases hs : s.braking <;> simp_all [Braking.code]

theorem causeInv_opsKept : OpsKept causeInv where
  raise _ _ _ h := h.of_obs (by simp)
  tsq _ _ _ h := h.of_obs rfl
  drive _ h := h.of_obs rfl
  srg _ _ _ h := h.of_obs rfl
  obs _ _ ho h := h.of_eq ho.causes (.inl (ho.brakes .ebk).1) ho.rail
  brake b r s hr h := by
    by_cases hc : s.obs.causes = []
    · exact .of_nil (by simpa using hc)
    · refine h.of_eq (by simp) ?_ (by simp)
      rw [setBrake_brakes, PerBrake.get_set]
      split
      next hb =>
        subst hb
        rcases hr with hr | hr | hr
        · exact .inr hr
        · exact .inl hr
        · exact absurd hr hc
      next => exact .inl rfl
  cpt _ _ _ h := h.of_obs rfl
  rmu _ _ _ h := h.of_obs rfl
  dru _ _ _ h := h.of_obs rfl
  bcu _ _ _ h := h.of_obs rfl
  doors h := h.of_obs (by simp)
  links _ _ _ _ h := h.of_obs rfl
  trip _ _ _ h := h.of_eq (by simp) (.inl (by simp)) (by simp)
  depart _ _ _ _ _ h := h.of_eq (by simp) (.inl (by simp)) (by simp)
  cause k src _ h := ⟨h.1.cause k src, h.2.cause k src⟩
  list _ _ _ _ _ _ h := h.of_obs (by simp)
  clock _ _ _ h := h.of_obs rfl

theorem causeInv_freeKept : FreeKept causeInv where
  rmu _ _ h := h.of_obs rfl
  offset _ _ _ h := h.of_obs rfl
  links _ _ _ h := h.of_obs rfl

theorem causeInv_sampleKept : SampleKept causeInv where
  __ := causeInv_freeKept
  index _ _ h := h.of_obs rfl
  now _ _ h := h.of_obs rfl
  formed h := h.of_eq (by simp) (.inl (by simp)) (by simp)

theorem causeInv_rowsKept : RowsKept causeInv where
  __ := causeInv_opsKept
  rules _ _ _ h := h.of_obs rfl
  write _ _ _ _ h := h.of_obs rfl
  taken _ _ _ _ _ _ _ _ h := h.of_obs (by simp)
  clear _ _ := .of_nil (by simp [clearCauses])
  configure _ _ := .of_nil rfl
  commit _ _ := causeInv_opsKept.commitOf (.of_nil (by simp [committing, Obs.atCommit, Obs.atRest]))
  takes c r _ h := causeInv_opsKept.report causeInv_freeKept c r h
  silent c _ h := causeInv_opsKept.silence causeInv_freeKept c h
  samples h := causeInv_opsKept.sample causeInv_sampleKept h
  events _ _ h := h.of_obs rfl
  subscribe _ _ _ h := h.of_obs rfl
  reset _ := .of_nil rfl

/-- Settles O59: the two laws are kept by every change that the commands are made of. -/
theorem causeLawsKept : Obligations.CauseLawsKept :=
  fun _ _ _ hc he hx => causeInv_rowsKept.exec (fun _ _ _ h => h.of_obs rfl) ⟨hc, he⟩ hx

/-! ### Laws 2 and 3: the released sides (R126) -/

/-- The law stands while the release conditions of no side fall and no side is newly RELEASED. -/
theorem doorLaw.of_le {s t : State} (h : doorLaw s)
    (hm : ∀ c side, s.mayRelease c side = true → t.mayRelease c side = true) (hd : NoNewRelease s.dru t.dru) :
    doorLaw t :=
  fun c side hr => hm c side (h c side (hd c side hr))

theorem NoNewRelease.of_eq {d d' : PerCar (PerSide DoorRecord)} (h : d' = d) : NoNewRelease d d' :=
  fun _ _ hr => h ▸ hr

/-- The law stands while the blocks that it reads stay. -/
theorem doorLaw.of_eq {s t : State} (h : doorLaw s) (ht : t.tsq = s.tsq) (hl : t.lts = s.lts) (hr : t.rmu = s.rmu)
    (hc : t.cpt = s.cpt) (hb : t.obs.brakes = s.obs.brakes) (hk : t.lpu.carLinks = s.lpu.carLinks)
    (hd : t.dru = s.dru) : doorLaw t :=
  h.of_le (fun c side hm => by rwa [mayRelease_congr ht hl hr hc hb hk]) (.of_eq hd)

/-- The law stands, whatever the position and the tables, while the line is not STOPPED. -/
theorem doorLaw.of_not_stopped {s t : State} (h : doorLaw s) (hs : s.tsq.state ≠ .stopped)
    (hd : NoNewRelease s.dru t.dru) : doorLaw t :=
  h.of_le (fun c side hm => by simp [mayRelease_not_stopped hs c side] at hm) hd

/-- A test moment leaves no side RELEASED whose conditions do not hold (R127, R128). -/
theorem doorLaw_testDoors (s : State) : doorLaw (testDoors s) := by
  intro c side hr
  rw [testDoors_side, testSide] at hr
  rw [testDoors_mayRelease]
  by_contra hm
  rw [if_neg hm] at hr
  split at hr
  · cases hr
  next hn => exact hn hr

/-- The items that the release conditions read, one by one (R126). -/
theorem mayRelease_of_items {s t : State} (ht : t.tsq.state = s.tsq.state) (hg : t.tsq.target = s.tsq.target)
    (hl : t.lts = s.lts) (hx : t.rmu.x2 = s.rmu.x2 ∧ t.rmu.known = s.rmu.known)
    (ho : ∀ c, (t.cpt.cars.get c).offset = (s.cpt.cars.get c).offset)
    (hb : (t.obs.brakes.get .sbk).command = (s.obs.brakes.get .sbk).command ∧
      (t.obs.brakes.get .sbk).proof = (s.obs.brakes.get .sbk).proof)
    (hk : ∀ c, (s.lpu.carLinks.get c).up = true → (t.lpu.carLinks.get c).up = true) (c : Car) (side : Side)
    (h : s.mayRelease c side = true) : t.mayRelease c side = true := by
  have ha : ∀ k, t.aligned c k = s.aligned c k := by
    have hoc := ho c
    intro k
    cases c <;> simp only [PerCar.get] at hoc <;>
      simp [State.aligned, State.stopError, State.estimate, State.xs, Rmu.xsMm, Rmu.xsUm, hl, hx, hoc]
  simp only [State.mayRelease, Bool.and_eq_true] at h ⊢
  obtain ⟨⟨⟨hst, hstop⟩, hsbk⟩, hup⟩ := h
  refine ⟨⟨⟨by rwa [ht], ?_⟩, ?_⟩, hk c hup⟩
  · rw [hg, hl]
    cases hs : s.tsq.target <;> simp_all
  · simpa only [State.provenAs, hb] using hsbk

/-- A change of state ends in a test moment (R100, R127). -/
theorem doorLaw_changeTrip {new : TripState} (step : Option Step) {s : State} (h : s.tsq.state ≠ new) :
    doorLaw (changeTrip new step s) := by
  have ht := doorLaw_testDoors (obsOnTrip new (recordTrip new step s))
  unfold changeTrip
  rw [if_neg h]
  refine ht.of_le (mayRelease_of_items ?_ ?_ ?_ ?_ ?_ ?_ ?_) (.of_eq ?_)
  · simp
  · simp
  · simp
  · simp
  · simp
  · simp
  · have hk := (sansEvents_eq (bcuOnTrip_ports new (testDoors (obsOnTrip new (recordTrip new step s))))).1
    simp [hk]
  · simp

theorem doorLaw.changeTrip {s : State} (h : doorLaw s) (new : TripState) (step : Option Step) :
    doorLaw (changeTrip new step s) := by
  by_cases hs : s.tsq.state = new
  · rwa [changeTrip_same step hs]
  · exact doorLaw_changeTrip step hs

@[simp] theorem raiseOn_carLinks (scope : PortId → Bool) (e : EventKind) (s : State) :
    (raiseOn scope e s).lpu.carLinks = s.lpu.carLinks := by
  simp [raiseOn]

/-- A change of SBK's command or proof is a test moment; any other change of a brake leaves the conditions (R127). -/
theorem doorLaw.setBrake {s : State} (h : doorLaw s) (b : Brake) (r : BrakeRecord) : doorLaw (setBrake b r s) := by
  unfold Machine.setBrake
  dsimp only
  split
  · exact doorLaw_testDoors _
  next hn =>
    refine h.of_le (mayRelease_of_items rfl rfl rfl ⟨rfl, rfl⟩ (fun _ => rfl) ?_ (fun _ h => h)) (.of_eq rfl)
    cases b with
    | sbk => simpa [PerBrake.get, PerBrake.set] using hn
    | ebk => exact ⟨rfl, rfl⟩

theorem doorLaw_causeKept : CauseKept doorLaw where
  raise _ _ _ h := h.of_eq (by simp) (by simp) (by simp) (by simp) (by simp) (by simp) (by simp)
  request h := h.of_le (mayRelease_of_items rfl rfl rfl ⟨rfl, rfl⟩ (fun _ => rfl) ⟨rfl, rfl⟩ (fun _ h => h)) (.of_eq rfl)
  srg _ _ _ h := h.of_eq rfl rfl rfl rfl rfl rfl rfl
  obs _ _ hb _ h := h.of_eq rfl rfl rfl rfl hb rfl rfl
  brake b r _ h := h.setBrake b r
  cpt _ _ ho h := h.of_le (mayRelease_of_items rfl rfl rfl ⟨rfl, rfl⟩ ho ⟨rfl, rfl⟩ (fun _ h => h)) (.of_eq rfl)
  tripped h := h.changeTrip _ _

theorem doorLaw_opsKept : OpsKept doorLaw where
  raise := doorLaw_causeKept.raise
  tsq _ s ht h := by
    rcases ht.target with hg | hs
    · exact h.of_le (mayRelease_of_items ht.state hg rfl ⟨rfl, rfl⟩ (fun _ => rfl) ⟨rfl, rfl⟩ (fun _ h => h)) (.of_eq rfl)
    · exact h.of_not_stopped hs (.of_eq rfl)
  drive _ h := h.of_le (mayRelease_of_items rfl rfl rfl ⟨rfl, rfl⟩ (fun _ => rfl) ⟨rfl, rfl⟩ (fun _ h => h)) (.of_eq rfl)
  srg := doorLaw_causeKept.srg
  obs _ _ ho h := h.of_le (mayRelease_of_items rfl rfl rfl ⟨rfl, rfl⟩ (fun _ => rfl) (ho.brakes .sbk) (fun _ h => h))
    (.of_eq rfl)
  brake b r _ _ h := h.setBrake b r
  cpt := doorLaw_causeKept.cpt
  rmu _ _ hx h := h.of_le (mayRelease_of_items rfl rfl rfl hx (fun _ => rfl) ⟨rfl, rfl⟩ (fun _ h => h)) (.of_eq rfl)
  dru _ s hd h := h.of_le (fun c side => by
    rw [mayRelease_congr (s := s) (t := s.updDru _) rfl rfl rfl rfl rfl rfl]; exact id) hd
  bcu _ _ _ h := h.of_eq rfl rfl rfl rfl rfl rfl rfl
  doors _ := doorLaw_testDoors _
  links _ _ _ hk h := h.of_le (mayRelease_of_items rfl rfl rfl ⟨rfl, rfl⟩ (fun _ => rfl) ⟨rfl, rfl⟩ hk) (.of_eq rfl)
  trip _ _ _ h := h.changeTrip _ _
  depart f g s hs hf _ := by
    apply doorLaw_changeTrip
    obtain ⟨hstate, -⟩ := hf s.tsq
    rcases hs with hs | hs <;> simp [hstate, hs]
  cause k src _ h := doorLaw_causeKept.cause k src h
  list k src s _ _ _ h := by
    have hk := (sansEvents_eq (listHalt_ports k src s)).1
    refine h.of_le (mayRelease_of_items ?_ ?_ ?_ ?_ ?_ ?_ ?_) (.of_eq ?_) <;> simp [hk]
  clock _ _ _ h := h.of_eq rfl rfl rfl rfl rfl rfl rfl

theorem doorLaw_rowsKept : RowsKept doorLaw where
  __ := doorLaw_opsKept
  rules f s hx h := by
    obtain ⟨x, hx⟩ := hx
    refine h.of_le (fun c side hm => ?_) (.of_eq rfl)
    rw [State.updLts, hx]
    exact hm
  write _ _ hs _ h := h.of_not_stopped (by simp [hs]) (.of_eq rfl)
  taken st g n ser now s _ _ h := by
    have hk := (sansEvents_eq (setBatch_ports st ((s.bcu.batches.get st).taken g n ser now) s)).1
    exact h.of_eq (by simp) (by simp) (by simp) (by simp) (by simp) hk (by simp)
  clear hs h := doorLaw_opsKept.clear doorLaw_causeKept hs h
  configure {s} hs h := by
    have ht : doorLaw (changeTrip .configuring none s) := h.changeTrip _ _
    exact ht.of_not_stopped (by simp) (.of_eq rfl)
  commit {s} hs _ := doorLaw_opsKept.commitOf (doorLaw_changeTrip none (by simp [committing, Tsq.atRest, hs]))
  takes _ _ _ _ := doorLaw_testDoors _
  silent _ _ _ := doorLaw_opsKept.abandonedEarly (doorLaw_testDoors _)
  samples _ := doorLaw_testDoors _
  events _ _ h := h.of_eq rfl rfl rfl rfl rfl rfl rfl
  subscribe _ _ _ h := h.of_eq rfl rfl rfl rfl rfl rfl rfl
  reset _ := fun c side hr => by cases c <;> cases side <;> cases hr

/-- No side is RELEASED under drive enable: the line is STOPPED, where no drive request stands (Law 2). -/
theorem shutLaw_of_laws {s : State} (hd : doorLaw s) (hi : driveInv s) : shutLaw s := by
  intro c side hr
  have hst : s.tsq.state = .stopped := by
    by_contra hn
    have := hd c side hr
    simp [mayRelease_not_stopped hn c side] at this
  have hreq := hi.no_request (not_moving_of_rest (by simp [hst, TripState.moves])) (by simp [hst])
  simp [State.den, hreq]

/-- Settles O56: the door law is kept by every change that the commands are made of or tested anew at its end, and Law 2
follows from it with the laws of the drive request. -/
theorem doorLawsKept : Obligations.DoorLawsKept := by
  intro c s t hd hx
  have ht := doorLaw_rowsKept.exec (fun _ _ _ h => h.of_eq rfl rfl rfl rfl rfl rfl rfl) hd hx
  exact ⟨ht, fun htrip hreq => shutLaw_of_laws ht (driveInv_kept ⟨htrip, hreq⟩ hx)⟩

end Sys2Proof.Machine
end

section
/-! The event sets (R182, R183) and the receive queues (R175, R177). No owner touches a queue or a transmitter, so the
queues' law is a matter of the port layer alone: the taking, the beginning of a reply and the taking of the next. -/

namespace Sys2Proof.Machine

/-! ### Predicates of the ports' records that raisings keep -/

/-- What a predicate of the ports' records survives that says no more than raisings keep. -/
structure PortsKept (P : State → Prop) : Prop where
  raise : ∀ scope e {s}, P s → P (raiseOn scope e s)
  ports : ∀ {s t : State}, P s → t.lpu.ports = s.lpu.ports → P t

namespace PortsKept

variable {P : State → Prop} (hP : PortsKept P)
include hP

theorem testDoors {s : State} (h : P s) : P (testDoors s) := by
  have hu : P (s.updDru (fun _ => testedDoors s)) := hP.ports h rfl
  unfold Machine.testDoors
  dsimp only
  split
  · exact hP.raise _ _ hu
  · exact hu

theorem setBatch {s : State} (h : P s) (st : Station) (b : Batch) : P (setBatch st b s) := by
  have hu : P (s.updBcu (fun u => { u with batches := u.batches.set st b })) := hP.ports h rfl
  unfold Machine.setBatch
  dsimp only
  split
  · exact hu
  · exact hP.raise _ _ hu

theorem setBrake {s : State} (h : P s) (b : Brake) (r : BrakeRecord) : P (setBrake b r s) := by
  have hu : P (s.updObs (fun o => { o with brakes := o.brakes.set b r })) := hP.ports h rfl
  unfold Machine.setBrake
  dsimp only
  split
  · exact hP.testDoors hu
  · exact hu

theorem changeTrip {s : State} (h : P s) (new : TripState) (step : Option Step) : P (changeTrip new step s) := by
  have ht : P (Machine.testDoors (obsOnTrip new (recordTrip new step s))) := by
    refine hP.testDoors (hP.ports (s := recordTrip new step s) ?_ (by simp))
    exact hP.raise _ _ (hP.ports h rfl)
  have hb : P (bcuOnTrip new (Machine.testDoors (obsOnTrip new (recordTrip new step s)))) := by
    unfold bcuOnTrip
    split
    · exact hP.setBatch (hP.setBatch ht _ _) _ _
    · exact ht
  unfold Machine.changeTrip
  split
  · exact h
  · exact hP.ports hb (by simp)

theorem causeKept : CauseKept P where
  raise := hP.raise
  request h := hP.ports h rfl
  srg _ _ _ h := hP.ports h rfl
  obs _ _ _ _ h := hP.ports h rfl
  brake b r _ h := hP.setBrake h b r
  cpt _ _ _ h := hP.ports h rfl
  tripped h := hP.changeTrip h _ _

theorem listHalt {s : State} (h : P s) (k : Nat) (src : HaltSource) : P (listHalt k src s) := by
  unfold Machine.listHalt
  split
  · exact hP.ports h rfl
  · exact hP.raise _ _ (hP.ports h rfl)

theorem opsKept : OpsKept P where
  raise := hP.raise
  tsq _ _ _ h := hP.ports h rfl
  drive _ h := hP.ports h rfl
  srg _ _ _ h := hP.ports h rfl
  obs _ _ _ h := hP.ports h rfl
  brake b r _ _ h := hP.setBrake h b r
  cpt _ _ _ h := hP.ports h rfl
  rmu _ _ _ h := hP.ports h rfl
  dru _ _ _ h := hP.ports h rfl
  bcu _ _ _ h := hP.ports h rfl
  doors h := hP.testDoors h
  links _ _ hp _ h := hP.ports h hp
  trip _ _ _ h := hP.changeTrip h _ _
  depart _ _ _ _ _ h := by
    refine hP.changeTrip ?_ _ _
    exact hP.ports h rfl
  cause k src _ h := hP.causeKept.cause k src h
  list k src _ _ _ _ h := hP.listHalt h k src
  clock _ _ _ h := hP.ports h rfl

theorem freeKept : FreeKept P where
  rmu _ _ h := hP.ports h rfl
  offset _ _ _ h := hP.ports h rfl
  links _ _ hp h := hP.ports h hp

theorem sampleKept : SampleKept P where
  __ := hP.freeKept
  index _ _ h := hP.ports h rfl
  now _ _ h := hP.ports h rfl
  formed h := hP.ports h (by simp)

end PortsKept

/-! ### The event sets (R182, R183) -/

theorem eventLaw.of_ports {s t : State} (h : eventLaw s) (hp : t.lpu.ports = s.lpu.ports) : eventLaw t := by
  intro p
  rw [hp]
  exact h p

/-- Kinds of the subscription joined to a set of such kinds. -/
theorem or_and_subs {a b x : Half} (h : a &&& b = a) : (a ||| (x &&& b)) &&& b = a ||| (x &&& b) := by
  apply BitVec.eq_of_getLsbD_eq
  intro i hi
  have hi' := congrArg (fun v => v.getLsbD i) h
  simp only [BitVec.getLsbD_and, BitVec.getLsbD_or] at hi' ⊢
  cases ha : a.getLsbD i <;> cases hb : b.getLsbD i <;> simp_all

theorem eventLaw.raise {s : State} (h : eventLaw s) (scope : PortId → Bool) (e : EventKind) :
    eventLaw (raiseOn scope e s) := by
  intro p
  rw [raiseOn_port]
  split
  · rw [record_eq]
    exact or_and_subs (h p)
  · exact h p

theorem eventLaw_portsKept : PortsKept eventLaw where
  raise scope e _ h := h.raise scope e
  ports h hp := h.of_ports hp

/-- A port whose record keeps the law leaves it to every port. -/
theorem eventLaw.updPort {s : State} (h : eventLaw s) (p : PortId) (f : PortRecord → PortRecord)
    (hf : (f (s.lpu.ports.get p)).events &&& (f (s.lpu.ports.get p)).subs = (f (s.lpu.ports.get p)).events) :
    eventLaw (s.updPort p f) := by
  intro q
  rw [updPort_port]
  split
  · exact hf
  · exact h q

theorem eventLaw_ownersKept : OwnersKept eventLaw where
  __ := eventLaw_portsKept.opsKept
  rules _ _ _ h := h.of_ports rfl
  write _ _ _ _ h := h.of_ports rfl
  taken _ _ _ _ _ _ _ _ h := eventLaw_portsKept.setBatch h _ _
  clear hs h := eventLaw_portsKept.opsKept.clear eventLaw_portsKept.causeKept hs h
  configure _ h := (eventLaw_portsKept.changeTrip h .configuring none).of_ports rfl
  commit _ h := by
    refine eventLaw_portsKept.opsKept.commitOf (eventLaw_portsKept.changeTrip ?_ _ _)
    exact h.of_ports rfl
  takes c r _ h := eventLaw_portsKept.opsKept.report eventLaw_portsKept.freeKept c r h
  silent c _ h := eventLaw_portsKept.opsKept.silence eventLaw_portsKept.freeKept c h
  events p _ h := h.updPort p _ (BitVec.zero_and)
  subscribe p k _ h := h.updPort p _ (by simp [BitVec.and_assoc])

/-! ### The ports' own records -/

/-- The receivers, queues and transmitters of two states are the same. -/
def SamePorts (s t : State) : Prop :=
  ∀ p, (t.lpu.ports.get p).rx = (s.lpu.ports.get p).rx ∧ (t.lpu.ports.get p).lineLow = (s.lpu.ports.get p).lineLow ∧
    (t.lpu.ports.get p).queue = (s.lpu.ports.get p).queue ∧ (t.lpu.ports.get p).tx = (s.lpu.ports.get p).tx

theorem SamePorts.refl (s : State) : SamePorts s s := fun _ => ⟨rfl, rfl, rfl, rfl⟩

theorem SamePorts.trans {s t u : State} (h : SamePorts s t) (h' : SamePorts t u) : SamePorts s u := by
  intro p
  obtain ⟨h1, h2, h3, h4⟩ := h p
  obtain ⟨k1, k2, k3, k4⟩ := h' p
  exact ⟨k1.trans h1, k2.trans h2, k3.trans h3, k4.trans h4⟩

theorem samePorts_of_sansEvents {s t : State} (h : t.lpu.sansEvents = s.lpu.sansEvents) : SamePorts s t := by
  intro p
  obtain ⟨hrx, hlow, hq, htx, -⟩ := (sansEvents_eq h).2.2 p
  exact ⟨hrx, hlow, hq, htx⟩

theorem samePorts_of_ports {s t : State} (h : t.lpu.ports = s.lpu.ports) : SamePorts s t := by
  intro p
  rw [h]
  exact ⟨rfl, rfl, rfl, rfl⟩

/-- An update of one port that leaves its receiver, queue and transmitter. -/
theorem samePorts_updPort (s : State) (p : PortId) (f : PortRecord → PortRecord)
    (hf : ∀ r, (f r).rx = r.rx ∧ (f r).lineLow = r.lineLow ∧ (f r).queue = r.queue ∧ (f r).tx = r.tx) :
    SamePorts s (s.updPort p f) := by
  intro q
  rw [updPort_port]
  split
  next hq => subst hq; exact hf _
  next => exact ⟨rfl, rfl, rfl, rfl⟩

section
variable (v : State)

theorem samePorts_causeKept : CauseKept (SamePorts v) where
  raise _ _ _ h := h.trans (samePorts_of_sansEvents (by simp))
  request h := h
  srg _ _ _ h := h
  obs _ _ _ _ h := h
  brake _ _ _ h := h.trans (samePorts_of_sansEvents (by simp))
  cpt _ _ _ h := h
  tripped h := h.trans (samePorts_of_sansEvents (by simp))

theorem samePorts_opsKept : OpsKept (SamePorts v) where
  raise := (samePorts_causeKept v).raise
  tsq _ _ _ h := h
  drive _ h := h
  srg _ _ _ h := h
  obs _ _ _ h := h
  brake _ _ _ _ h := h.trans (samePorts_of_sansEvents (by simp))
  cpt _ _ _ h := h
  rmu _ _ _ h := h
  dru _ _ _ h := h
  bcu _ _ _ h := h
  doors h := h.trans (samePorts_of_sansEvents (by simp))
  links _ _ hp _ h := h.trans (samePorts_of_ports hp)
  trip _ _ _ h := h.trans (samePorts_of_sansEvents (by simp))
  depart _ _ _ _ _ h := h.trans (samePorts_of_sansEvents (by simp))
  cause _ _ _ h := h.trans (samePorts_of_sansEvents (by simp))
  list _ _ _ _ _ _ h := h.trans (samePorts_of_sansEvents (by simp))
  clock _ _ _ h := h

theorem samePorts_freeKept : FreeKept (SamePorts v) where
  rmu _ _ h := h
  offset _ _ _ h := h
  links _ _ hp h := h.trans (samePorts_of_ports hp)

theorem samePorts_sampleKept : SampleKept (SamePorts v) where
  __ := samePorts_freeKept v
  index _ _ h := h
  now _ _ h := h
  formed h := h.trans (samePorts_of_ports (by simp))

/-- No owner of a request touches a receiver, a queue or a transmitter. -/
theorem samePorts_ownersKept : OwnersKept (SamePorts v) where
  __ := samePorts_opsKept v
  rules _ _ _ h := h
  write _ _ _ _ h := h
  taken _ _ _ _ _ _ _ _ h := h.trans (samePorts_of_sansEvents (by simp))
  clear hs h := (samePorts_opsKept v).clear (samePorts_causeKept v) hs h
  configure _ h := h.trans (samePorts_of_sansEvents (by simp [enterConfiguring]))
  commit _ h := (samePorts_opsKept v).commitOf (h.trans (samePorts_of_sansEvents (by simp [committing])))
  takes c r _ h := (samePorts_opsKept v).report (samePorts_freeKept v) c r h
  silent c _ h := (samePorts_opsKept v).silence (samePorts_freeKept v) c h
  events p _ h := h.trans (samePorts_updPort _ p _ fun _ => ⟨rfl, rfl, rfl, rfl⟩)
  subscribe p _ _ h := h.trans (samePorts_updPort _ p _ fun _ => ⟨rfl, rfl, rfl, rfl⟩)

end

/-- The taking of a frame touches no receiver, no queue and no transmitter (R176). -/
theorem samePorts_takeTested (p : PortId) (kind : Nat) (r : Option Request) (s : State) :
    SamePorts s (takeTested p kind r s).2 := by
  have hh : SamePorts s (portHeard p s) := (samePorts_opsKept s).portHeard p (.refl s)
  unfold takeTested
  dsimp only
  split
  · exact hh
  · split
    · exact hh
    · split
      · exact hh
      · split
        · exact (samePorts_ownersKept s).owner _ _ hh
        · exact hh

/-! ### The shape of a queue (R175, R177) -/

/-- At most two entries wait, and none behind the oldest has been taken. -/
def PortRecord.lined (r : PortRecord) : Prop :=
  r.queue.length ≤ 2 ∧ ∀ e rest, r.queue = e :: rest → ∀ x ∈ rest, x.reply = none

/-- The oldest entry has been taken. -/
def PortRecord.headTaken (r : PortRecord) : Prop := ∀ e rest, r.queue = e :: rest → e.reply ≠ none

/-- Nothing waits while the transmitter is idle. -/
def PortRecord.quick (r : PortRecord) : Prop := r.tx = none → r.queue = []

/-- What the law of the queues says of one port. -/
def PortRecord.shaped (r : PortRecord) : Prop := r.lined ∧ r.headTaken ∧ r.quick

theorem queueLaw_iff (s : State) : queueLaw s ↔ ∀ p, (s.lpu.ports.get p).shaped := by
  constructor
  · intro h p
    obtain ⟨hlen, hq, htx⟩ := h p
    exact ⟨⟨hlen, fun e rest he => (hq e rest he).2⟩, fun e rest he => (hq e rest he).1, htx⟩
  · intro h p
    obtain ⟨⟨hlen, hrest⟩, hhead, htx⟩ := h p
    exact ⟨hlen, fun e rest he => ⟨hhead e rest he, hrest e rest he⟩, htx⟩

/-- A property of one port's record, every other port being shaped. -/
def AtPort (p : PortId) (R : PortRecord → Prop) (s : State) : Prop :=
  R (s.lpu.ports.get p) ∧ ∀ q, q ≠ p → (s.lpu.ports.get q).shaped

theorem queueLaw_iff_atPort (p : PortId) (s : State) : queueLaw s ↔ AtPort p PortRecord.shaped s := by
  rw [queueLaw_iff]
  refine ⟨fun h => ⟨h p, fun q _ => h q⟩, fun h q => ?_⟩
  by_cases hq : q = p
  · exact hq ▸ h.1
  · exact h.2 q hq

theorem AtPort.imp {p : PortId} {R T : PortRecord → Prop} {s : State} (h : AtPort p R s) (hi : ∀ r, R r → T r) :
    AtPort p T s := ⟨hi _ h.1, h.2⟩

theorem AtPort.updPort {p : PortId} {R T : PortRecord → Prop} {s : State} (h : AtPort p R s)
    (f : PortRecord → PortRecord) (hf : R (s.lpu.ports.get p) → T (f (s.lpu.ports.get p))) :
    AtPort p T (s.updPort p f) := by
  refine ⟨by simpa using hf h.1, fun q hq => ?_⟩
  rw [updPort_port, if_neg hq]
  exact h.2 q hq

/-- A record with the same queue and transmitter has the same shape. -/
theorem shaped_congr {r r' : PortRecord} (hq : r'.queue = r.queue) (ht : r'.tx = r.tx) (h : r.shaped) : r'.shaped := by
  simpa [PortRecord.shaped, PortRecord.lined, PortRecord.headTaken, PortRecord.quick, hq, ht] using h

theorem queueLaw.samePorts {s t : State} (h : queueLaw s) (hp : SamePorts s t) : queueLaw t := by
  rw [queueLaw_iff] at h ⊢
  intro p
  obtain ⟨-, -, hq, ht⟩ := hp p
  exact shaped_congr hq ht (h p)

/-- What is said of one port's queue and transmitter stands when both stay. -/
theorem AtPort.samePorts {p : PortId} {R : PortRecord → Prop} {s t : State} (h : AtPort p R s) (hp : SamePorts s t)
    (hR : ∀ r r' : PortRecord, r'.queue = r.queue → r'.tx = r.tx → R r → R r') : AtPort p R t := by
  refine ⟨?_, fun q hq => ?_⟩
  · obtain ⟨-, -, hq, ht⟩ := hp p
    exact hR _ _ hq ht h.1
  · obtain ⟨-, -, hq, ht⟩ := hp q
    exact shaped_congr hq ht (h.2 _ ‹_›)

/-- The oldest entry taken; what the transmitter has is as it was. -/
theorem takeOldest_atPort {p : PortId} {s : State} (R : PortRecord → Prop)
    (hR : ∀ r r' : PortRecord, (r'.queue = [] ↔ r.queue = []) → r'.tx = r.tx → R r → R r')
    (h : AtPort p (fun r => r.lined ∧ R r) s) :
    AtPort p (fun r => r.lined ∧ r.headTaken ∧ R r) (takeOldest p s) := by
  unfold takeOldest
  split
  next kind payload rest hq =>
    have hx := samePorts_takeTested p kind.toNat (parseRequest kind.toNat payload) s
    dsimp only
    have ha : AtPort p (fun r => (r.lined ∧ R r) ∧ r.queue = ⟨kind, payload, none⟩ :: rest)
        (takeFrame p kind payload s).2 := by
      refine AtPort.samePorts ⟨⟨h.1, hq⟩, h.2⟩ hx ?_
      intro r r' he ht hr
      refine ⟨⟨?_, hR r r' (by rw [he]) ht hr.1.2⟩, he.trans hr.2⟩
      simpa [PortRecord.lined, he] using hr.1.1
    refine ha.updPort _ fun hr => ?_
    obtain ⟨⟨⟨hlen, hrest⟩, hRr⟩, hqr⟩ := hr
    rw [hqr] at hlen
    refine ⟨⟨by simpa [hqr] using hlen, ?_⟩, ?_, ?_⟩
    · intro e l he x hxl
      simp only [hqr, List.tail_cons, List.cons.injEq] at he
      exact hrest _ _ hqr x (he.2 ▸ hxl)
    · intro e l he
      simp only [List.cons.injEq] at he
      rw [← he.1]
      simp
    · exact hR ((takeFrame p kind payload s).2.lpu.ports.get p) _ (by simp [hqr]) rfl hRr
  next hno =>
    refine ⟨⟨h.1.1, ?_, h.1.2⟩, h.2⟩
    intro e rest he hn
    obtain ⟨kind, payload, reply⟩ := e
    subst hn
    exact hno _ _ _ he

/-- A reply that begins leaves the queues (R177, R129). -/
theorem sendReply_ports (p : PortId) (kind : Byte) (b : ReplyBody) (s : State) :
    ∃ f : ReplyFrame, (sendReply p kind b s).lpu = (s.updPort p (fun r => { r with tx := some f })).lpu := by
  unfold sendReply
  split
  · exact ⟨_, rfl⟩
  next c => exact ⟨⟨replyKind kind, carOrderPayload c s⟩, rfl⟩

theorem AtPort.of_lpu {p : PortId} {R : PortRecord → Prop} {s t : State} (h : AtPort p R s) (hl : t.lpu = s.lpu) :
    AtPort p R t := by
  unfold AtPort
  rw [hl]
  exact h

/-- The oldest reply begun on an idle transmitter: then the entry behind it is the oldest, and nothing waits while the
transmitter is idle. -/
theorem beginReply_atPort {p : PortId} {s : State} (h : AtPort p (fun r => r.lined ∧ r.headTaken) s) :
    AtPort p (fun r => r.lined ∧ r.quick) (beginReply p s) := by
  unfold beginReply
  split
  next kind payload body rest htx hq =>
    obtain ⟨f, hf⟩ := sendReply_ports p kind body (s.updPort p (fun r => { r with queue := rest }))
    refine AtPort.of_lpu ?_ hf
    rw [updPort_updPort]
    refine h.updPort _ fun hr => ?_
    obtain ⟨⟨hlen, hrest⟩, -⟩ := hr
    rw [hq, List.length_cons] at hlen
    refine ⟨⟨by simp only; omega, ?_⟩, fun hn => by cases hn⟩
    intro e l he x hxl
    exact hrest _ _ hq x (by rw [show rest = e :: l from he]; exact List.mem_cons_of_mem _ hxl)
  next hno =>
    refine ⟨⟨h.1.1, fun htx => ?_⟩, h.2⟩
    cases hq : (s.lpu.ports.get p).queue with
    | nil => rfl
    | cons e rest =>
      obtain ⟨kind, payload, reply⟩ := e
      cases reply with
      | none => exact absurd rfl (h.1.2 _ _ hq)
      | some body => exact absurd hq (hno _ _ _ _ htx)

/-- Whatever waits in line, a port that is served comes to the shape of the law (R175, R177). -/
theorem servePort_queueLaw {p : PortId} {s : State} (h : AtPort p PortRecord.lined s) : queueLaw (servePort p s) := by
  rw [queueLaw_iff_atPort p]
  have h1 := takeOldest_atPort (fun _ => True) (fun _ _ _ _ _ => trivial) (h.imp fun _ hr => ⟨hr, trivial⟩)
  have h2 := beginReply_atPort (h1.imp fun _ hr => ⟨hr.1, hr.2.1⟩)
  exact takeOldest_atPort PortRecord.quick (fun r r' hq ht hr htx => hq.mpr (hr (ht ▸ htx))) h2

theorem queueLaw.endReply {s : State} (h : queueLaw s) (p : PortId) : queueLaw (endReply p s) := by
  refine servePort_queueLaw (AtPort.updPort ((queueLaw_iff_atPort p s).mp h) _ fun hr => ?_)
  exact hr.1

theorem queueLaw.joinFrame {s : State} (h : queueLaw s) (p : PortId) (kind : Byte) (payload : List Byte) :
    queueLaw (joinFrame p kind payload s) := by
  unfold Machine.joinFrame
  split
  next hlt =>
    refine servePort_queueLaw (AtPort.updPort ((queueLaw_iff_atPort p s).mp h) _ fun hr => ?_)
    obtain ⟨⟨-, hrest⟩, -⟩ := hr
    have hd : Config.queueDepth = 2 := rfl
    refine ⟨by simp only [List.length_append, List.length_singleton]; omega, ?_⟩
    intro e l he x hx
    simp only at he
    cases hq : (s.lpu.ports.get p).queue with
    | nil =>
      rw [hq, List.nil_append, List.cons.injEq] at he
      rw [← he.2] at hx
      cases hx
    | cons e' rest =>
      rw [hq, List.cons_append, List.cons.injEq] at he
      rw [← he.2, List.mem_append, List.mem_singleton] at hx
      rcases hx with hx | rfl
      · exact hrest _ _ hq x hx
      · rfl
  next => exact h

theorem queueLaw.updPort {s : State} (h : queueLaw s) (p : PortId) (f : PortRecord → PortRecord)
    (hf : (s.lpu.ports.get p).shaped → (f (s.lpu.ports.get p)).shaped) : queueLaw (s.updPort p f) :=
  (queueLaw_iff_atPort p _).mpr (AtPort.updPort ((queueLaw_iff_atPort p s).mp h) f hf)

/-- A receiver's own update leaves the queues. -/
theorem queueLaw.receiver {s : State} (h : queueLaw s) (p : PortId) (f : PortRecord → PortRecord)
    (hf : ∀ r, (f r).queue = r.queue ∧ (f r).tx = r.tx) : queueLaw (s.updPort p f) :=
  h.updPort p f (shaped_congr (hf _).1 (hf _).2)

theorem queueLaw.hunt {s : State} (h : queueLaw s) (p : PortId) : queueLaw (hunt p s) :=
  h.receiver p _ fun _ => ⟨rfl, rfl⟩

theorem queueLaw.receive {s : State} (h : queueLaw s) (p : PortId) (b : Byte) : queueLaw (receive p b s) := by
  unfold Machine.receive
  dsimp only
  split
  · exact h
  · split
    · split
      · exact h.receiver p _ fun _ => ⟨rfl, rfl⟩
      · exact h
    · split
      · exact h.hunt p
      · exact h.receiver p _ fun _ => ⟨rfl, rfl⟩
    · split
      · unfold completeFrame
        dsimp only
        split
        · split
          · exact (h.hunt p).joinFrame _ _ _
          · exact h.hunt p
        · exact h.hunt p
      · exact h.receiver p _ fun _ => ⟨rfl, rfl⟩

/-- A request row ends with its reply being sent, behind which the queue may wait (R177). -/
theorem queueLaw.takeRow {s : State} (h : queueLaw s) (p : PortId) (r : Request) : queueLaw (takeRow p r s) := by
  have hf : queueLaw (finishReplies p s) := ((h.endReply p).endReply p).endReply p
  have ht := hf.samePorts (samePorts_takeTested p r.kind (some r) (finishReplies p s))
  obtain ⟨f, hsend⟩ := sendReply_ports p (BitVec.ofNat 8 r.kind) (takeTested p r.kind (some r) (finishReplies p s)).1
    (takeTested p r.kind (some r) (finishReplies p s)).2
  rw [queueLaw_iff_atPort p]
  refine AtPort.of_lpu ?_ hsend
  exact AtPort.updPort ((queueLaw_iff_atPort p _).mp ht) _ fun hr => ⟨hr.1, hr.2.1, fun hn => by cases hn⟩

/-- BREAK keeps the oldest entry, which is taken (R174). -/
theorem queueLaw.break {s : State} (h : queueLaw s) (p : PortId) :
    queueLaw (s.updPort p (fun r =>
      { r with rx := .hunting, lineLow := true, queue := r.queue.filter (fun e => e.reply.isSome) })) := by
  refine h.updPort p _ fun hr => ?_
  obtain ⟨⟨hlen, hrest⟩, hhead, hquick⟩ := hr
  have hq : (s.lpu.ports.get p).queue.filter (fun e => e.reply.isSome) = (s.lpu.ports.get p).queue.take 1 := by
    cases hq : (s.lpu.ports.get p).queue with
    | nil => rfl
    | cons e rest =>
      have he : e.reply.isSome = true := Option.isSome_iff_ne_none.mpr (hhead e rest hq)
      have hr : rest.filter (fun e => e.reply.isSome) = [] := by
        simpa using hrest e rest hq
      simp [he, hr]
  unfold PortRecord.shaped PortRecord.lined PortRecord.headTaken PortRecord.quick
  simp only [hq]
  cases hc : (s.lpu.ports.get p).queue with
  | nil => simp
  | cons e rest =>
    refine ⟨⟨by simp, ?_⟩, ?_, fun ht => ?_⟩
    · intro e' l he x hx
      simp only [List.take_succ_cons, List.take_zero, List.cons.injEq] at he
      rw [← he.2] at hx
      cases hx
    · intro e' l he
      simp only [List.take_succ_cons, List.take_zero, List.cons.injEq] at he
      exact he.1 ▸ hhead e rest hc
    · rw [hquick ht] at hc
      cases hc

/-- The row of a request is that request, taken on its port (assumption 3). -/
theorem exec_requestOf {c : Instr} {p : PortId} {r : Request} (h : requestOf c = some (p, r)) (s : State) :
    exec c s = .next (takeRow p r s) := by
  cases c <;> simp only [requestOf, Option.some.injEq, Prod.mk.injEq, reduceCtorEq] at h <;>
    (obtain ⟨rfl, rfl⟩ := h; rfl)

/-- The rows of the ports keep the law of the queues. -/
theorem queueLaw_portRow {c : Instr} {s t : State} (hr : portRow c = true) (h : queueLaw s)
    (hx : exec c s = .next t) : queueLaw t := by
  cases hc : requestOf c with
  | some x =>
    rw [exec_requestOf hc, Host.Outcome.next.injEq] at hx
    exact hx ▸ h.takeRow _ _
  | none =>
    cases c with
    | frameComplete p b =>
      cases hx
      split
      · exact h.receive p b
      · exact h
    | frameGap p => cases hx; exact h.hunt p
    | framingError p => cases hx; exact h.hunt p
    | breakDetected p => cases hx; exact h.break p
    | replyEnd p => cases hx; exact h.endReply p
    | receivedByte p b => cases hx; exact h.receive p b
    | lineReturnedHigh p => cases hx; exact h.receiver p _ fun _ => ⟨rfl, rfl⟩
    | _ => simp [portRow, hc] at hr

/-! ### The port layer keeps the event sets -/

/-- A port's update that leaves its event set and its subscription. -/
theorem eventLaw.receiver {s : State} (h : eventLaw s) (p : PortId) (f : PortRecord → PortRecord)
    (hf : ∀ r, (f r).events = r.events ∧ (f r).subs = r.subs) : eventLaw (s.updPort p f) := by
  refine h.updPort p f ?_
  rw [(hf _).1, (hf _).2]
  exact h p

theorem eventLaw.takeTested {s : State} (h : eventLaw s) (p : PortId) (kind : Nat) (r : Option Request) :
    eventLaw (takeTested p kind r s).2 := by
  have hh : eventLaw (portHeard p s) := eventLaw_portsKept.opsKept.portHeard p h
  unfold Machine.takeTested
  dsimp only
  split
  · exact hh
  · split
    · exact hh
    · split
      · exact hh
      · split
        · exact eventLaw_ownersKept.owner _ _ hh
        · exact hh

theorem eventLaw.sendReply {s : State} (h : eventLaw s) (p : PortId) (kind : Byte) (b : ReplyBody) :
    eventLaw (sendReply p kind b s) := by
  obtain ⟨f, hf⟩ := sendReply_ports p kind b s
  exact eventLaw.of_ports (h.receiver p (fun r => { r with tx := some f }) fun _ => ⟨rfl, rfl⟩) (by rw [hf])

theorem eventLaw.takeOldest {s : State} (h : eventLaw s) (p : PortId) : eventLaw (takeOldest p s) := by
  unfold Machine.takeOldest
  split
  · exact (h.takeTested p _ _).receiver p _ fun _ => ⟨rfl, rfl⟩
  · exact h

theorem eventLaw.beginReply {s : State} (h : eventLaw s) (p : PortId) : eventLaw (beginReply p s) := by
  unfold Machine.beginReply
  split
  · refine eventLaw.sendReply ?_ _ _ _
    exact h.receiver p _ fun _ => ⟨rfl, rfl⟩
  · exact h

theorem eventLaw.servePort {s : State} (h : eventLaw s) (p : PortId) : eventLaw (servePort p s) :=
  ((h.takeOldest p).beginReply p).takeOldest p

theorem eventLaw.endReply {s : State} (h : eventLaw s) (p : PortId) : eventLaw (endReply p s) := by
  refine eventLaw.servePort ?_ p
  exact h.receiver p _ fun _ => ⟨rfl, rfl⟩

theorem eventLaw.joinFrame {s : State} (h : eventLaw s) (p : PortId) (kind : Byte) (payload : List Byte) :
    eventLaw (joinFrame p kind payload s) := by
  unfold Machine.joinFrame
  split
  · refine eventLaw.servePort ?_ p
    exact h.receiver p _ fun _ => ⟨rfl, rfl⟩
  · exact h

theorem eventLaw.hunt {s : State} (h : eventLaw s) (p : PortId) : eventLaw (hunt p s) :=
  h.receiver p _ fun _ => ⟨rfl, rfl⟩

theorem eventLaw.receive {s : State} (h : eventLaw s) (p : PortId) (b : Byte) : eventLaw (receive p b s) := by
  unfold Machine.receive
  dsimp only
  split
  · exact h
  · split
    · split
      · exact h.receiver p _ fun _ => ⟨rfl, rfl⟩
      · exact h
    · split
      · exact h.hunt p
      · exact h.receiver p _ fun _ => ⟨rfl, rfl⟩
    · split
      · unfold completeFrame
        dsimp only
        split
        · split
          · exact (h.hunt p).joinFrame _ _ _
          · exact h.hunt p
        · exact h.hunt p
      · exact h.receiver p _ fun _ => ⟨rfl, rfl⟩

theorem eventLaw.takeRow {s : State} (h : eventLaw s) (p : PortId) (r : Request) : eventLaw (takeRow p r s) := by
  have hf : eventLaw (finishReplies p s) := ((h.endReply p).endReply p).endReply p
  exact (hf.takeTested p r.kind (some r)).sendReply p _ _

/-- The rows of the ports keep the law of the event sets. -/
theorem eventLaw_portRow {c : Instr} {s t : State} (hr : portRow c = true) (h : eventLaw s)
    (hx : exec c s = .next t) : eventLaw t := by
  cases hc : requestOf c with
  | some x =>
    rw [exec_requestOf hc, Host.Outcome.next.injEq] at hx
    exact hx ▸ h.takeRow _ _
  | none =>
    cases c with
    | frameComplete p b =>
      cases hx
      split
      · exact h.receive p b
      · exact h
    | frameGap p => cases hx; exact h.hunt p
    | framingError p => cases hx; exact h.hunt p
    | breakDetected p => cases hx; exact h.receiver p _ fun _ => ⟨rfl, rfl⟩
    | replyEnd p => cases hx; exact h.endReply p
    | receivedByte p b => cases hx; exact h.receive p b
    | lineReturnedHigh p => cases hx; exact h.receiver p _ fun _ => ⟨rfl, rfl⟩
    | _ => simp [portRow, hc] at hr

/-- Power-on reset leaves empty queues and empty event sets (R175, R182). -/
theorem reset_ports (s : State) :
    queueLaw { State.reset with pending := s.pending, freeIndex := s.freeIndex } ∧
      eventLaw { State.reset with pending := s.pending, freeIndex := s.freeIndex } := by
  have hport : ∀ p, (State.reset.lpu.ports.get p) = resetPort := fun p => by cases p <;> rfl
  refine ⟨(queueLaw_iff _).mpr fun p => ?_, fun p => ?_⟩
  · rw [show State.lpu _ = State.reset.lpu from rfl, hport]
    exact ⟨⟨Nat.zero_le _, fun _ _ h => by cases h⟩, fun _ _ h => (by cases h), fun _ => rfl⟩
  · rw [show State.lpu _ = State.reset.lpu from rfl, hport]
    rfl

/-- Settles O60: a row that goes through a port keeps both laws by the steps of the port layer; every other row leaves
the queues, and keeps the event sets since it does no more than raise events. -/
theorem portLawsKept : Obligations.PortLawsKept := by
  intro c s t hq he hx
  by_cases hr : portRow c = true
  · exact ⟨queueLaw_portRow hr hq hx, eventLaw_portRow hr he hx⟩
  have hr' : portRow c = false := by simpa using hr
  by_cases hc : c = .powerOnReset
  · subst hc
    cases hx
    exact reset_ports s
  by_cases hm : c = .measurementSample
  · subst hm
    cases hx
    exact ⟨hq.samePorts ((samePorts_opsKept s).sample (samePorts_sampleKept s) (.refl s)),
      eventLaw_portsKept.opsKept.sample eventLaw_portsKept.sampleKept he⟩
  · exact ⟨hq.samePorts ((samePorts_ownersKept s).fieldRow hr' hc hm (.refl s) hx),
      eventLaw_ownersKept.fieldRow hr' hc hm he hx⟩

end Sys2Proof.Machine
end

section
/-! Every command completes (O2): the queue of commands, the line clock and the free index are items that no owner and
no operation of the blocks writes, so they are a predicate of `OwnersKept`; the sample and power-on reset are apart. -/

namespace Sys2Proof.Machine

/-- The queue of commands, the line clock and the free index are those of another state. -/
def SameCounts (v s : State) : Prop := s.pending = v.pending ∧ s.clock = v.clock ∧ s.freeIndex = v.freeIndex

theorem SameCounts.refl (v : State) : SameCounts v v := ⟨rfl, rfl, rfl⟩

theorem SameCounts.trans {u v s : State} (h : SameCounts u v) (h' : SameCounts v s) : SameCounts u s :=
  ⟨h'.1.trans h.1, h'.2.1.trans h.2.1, h'.2.2.trans h.2.2⟩

section
variable (v : State)

theorem sameCounts_causeKept : CauseKept (SameCounts v) where
  raise _ _ _ h := h.trans (by simp [SameCounts])
  request h := h
  srg _ _ _ h := h
  obs _ _ _ _ h := h
  brake _ _ _ h := h.trans (by simp [SameCounts])
  cpt _ _ _ h := h
  tripped h := h.trans (by simp [SameCounts])

theorem sameCounts_opsKept : OpsKept (SameCounts v) where
  raise := (sameCounts_causeKept v).raise
  tsq _ _ _ h := h
  drive _ h := h
  srg _ _ _ h := h
  obs _ _ _ h := h
  brake _ _ _ _ h := h.trans (by simp [SameCounts])
  cpt _ _ _ h := h
  rmu _ _ _ h := h
  dru _ _ _ h := h
  bcu _ _ _ h := h
  doors h := h.trans (by simp [SameCounts])
  links _ _ _ _ h := h
  trip _ _ _ h := h.trans (by simp [SameCounts])
  depart _ _ _ _ _ h := h.trans (by simp [SameCounts])
  cause _ _ _ h := h.trans (by simp [SameCounts])
  list _ _ _ _ _ _ h := h.trans (by simp [SameCounts])
  clock _ _ _ h := h

theorem sameCounts_freeKept : FreeKept (SameCounts v) where
  rmu _ _ h := h
  offset _ _ _ h := h
  links _ _ _ h := h

theorem sameCounts_ownersKept : OwnersKept (SameCounts v) where
  __ := sameCounts_opsKept v
  rules _ _ _ h := h
  write _ _ _ _ h := h
  taken _ _ _ _ _ _ _ _ h := h.trans (by simp [SameCounts])
  clear hs h := (sameCounts_opsKept v).clear (sameCounts_causeKept v) hs h
  configure _ h := h.trans (by simp [SameCounts, enterConfiguring])
  commit _ h := (sameCounts_opsKept v).commitOf (h.trans (by simp [SameCounts, committing]))
  takes c r _ h := (sameCounts_opsKept v).report (sameCounts_freeKept v) c r h
  silent c _ h := (sameCounts_opsKept v).silence (sameCounts_freeKept v) c h
  events _ _ h := h
  subscribe _ _ _ h := h

theorem sameCounts_portClosed : PortClosed (SameCounts v) where
  port _ _ _ h := h
  heard p _ h := (sameCounts_opsKept v).portHeard p h
  owner p r _ h := (sameCounts_ownersKept v).owner p r h
  order c _ h := (sameCounts_opsKept v).countOrder c h

end

/-- Every row but the sample and power-on reset keeps the queue, the clock and the free index. -/
theorem exec_sameCounts {c : Instr} {s t : State} (hc : c ≠ .powerOnReset) (hm : c ≠ .measurementSample)
    (hx : exec c s = .next t) : SameCounts s t := by
  by_cases hr : portRow c = true
  · exact portRow_keeps_of (sameCounts_portClosed s) hr (.refl s) hx
  · exact (sameCounts_ownersKept s).fieldRow (by simpa using hr) hc hm (.refl s) hx

/-- Every command has a next state. -/
theorem exec_next (c : Instr) (s : State) : ∃ t, exec c s = .next t := by
  cases c <;> exact ⟨_, rfl⟩

/-- Settles O2. -/
theorem everyCommandCompletes : Obligations.EveryCommandCompletes := by
  intro c s
  obtain ⟨t, hx⟩ := exec_next c s
  refine ⟨t, hx, ?_⟩
  by_cases hc : c = .powerOnReset
  · subst hc
    cases hx
    exact ⟨rfl, rfl, fun _ => rfl⟩
  by_cases hm : c = .measurementSample
  · subst hm
    cases hx
    exact ⟨by simp, by simp, fun h => absurd rfl h⟩
  · obtain ⟨hp, hk, hf⟩ := exec_sameCounts hc hm hx
    exact ⟨hp, by simp [hc, hm, hk], fun _ => hf⟩

end Sys2Proof.Machine
end

section
/-! Rows and payloads said once: what a request row does whose tests of R176 pass, and the codings of Table 10-4 by the
bytes that the statements write out. -/

namespace Sys2Proof.Machine

/-! ### A request row -/

theorem takeTested_owner {p : PortId} {r : Request} {s : State} (hp : permitted p r.kind = true)
    (he : encodingOk r = true) : takeTested p r.kind (some r) s = dispatch p r (portHeard p s) := by
  simp [takeTested, hp, he]

/-- A request row that passes the tests of R176, whatever waits on its port: the owner's effect, and the reply begun. -/
theorem exec_owner {c : Instr} {p : PortId} {r : Request} (hc : requestOf c = some (p, r)) (hp : permitted p r.kind = true)
    (he : encodingOk r = true) (s : State) :
    exec c s = .next (sendReply p (BitVec.ofNat 8 r.kind) (dispatch p r (s.ready p)).1 (dispatch p r (s.ready p)).2) := by
  rw [exec_requestOf hc]
  simp only [takeRow, takeTested_owner hp he, State.ready]

/-- A reply of a fixed payload, begun (R177). -/
theorem sendReply_fixed (p : PortId) (kind : Nat) (payload : List Byte) (s : State) :
    sendReply p (BitVec.ofNat 8 kind) (.fixed payload) s = s.answered p kind payload := by
  simp only [sendReply, State.answered, replyKind, BitVec.ofNat_add]
  rfl

/-- A request row whose owner replies with a fixed payload. -/
theorem exec_fixed {c : Instr} {p : PortId} {r : Request} {s t : State} {payload : List Byte}
    (hc : requestOf c = some (p, r)) (hp : permitted p r.kind = true) (he : encodingOk r = true)
    (hd : dispatch p r (s.ready p) = (.fixed payload, t)) : exec c s = .next (t.answered p r.kind payload) := by
  rw [exec_owner hc hp he, hd, sendReply_fixed]

/-- A request row whose owner replies with a status. -/
theorem exec_plain {c : Instr} {p : PortId} {r : Request} {s : State} {x : Status × State}
    (hc : requestOf c = some (p, r)) (hp : permitted p r.kind = true) (he : encodingOk r = true)
    (hd : dispatch p r (s.ready p) = plain x) : exec c s = .next (x.2.answered p r.kind x.1.encode) :=
  exec_fixed hc hp he hd

/-! ### Codings -/

theorem be_one (v : Int) : be 1 v = [BitVec.ofInt 8 v] := by
  simp [be, List.range_succ]

theorem be_one_nat (n : Nat) : be 1 n = enc1 n := by
  simp [be_one, enc1]

theorem be_two (v : Int) : be 2 v = [BitVec.ofInt 8 (v / 256), BitVec.ofInt 8 v] := by
  simp [be, List.range_succ]

theorem be_three (v : Int) : be 3 v = [BitVec.ofInt 8 (v / 65536), BitVec.ofInt 8 (v / 256), BitVec.ofInt 8 v] := by
  simp [be, List.range_succ]

theorem be_four (v : Int) : be 4 v = [BitVec.ofInt 8 (v / 16777216), BitVec.ofInt 8 (v / 65536),
    BitVec.ofInt 8 (v / 256), BitVec.ofInt 8 v] := by
  simp [be, List.range_succ]

/-- Two bytes of a value (R178). -/
theorem be_two_eq (v : Int) : be 2 v = enc2 v := by
  rw [be_two, enc2]
  congr 1
  · apply BitVec.eq_of_toNat_eq
    simp only [BitVec.extractLsb'_toNat, BitVec.toNat_ofInt, Nat.shiftRight_eq_div_pow]
    omega
  · congr 1
    apply BitVec.eq_of_toNat_eq
    simp only [BitVec.extractLsb'_toNat, BitVec.toNat_ofInt, Nat.shiftRight_eq_div_pow]
    omega

/-- Four bytes of a value (R178). -/
theorem be_four_eq (v : Int) : be 4 v = enc4 v := by
  have byte (k : Nat) (hk : k = 24 ∨ k = 16 ∨ k = 8 ∨ k = 0) :
      BitVec.ofInt 8 (v / 2 ^ k) = (BitVec.ofInt 32 v).extractLsb' k 8 := by
    apply BitVec.eq_of_toNat_eq
    simp only [BitVec.extractLsb'_toNat, BitVec.toNat_ofInt, Nat.shiftRight_eq_div_pow]
    rcases hk with rfl | rfl | rfl | rfl <;> omega
  rw [be_four, enc4, encLong, ← byte 24 (by simp), ← byte 16 (by simp), ← byte 8 (by simp), ← byte 0 (by simp)]
  simp

theorem be_two_half (w : Half) : be 2 w.toNat = encHalf w := by
  rw [be_two_eq, enc2, encHalf, BitVec.ofInt_natCast, BitVec.ofNat_toNat, BitVec.setWidth_eq]

theorem be_four_long (w : Long) : be 4 w.toNat = encLong w := by
  rw [be_four_eq, enc4, BitVec.ofInt_natCast, BitVec.ofNat_toNat, BitVec.setWidth_eq]

/-- Three bytes of a word (R178). -/
theorem be_three_odo (w : Odo) : be 3 w.toNat = enc3 w := by
  have byte (k : Nat) (hk : k = 16 ∨ k = 8 ∨ k = 0) :
      BitVec.ofInt 8 ((w.toNat : Int) / 2 ^ k) = w.extractLsb' k 8 := by
    apply BitVec.eq_of_toNat_eq
    simp only [BitVec.extractLsb'_toNat, BitVec.toNat_ofInt, Nat.shiftRight_eq_div_pow]
    rcases hk with rfl | rfl | rfl <;> omega
  rw [be_three, enc3, ← byte 16 (by simp), ← byte 8 (by simp), ← byte 0 (by simp)]
  simp

theorem yesNo_eq (b : Bool) : yesNo b = encBool b := by
  cases b <;> simp [yesNo, be_one, encBool]

theorem optField_none (n : Nat) : optField n none = 0 :: List.replicate n 0 := by
  simp [optField, be, List.map_const', List.replicate_succ]

theorem optField_one (v : Option Int) : optField 1 v = encOpt 1 (v.map (be 1)) := by
  cases v with
  | none => rw [optField_none]; rfl
  | some x => simp [encOpt, optField]

theorem optField_four (v : Option Int) : optField 4 v = encOpt 4 (v.map enc4) := by
  cases v with
  | none => rw [optField_none]; rfl
  | some x => simp [encOpt, optField, be_four_eq]

/-- The CAR_ORDER of Table 7-2 is the one formed (R134). -/
theorem carOrder_eq (c : Car) (s : State) : carOrder c s = carOrderPayload c s := by
  simp only [carOrder, carOrderPayload, be_one_nat, optField_one, yesNo_eq, PerSide.get, Option.map_map]
  congr 6
  cases s.tsq.target <;> simp [be_one, enc1]

/-- The orders counted by a CAR_ORDER (R129). -/
theorem countOrder_eq (c : Car) (s : State) :
    countOrder c s = { s with dru := s.dru.set c (ordersCounted (s.dru.get c)) } := rfl

end Sys2Proof.Machine
end

section
/-! The statements of tier 1: a step, the reset values, an encoder edge, the DEM and WARN lines, the end of a reply, the
hearing of a valid frame, and the time of day. -/

namespace Sys2Proof.Machine

/-- Settles O1. -/
theorem stepRunsFrontCommand : Obligations.StepRunsFrontCommand := by
  intro c s rest h
  simp only [step, h]

/-- Settles O14. -/
theorem dutyAndWarningLines : Obligations.DutyAndWarningLines :=
  ⟨fun _ => rfl, fun _ => rfl⟩

/-! ### Power-on reset -/

/-- Settles O3. -/
theorem resetValues : Obligations.ResetValues := by
  unfold Obligations.ResetValues
  refine ⟨by decide, by decide, ?obs, by decide, ?cars, ?stations, ?ports, ?tables, rfl, rfl, rfl, fun u => rfl⟩
  case obs =>
    exact ⟨rfl, rfl, rfl, rfl, fun b => by cases b <;> rfl, rfl, rfl, rfl, rfl, rfl, rfl, rfl, rfl, rfl, rfl, rfl, rfl,
      rfl, rfl, fun c => by cases c <;> rfl, rfl, rfl⟩
  case cars =>
    refine ⟨rfl, fun c => ?_⟩
    cases c <;> exact ⟨rfl, rfl, rfl, fun side => by cases side <;> rfl⟩
  case stations => intro st; cases st <;> exact ⟨rfl, rfl⟩
  case ports => intro p; cases p <;> exact ⟨rfl, rfl⟩
  case tables => decide

/-- Settles O4. -/
theorem resetObeysLaws : Obligations.ResetObeysLaws := by
  refine ⟨?drive, ?request, ?tripped, ?shut, ?door, ?platform, ?lists, ?halt, ?reference, ?cause, ?emergency, ?offset,
    (reset_ports State.reset).1, (reset_ports State.reset).2⟩
  case drive => exact fun h => absurd h (by decide)
  case request => exact fun h => absurd h (by decide)
  case tripped => exact ⟨fun h => absurd h (by decide), fun h => absurd rfl h⟩
  case shut => intro c side h; rfl
  case door => intro c side h; cases c <;> cases side <;> cases h
  case platform => intro st; cases st <;> exact Nat.zero_le _
  case lists => intro st; cases st <;> exact ⟨List.nodup_nil, Nat.zero_le _, Nat.zero_le _⟩
  case halt => exact ⟨List.nodup_nil, fun e he => absurd he (by simp [State.reset, resetTsq]), fun _ => rfl⟩
  case reference => exact fun v hv => by cases hv
  case cause => exact List.nodup_nil
  case emergency => exact fun h => absurd h (by decide)
  case offset => intro c; cases c <;> decide

/-! ### An encoder edge -/

/-- The sign of an edge is the place of the change among the forward edges (R18). -/
theorem edgeSign_eq (before after : QuadPair) : edgeSign before after =
    if (before, after) ∈ forwardEdges then 1 else if (after, before) ∈ forwardEdges then -1 else 0 := by
  obtain ⟨a, b⟩ := before
  obtain ⟨c, d⟩ := after
  revert a b c d
  decide

/-- Settles O5. -/
theorem encoderEdgeCounts : Obligations.EncoderEdgeCounts := by
  intro i before after s
  dsimp only
  rw [← edgeSign_eq]
  simp only [exec, execEncoderEdge, Channel.edge, State.updRmu]
  split
  next hu => rw [PerChannel.set_get]
  next => rfl

/-! ### The time of day -/

/-- Settles O48. -/
theorem timeOfDaySetAndAdvanced : Obligations.TimeOfDaySetAndAdvanced := by
  have row (minutes : Half) (s : State) := exec_plain (c := .timeSet .p0 minutes) (p := .p0) (r := .timeSet minutes)
    (x := takeTimeSet minutes.toNat (s.ready .p0)) rfl rfl rfl rfl
  refine ⟨fun minutes s => ⟨fun h => ?_, fun h => ?_⟩, fun s => ⟨fun h => ?_, fun m hm hlt => ?_⟩⟩
  · rw [row minutes s, takeTimeSet, if_neg (show ¬ Config.dayMinutes ≤ minutes.toNat from Nat.not_le.mpr (Nat.lt_succ_of_le h))]
    rfl
  · rw [row minutes s, takeTimeSet, if_pos (show Config.dayMinutes ≤ minutes.toNat from h)]
    rfl
  · simp [exec, execTimeOfDayAdvance, h]
  · simp only [Option.mem_def] at hm
    have hmod : (m + 1) % 1440 = if m = 1439 then 0 else m + 1 := by split <;> omega
    simp only [exec, execTimeOfDayAdvance, hm, Config.dayMinutes, hmod]

/-! ### Frames heard -/

/-- Settles O32. -/
theorem validFrameHeard : Obligations.ValidFrameHeard := by
  intro s
  refine ⟨fun h => ?_, fun st h => ?_, fun c h => ?_⟩
  · simp only [State.ready, finishReplies_at_rest h, portHeard, consoleHeard, raiseLink_eq]
    split
    next => rfl
    next hs =>
      have hf : s.tsq.silent = false := by simpa using hs
      rw [← hf]
      rfl
  · have hg : portHeard st.port s = gateHeard st s := by cases st <;> rfl
    simp only [State.ready, finishReplies_at_rest h, hg, gateHeard, raiseLink_eq]
    rfl
  · have hg : portHeard c.port s = s := by cases c <;> rfl
    rw [State.ready, finishReplies_at_rest h, hg]

/-! ### The end of a reply -/

/-- The head of a queue that is taken is not taken again (R175). -/
theorem takeOldest_taken {s : State} {p : PortId} {kind : Byte} {payload : List Byte} {body : ReplyBody}
    {rest : List QueueEntry} (h : (s.lpu.ports.get p).queue = ⟨kind, payload, some body⟩ :: rest) :
    takeOldest p s = s := by
  unfold takeOldest
  rw [h]

/-- The reply of a taken entry begins on an idle transmitter, and the entry leaves the queue (R177). -/
theorem beginReply_taken {s : State} {p : PortId} {kind : Byte} {payload : List Byte} {body : ReplyBody}
    {rest : List QueueEntry} (ht : (s.lpu.ports.get p).tx = none)
    (h : (s.lpu.ports.get p).queue = ⟨kind, payload, some body⟩ :: rest) :
    beginReply p s = sendReply p kind body (s.updPort p (fun r => { r with queue := rest })) := by
  unfold beginReply
  rw [ht, h]

/-- The end of a reply begins the reply of the entry that was taken, and takes the next (R177, R175). -/
theorem endReply_taken {s : State} {p : PortId} {kind : Byte} {payload : List Byte} {body : ReplyBody}
    {rest : List QueueEntry} (h : (s.lpu.ports.get p).queue = ⟨kind, payload, some body⟩ :: rest) :
    endReply p s = takeOldest p (sendReply p kind body (s.updPort p (fun r => { r with tx := none, queue := rest }))) := by
  have hq : ((s.updPort p (fun r => { r with tx := none })).lpu.ports.get p).queue =
      ⟨kind, payload, some body⟩ :: rest := by simpa using h
  rw [endReply, servePort, takeOldest_taken hq, beginReply_taken (by simp) hq, updPort_updPort]

/-- A frame that waits in front is taken (R175). -/
theorem takeOldest_waiting {s : State} {p : PortId} {kind : Byte} {payload : List Byte} {rest : List QueueEntry}
    (h : (s.lpu.ports.get p).queue = ⟨kind, payload, none⟩ :: rest) :
    takeOldest p s = (takeFrame p kind payload s).2.updPort p (fun r =>
      { r with queue := ⟨kind, payload, some (takeFrame p kind payload s).1⟩ :: rest }) := by
  have hr : ((takeFrame p kind payload s).2.lpu.ports.get p).queue = ⟨kind, payload, none⟩ :: rest := by
    rw [← h]
    exact (samePorts_takeTested p _ _ s p).2.2.1
  unfold takeOldest
  rw [h]
  simp only [State.updPort, State.updLpu, hr, List.tail_cons]

/-- Settles O31. -/
theorem replyEndAndLineFaults : Obligations.ReplyEndAndLineFaults := by
  refine ⟨fun p s => ⟨fun h => ?_, fun kind payload reply h => ?_, fun kind payload c h => ?_,
    fun kind kind' payload payload' reply h => ?_⟩, fun p s => ⟨rfl, rfl, rfl, rfl⟩⟩
  · simp only [exec, execReplyEnd, endReply_empty h]
  · simp only [exec, execReplyEnd, endReply_taken h, sendReply, updPort_updPort]
    rw [takeOldest_empty (by simp)]
    rfl
  · simp only [exec, execReplyEnd, endReply_taken h, sendReply, updPort_updPort]
    rw [takeOldest_empty (by simp [countOrder]), carOrder_eq]
    rfl
  · simp only [exec, execReplyEnd, endReply_taken h, sendReply, updPort_updPort]
    rw [takeOldest_waiting (kind := kind') (payload := payload') (rest := []) (by simp)]
    rfl

end Sys2Proof.Machine
end

section
/-! The rope measurement at a sample (R26 to R28, R30 to R33): the main channels that serve, by number, and what the rest
of a sample leaves of the RMU's published set. -/

namespace Sys2Proof.Machine

/-! ### The main channels that serve -/

/-- The channel of a role, by number, where it is IN_SERVICE. -/
def State.servingIndex (s : State) (role : Nat) : Option (Fin 4) :=
  (s.lts.channelWithRole role).filter (fun i => decide ((s.rmu.channels.get i).state = .inService))

theorem mainsServing_eq (s : State) :
    mainsServing s = (s.servingIndex 0).toList ++ (s.servingIndex 1).toList := by
  unfold mainsServing
  rw [show (fun role => (s.lts.channelWithRole role).filter _) = s.servingIndex from rfl]
  cases h0 : s.servingIndex 0 <;> cases h1 : s.servingIndex 1 <;> simp [h0, h1]

/-- A role is served by the channel found by number, of any channels in the same states. -/
theorem serving_eq (s : State) (r : Rmu) (h : ∀ i, (r.channels.get i).state = (s.rmu.channels.get i).state) (role : Nat) :
    r.serving s.lts role = (s.servingIndex role).map r.channels.get := by
  unfold Rmu.serving State.servingIndex
  cases s.lts.channelWithRole role with
  | none => rfl
  | some i =>
    simp only [h]
    by_cases hi : (s.rmu.channels.get i).state = .inService <;> simp [Option.filter, hi]

/-- Both mains serve where each is found by number (R26). -/
theorem bothMainsInService_eq (s : State) (r : Rmu)
    (h : ∀ i, (r.channels.get i).state = (s.rmu.channels.get i).state) :
    bothMainsInService s.lts r = decide ((mainsServing s).length = 2) := by
  rw [mainsServing_eq]
  unfold bothMainsInService State.servingIndex
  cases s.lts.channelWithRole 0 with
  | none => cases s.lts.channelWithRole 1 with
    | none => rfl
    | some j => by_cases hj : (s.rmu.channels.get j).state = .inService <;> simp [Option.filter, hj]
  | some i => cases s.lts.channelWithRole 1 with
    | none => by_cases hi : (s.rmu.channels.get i).state = .inService <;> simp [Option.filter, hi]
    | some j =>
      by_cases hi : (s.rmu.channels.get i).state = .inService <;>
        by_cases hj : (s.rmu.channels.get j).state = .inService <;> simp [Option.filter, h, hi, hj]

/-! ### The published set -/

/-- The RMU once a sample is combined, before its disagreement is tested (R18 to R31, R34). -/
def State.measured (s : State) : Rmu := Rmu.sample s.lts s.rmu

@[simp] theorem measured_state (s : State) (i : Fin 4) :
    (s.measured.channels.get i).state = (s.rmu.channels.get i).state := by
  simp [State.measured, sample_channel]

/-- The travel, the position and the speeds of a sample, by the channels that serve (R26 to R28). -/
theorem measured_combined (s : State) :
    let m role := (s.servingIndex role).map s.measured.channels.get
    s.measured.dx2 = mainTravel (m 0) (m 1) ∧ s.measured.x2 = s.rmu.x2 + s.measured.dx2 ∧
    s.measured.vSup = supervisionSpeed (m 0) (m 1) ∧ s.measured.vAvg = averageSpeed (m 0) (m 1) ∧
    s.measured.known = s.rmu.known ∧ s.measured.twoChannel = decide ((mainsServing s).length = 2) := by
  have hst : ∀ i, ((s.rmu.channels.mapIdx
      (fun i (c : Channel) => c.measure s.lts.inForce.window (s.lts.pitch i))).get i).state = (s.rmu.channels.get i).state := by simp
  have hs (role : Nat) := serving_eq s
    { s.rmu with channels := s.rmu.channels.mapIdx (fun i c => c.measure s.lts.inForce.window (s.lts.pitch i)) } hst role
  have hb := bothMainsInService_eq s
    { s.rmu with channels := s.rmu.channels.mapIdx (fun i c => c.measure s.lts.inForce.window (s.lts.pitch i)) } hst
  simp [State.measured, Rmu.sample, hs, hb]

/-- What a sample leaves in the RMU: the set combined, and one main channel marked FAILED at a disagreement. -/
theorem sampled_rmu (s : State) :
    let t := actOnSample (rmuSample (tick s))
    t.rmu.x2 = s.measured.x2 ∧ t.rmu.dx2 = s.measured.dx2 ∧ t.rmu.vSup = s.measured.vSup ∧
    t.rmu.vAvg = s.measured.vAvg ∧ t.rmu.known = s.measured.known ∧ t.rmu.twoChannel = s.measured.twoChannel ∧
    t.rmu.dM2 = s.measured.dM2 ∧ t.rmu.dSL = s.measured.dSL ∧
    ∀ i, (t.rmu.channels.get i).d = (s.measured.channels.get i).d ∧
      (t.rmu.channels.get i).vch = (s.measured.channels.get i).vch ∧
      (t.rmu.channels.get i).c = (s.measured.channels.get i).c := by
  have hm : ((tick s).updRmu (Rmu.sample (tick s).lts)).rmu = s.measured := by
    simp [State.measured]
  obtain ⟨hc, hx, hd, hv, ha, hk, h2, -, -, -, hM, hS⟩ := actOnSample_rmu (rmuSample (tick s))
  dsimp only
  rw [hc, hx, hd, hv, ha, hk, h2, hM, hS, rmuSample_rmu]
  rcases testDisagreement_rmu ((tick s).updRmu (Rmu.sample (tick s).lts)) with he | ⟨k, -, he⟩
  · rw [he, hm]
    exact ⟨rfl, rfl, rfl, rfl, rfl, rfl, rfl, rfl, fun _ => ⟨rfl, rfl, rfl⟩⟩
  · rw [he, hm]
    refine ⟨rfl, rfl, rfl, rfl, rfl, rfl, rfl, rfl, fun i => ?_⟩
    simp only [Rmu.failMain, PerChannel.get_set]
    split
    next hik => subst hik; exact ⟨rfl, rfl, rfl⟩
    next => exact ⟨rfl, rfl, rfl⟩

/-- Settles O7: the combination of the mains by how many serve. -/
theorem samplePositionAndSpeeds : Obligations.SamplePositionAndSpeeds := by
  intro s
  refine ⟨_, rfl, ?_⟩
  obtain ⟨hx, hd, hv, ha, hk, h2, -, -, hc⟩ := sampled_rmu s
  obtain ⟨md, mx, mv, ma, mk, m2⟩ := measured_combined s
  dsimp only
  simp only [hx, hd, hv, ha, hk, h2, hc, mx, mk, m2, true_and, mainsServing_eq]
  cases h0 : s.servingIndex 0 <;> cases h1 : s.servingIndex 1 <;>
    simp [h0, h1, mainTravel, supervisionSpeed, averageSpeed] at md mv ma ⊢ <;> simp [md, mv, ma]

/-! ### A disagreement (R30 to R32) -/

/-- Two mains serve where each role has its channel, IN_SERVICE, and the roles have different channels. -/
theorem servingIndex_of_two {s : State} {i j : Fin 4} (h : mainsServing s = [i, j]) :
    s.servingIndex 0 = some i ∧ s.servingIndex 1 = some j := by
  rw [mainsServing_eq] at h
  cases h0 : s.servingIndex 0 <;> cases h1 : s.servingIndex 1 <;> simp_all

theorem channelWithRole_role {t : Lts} {role : Nat} {i : Fin 4} (h : t.channelWithRole role = some i) :
    t.role i = role := by
  unfold Lts.channelWithRole at h
  repeat' (split at h)
  all_goals cases h
  all_goals assumption

theorem servingIndex_some {s : State} {role : Nat} {i : Fin 4} (h : s.servingIndex role = some i) :
    s.lts.channelWithRole role = some i ∧ (s.rmu.channels.get i).state = .inService := by
  simpa [State.servingIndex, Option.filter_eq_some_iff] using h

theorem two_mains_ne {s : State} {i j : Fin 4} (h : mainsServing s = [i, j]) : i ≠ j := by
  obtain ⟨h0, h1⟩ := servingIndex_of_two h
  intro hij
  have hi := channelWithRole_role (servingIndex_some h0).1
  have hj := channelWithRole_role (servingIndex_some h1).1
  rw [hij] at hi
  omega

/-- The persistence counts of a sample at which two main channels serve (R30, R31). -/
theorem measured_counts {s : State} {i j : Fin 4} (h : mainsServing s = [i, j]) :
    let ci := s.measured.channels.get i
    let cj := s.measured.channels.get j
    s.measured.pA = (if ((ci.vch - cj.vch).natAbs : Int) > s.lts.discLimit then s.rmu.pA + 1 else 0) ∧
    s.measured.p1 = (if ci.c = 0 ∧ cj.vch.natAbs > 200 then s.rmu.p1 + 1 else 0) ∧
    s.measured.p2 = (if cj.c = 0 ∧ ci.vch.natAbs > 200 then s.rmu.p2 + 1 else 0) := by
  obtain ⟨h0, h1⟩ := servingIndex_of_two h
  have hst : ∀ i, ((s.rmu.channels.mapIdx
      (fun i (c : Channel) => c.measure s.lts.inForce.window (s.lts.pitch i))).get i).state =
        (s.rmu.channels.get i).state := by simp
  have hs (role : Nat) := serving_eq s
    { s.rmu with channels := s.rmu.channels.mapIdx (fun i c => c.measure s.lts.inForce.window (s.lts.pitch i)) } hst role
  have hnat (v : Int) : (200 < |v|) = (200 < v.natAbs) := by
    rw [eq_iff_iff, Int.abs_eq_natAbs]
    omega
  simp [State.measured, Rmu.sample, hs, h0, h1, Rmu.persistence, persist, stalls, Config.stallSpeed, hnat]

/-- The state in which the disagreement of a sample is tested: the clock advanced, the published set combined. -/
def State.combined (s : State) : State := (tick s).updRmu (Rmu.sample (tick s).lts)

/-- A disagreement is recorded once one of the counts has lasted (R30, R31). -/
theorem testDisagreement_of_two {s : State} {i j : Fin 4} (h : mainsServing s = [i, j]) :
    testDisagreement s.combined = if s.measured.disagrees s.lts then recordDisagreement i j s.combined else s.combined := by
  obtain ⟨h0, h1⟩ := servingIndex_of_two h
  have hb : bothMainsInService s.lts s.measured = true := by
    rw [bothMainsInService_eq s s.measured (measured_state s), h]
    rfl
  have hl : s.combined.lts = s.lts := by simp [State.combined]
  have hr : s.combined.rmu = s.measured := by simp [State.combined, State.measured]
  unfold testDisagreement
  rw [hl, hr, (servingIndex_some h0).1, (servingIndex_some h1).1, hb, Bool.true_and]

/-- The channel that a disagreement marks FAILED (R32). -/
theorem recordDisagreement_rmu (i j : Fin 4) (s : State) : ∃ free,
    (recordDisagreement i j s).rmu = Rmu.failMain (if marksMain1 free (s.rmu.channels.get i).vch.natAbs
      (s.rmu.channels.get j).vch.natAbs (s.lts.persisted s.rmu.p1) (s.lts.persisted s.rmu.p2) then i else j) s.rmu :=
  ⟨Config.bothStalledMarksMain1 s.freeIndex, by simp [recordDisagreement]⟩

/-- A disagreement recorded with the tables committed is listed at the end of its sample (R32, R83). -/
theorem sampled_disagreement {s : State} {i j : Fin 4} (hc : s.lts.committed = true)
    (h : testDisagreement s.combined = recordDisagreement i j s.combined) :
    (actOnSample (rmuSample (tick s))).hasCause .encoderDisagree = true := by
  refine hasCause_of_prefix (actOnSample_prefix _) _ (hasCause_of_prefix (causeIf_prefix _ _ (testDisagreement s.combined)) _ ?_)
  rw [h]
  exact giveCause_has _ _ _ (by simpa [State.combined] using hc)

/-- What R32 decides of the channel marked; it leaves equal speeds with both stalled open. -/
theorem marksMain1_cases (free : Bool) (v1 v2 : Nat) (l1 l2 : Bool) :
    (v1 < v2 → marksMain1 free v1 v2 l1 l2 = true) ∧ (v2 < v1 → marksMain1 free v1 v2 l1 l2 = false) ∧
    (v1 = v2 → l1 = true → ¬ l2 = true → marksMain1 free v1 v2 l1 l2 = true) ∧
    (v1 = v2 → ¬ l1 = true → marksMain1 free v1 v2 l1 l2 = false) := by
  unfold marksMain1
  refine ⟨fun h => if_pos h, fun h => ?_, fun h h1 h2 => ?_, fun h h1 => ?_⟩
  · rw [if_neg (by omega), if_pos h]
  · simp [h, h1, h2]
  · simp [h, h1]

/-- Settles O8: the counts of the combined set decide whether R32 acts, and `marksMain1` which channel it marks. -/
theorem disagreementMarksOneMain : Obligations.DisagreementMarksOneMain := by
  intro s i j h
  refine ⟨_, rfl, ?_⟩
  have hne := two_mains_ne h
  obtain ⟨h0, h1⟩ := servingIndex_of_two h
  have hi : (s.measured.channels.get i).state = .inService := by simp [(servingIndex_some h0).2]
  have hj : (s.measured.channels.get j).state = .inService := by simp [(servingIndex_some h1).2]
  obtain ⟨-, -, -, -, -, -, -, -, hc⟩ := sampled_rmu s
  obtain ⟨hA, h1', h2'⟩ := measured_counts h
  obtain ⟨hch, -, -, -, -, -, -, hpA, hp1, hp2, -, -⟩ := actOnSample_rmu (rmuSample (tick s))
  have hrmu : (rmuSample (tick s)).rmu = (testDisagreement s.combined).rmu := rmuSample_rmu (tick s)
  dsimp only
  simp only [(hc i).2.1, (hc i).2.2, (hc j).2.1, (hc j).2.2]
  rw [← hA, ← h1', ← h2', hch, hpA, hp1, hp2, hrmu, testDisagreement_of_two h]
  have hcr : s.combined.rmu = s.measured := by simp [State.combined, State.measured]
  have hcl : s.combined.lts = s.lts := by simp [State.combined]
  have hlast (p : Nat) : (2 * p : Int) ≥ s.lts.discTime ↔ s.lts.persisted p = true := by simp [Lts.persisted]
  simp only [hlast]
  by_cases hd : s.measured.disagrees s.lts = true
  · rw [if_pos hd]
    have hor : s.lts.persisted s.measured.pA = true ∨ s.lts.persisted s.measured.p1 = true ∨
        s.lts.persisted s.measured.p2 = true := by simpa [Rmu.disagrees, or_assoc] using hd
    obtain ⟨free, hm⟩ := recordDisagreement_rmu i j s.combined
    rw [hcr, hcl] at hm
    refine ⟨fun hno => absurd hor hno, fun _ => ?_⟩
    rw [hm]
    simp only [Rmu.failMain, PerChannel.get_set]
    have hcause (hc : s.lts.committed = true) := sampled_disagreement hc (by rw [testDisagreement_of_two h, if_pos hd])
    obtain ⟨hlt, hgt, hst, hns⟩ := marksMain1_cases free (s.measured.channels.get i).vch.natAbs
      (s.measured.channels.get j).vch.natAbs (s.lts.persisted s.measured.p1) (s.lts.persisted s.measured.p2)
    cases hmark : marksMain1 free (s.measured.channels.get i).vch.natAbs (s.measured.channels.get j).vch.natAbs
        (s.lts.persisted s.measured.p1) (s.lts.persisted s.measured.p2) with
    | true =>
      rw [hmark] at hgt hns
      exact ⟨.inl ⟨by simp, by simp [hne.symm, hj]⟩, fun _ => by simp, fun hv => (by cases hgt hv), fun _ _ _ => by simp,
        fun hv h1 => (by cases hns hv h1), trivial, trivial, trivial, hcause⟩
    | false =>
      rw [hmark] at hlt hst
      exact ⟨.inr ⟨by simp [hne, hi], by simp⟩, fun hv => (by cases hlt hv), fun _ => by simp,
        fun hv h1 h2 => (by cases hst hv h1 h2), fun _ _ => by simp, trivial, trivial, trivial, hcause⟩
  · rw [if_neg hd, hcr]
    have hno : ¬ (s.lts.persisted s.measured.pA = true ∨ s.lts.persisted s.measured.p1 = true ∨
        s.lts.persisted s.measured.p2 = true) := by simpa [Rmu.disagrees, or_assoc] using hd
    exact ⟨fun _ => ⟨hi, hj, rfl, rfl, rfl⟩, fun hor => absurd hor hno⟩

end Sys2Proof.Machine
end

section
/-! Rope slip and rollback at a sample (R34, R35, R78, R79). -/

namespace Sys2Proof.Machine

/-! ### Causes of a sample -/

/-- The OBS adds OVERSPEED, OVERSPEED_SEVERE, ROLLBACK and OVERRUN at most at a sample. -/
theorem obsSample_sameEntries {k : CauseKind} (s : State) (ho : .overspeed ≠ k) (hs : .overspeedSevere ≠ k)
    (hr : .rollback ≠ k) (hv : .overrun ≠ k) : SameEntries k s (obsSample s) :=
  (testLevels_sameEntries s ho hs).trans ((causeIf_sameEntries _ _ hs).trans ((testRollback_sameEntries _ hr).trans
    ((causeIf_sameEntries s.overran (beforeOverrun s) hv).trans (sameEntries_of_causes (obsSample_causes s)))))

/-- The end of a sample gives no cause. -/
theorem sampleEnd_sameEntries (k : CauseKind) (s : State) : SameEntries k s (testDoors (tsqSample s)) :=
  sameEntries_of_causes (by simp)

/-- A cause given at a sample whose entry the rest of the sample leaves is given at the sample (R83). -/
theorem givenAtSample_of_prefix {k : CauseKind} {s u t : State} (hcom : u.lts.committed = true)
    (hold : SameEntries k s u) (hcauses : (giveCause k .internal u).obs.causes <+: t.obs.causes)
    (hentry : causeEntry k .internal u = causeEntry k .internal t) : GivenAtSample k s t := by
  have hu : GivenAtSample k s { t with obs := { t.obs with causes := (giveCause k .internal u).obs.causes } } :=
    givenAtSample_of_giveCause hcom hold rfl (hentry.trans rfl)
  obtain ⟨e, hmem, hkind, hpart⟩ := hu
  exact ⟨e, hcauses.subset hmem, hkind, hpart⟩

/-! ### Rope slip (R34, R35) -/

/-- The slip accumulators of a sample, the check active and the SLIP channel IN_SERVICE (R34). -/
theorem measured_slip {s : State} {i : Fin 4} (ha : s.rmu.slipActive = true) (hi : s.servingIndex 2 = some i) :
    s.measured.dM2 = s.rmu.dM2 + s.measured.dx2 ∧ s.measured.dSL = s.rmu.dSL + (s.measured.channels.get i).d ∧
    s.measured.slipActive = true := by
  have hst : ∀ i, ((s.rmu.channels.mapIdx
      (fun i (c : Channel) => c.measure s.lts.inForce.window (s.lts.pitch i))).get i).state =
        (s.rmu.channels.get i).state := by simp
  have hs (r : Rmu) (hr : r.channels = s.rmu.channels.mapIdx
      (fun i c => c.measure s.lts.inForce.window (s.lts.pitch i))) := serving_eq s r (by rw [hr]; exact hst)
  simp only [State.measured, Rmu.sample]
  rw [hs _ rfl, hi]
  simp [Rmu.slipTravel, ha]

@[simp] theorem combined_keeps (s : State) :
    s.combined.lts = s.lts ∧ s.combined.rmu = s.measured ∧ s.combined.obs.causes = s.obs.causes := by
  simp [State.combined, State.measured]

/-- The comparison of R35: the disagreement test leaves the accumulators and the SLIP channel. -/
theorem slips_eq {s : State} {i : Fin 4} (ha : s.rmu.slipActive = true) (hi : s.servingIndex 2 = some i) :
    (testDisagreement s.combined).rmu.slips (testDisagreement s.combined).lts =
      decide (((s.measured.dM2 - 2 * s.measured.dSL).natAbs : Int) > 2000 * s.lts.slipLimit) := by
  obtain ⟨-, -, hact⟩ := measured_slip ha hi
  obtain ⟨hrole, hin⟩ := servingIndex_some hi
  have hl : (testDisagreement s.combined).lts = s.lts := by simp
  have hserve (r : Rmu) (hr : (r.channels.get i).state = .inService) : (r.serving s.lts 2).isSome = true := by
    simp [Rmu.serving, hrole, hr]
  rw [hl, Rmu.slips]
  rcases testDisagreement_rmu s.combined with he | ⟨k, hk, he⟩
  · rw [he]
    simp only [combined_keeps, hact, hserve s.measured (by simp [hin]), Bool.true_and]
  · have hki : i ≠ k := by
      intro h
      subst h
      have h2 := channelWithRole_role hrole
      simp only [combined_keeps] at hk
      rcases hk with hk | hk <;> have hk' := channelWithRole_role hk <;> omega
    have hserve' : ((Rmu.failMain k s.measured).serving s.lts 2).isSome = true :=
      hserve _ (by simp [Rmu.failMain, PerChannel.get_set, hki, hin])
    rw [he]
    simp only [combined_keeps, hserve']
    simp [Rmu.failMain, hact]

/-- The causes of a sample after those of the RMU are none of rope slip. -/
theorem actOnSample_sameEntries {k : CauseKind} (s : State) (ho : .overspeed ≠ k) (hs : .overspeedSevere ≠ k)
    (hr : .rollback ≠ k) (hv : .overrun ≠ k) : SameEntries k s (actOnSample s) :=
  (sameEntries_of_causes (by simp)).trans ((obsSample_sameEntries (srgSample (formPermitted (moveTravel s))) ho hs hr hv).trans
    (sampleEnd_sameEntries k _))

/-- ROPE_SLIP at a sample (R35). -/
theorem sampled_ropeSlip {s : State} {i : Fin 4} (ha : s.rmu.slipActive = true) (hi : s.servingIndex 2 = some i)
    (hcom : s.lts.committed = true) :
    let apart := ((s.measured.dM2 - 2 * s.measured.dSL).natAbs : Int) > 2000 * s.lts.slipLimit
    let t := actOnSample (rmuSample (tick s))
    (apart → t.hasCause .ropeSlip = true) ∧ (¬ apart → t.hasCause .ropeSlip = s.hasCause .ropeSlip) := by
  have hend := actOnSample_sameEntries (k := .ropeSlip) (rmuSample (tick s)) (by decide) (by decide) (by decide) (by decide)
  have hstart : SameEntries .ropeSlip s (testDisagreement s.combined) :=
    (sameEntries_of_causes (by simp)).trans (testDisagreement_sameEntries s.combined (by decide))
  have hr : rmuSample (tick s) = causeIf (decide (((s.measured.dM2 - 2 * s.measured.dSL).natAbs : Int) >
      2000 * s.lts.slipLimit)) .ropeSlip (testDisagreement s.combined) := by
    rw [← slips_eq ha hi]
    rfl
  dsimp only
  rw [hend.hasCause, hr]
  refine ⟨fun h => ?_, fun h => ?_⟩
  · rw [causeIf, if_pos (decide_eq_true h)]
    exact giveCause_has _ _ _ (by simp [hcom])
  · rw [causeIf, if_neg (by simpa using h)]
    exact hstart.hasCause

/-! ### Rollback (R78, R79) -/

/-- A brake commanded APPLIED stays so when a brake is commanded APPLIED. -/
theorem applyBrake_applied {b : Brake} (c : Brake) {s : State} (h : (s.obs.brakes.get b).command = .applied) :
    ((applyBrake c s).obs.brakes.get b).command = .applied := by
  rw [applyBrake_command]
  split
  · rfl
  · exact h

/-- A brake commanded APPLIED stays so at a cause (R89, R90). -/
theorem giveCause_applied {b : Brake} (k : CauseKind) (src : CauseSource) {s : State}
    (h : (s.obs.brakes.get b).command = .applied) : ((giveCause k src s).obs.brakes.get b).command = .applied := by
  have hservice {u : State} (hu : (u.obs.brakes.get b).command = .applied) :
      ((serviceBraking u).obs.brakes.get b).command = .applied := applyBrake_applied _ (by simpa using hu)
  have haction (before : Braking) {u : State} (hu : (u.obs.brakes.get b).command = .applied) :
      ((brakingAction before u).obs.brakes.get b).command = .applied := by
    unfold brakingAction
    split
    · split
      · exact hservice hu
      · exact hu
    · split
      · exact emergencyBraking_commands b u
      · exact hu
    · exact hu
  unfold giveCause
  split
  · exact h
  · split
    · have hjoin : ((if k.severity = .stop then stopAction (joinCause k src s) else joinCause k src s).obs.brakes.get b).command
          = .applied := by
        split <;> simpa using h
      simpa using haction .none hjoin
    · exact haction _ (by simpa [joinCause] using h)

theorem causeIf_applied {b : Brake} (cond : Bool) (k : CauseKind) {s : State}
    (h : (s.obs.brakes.get b).command = .applied) : ((causeIf cond k s).obs.brakes.get b).command = .applied := by
  unfold causeIf
  split
  · exact giveCause_applied _ _ h
  · exact h

theorem testLevels_applied {b : Brake} {s : State} (h : (s.obs.brakes.get b).command = .applied) :
    ((testLevels s).obs.brakes.get b).command = .applied := by
  unfold testLevels
  split
  · exact causeIf_applied _ _ (causeIf_applied _ _ (by simpa using h))
  · exact h

theorem rmuSample_applied {b : Brake} {s : State} (h : (s.obs.brakes.get b).command = .applied) :
    ((rmuSample s).obs.brakes.get b).command = .applied := by
  refine causeIf_applied _ _ ?_
  unfold testDisagreement
  split
  · split
    · exact giveCause_applied _ _ h
    · exact h
  · exact h

theorem applyRequest_applied {b : Brake} {s : State} (h : (s.obs.brakes.get b).command = .applied) :
    ((applyRequest s).obs.brakes.get b).command = .applied := by
  simpa [applyRequest] using applyBrake_applied .sbk h

theorem tsqSample_applied {b : Brake} {s : State} (h : (s.obs.brakes.get b).command = .applied) :
    ((tsqSample s).obs.brakes.get b).command = .applied := by
  unfold tsqSample
  split
  · exact h
  · split
    · exact applyRequest_applied h
    · split
      · exact applyRequest_applied h
      · exact h

theorem latchStop_applied {b : Brake} {s : State} (h : (s.obs.brakes.get b).command = .applied) :
    ((latchStop s).obs.brakes.get b).command = .applied := by
  unfold latchStop
  split
  · simpa using applyBrake_applied .sbk (s := dropDrive (s.updObs (fun o => { o with stopLatch := true }))) (by simpa using h)
  · exact h

/-- The state in which a sample tests the rollback measure: the travel of the sample added (R78, R79). -/
def rollbackTested (s : State) : State :=
  let u := causeIf (supervised s).absoluteExceeded .overspeedSevere (testLevels (supervised s))
  u.updObs (fun o => { o with rollback := o.rollback.step o.direction u.rmu.dx2 })

theorem obsSample_supervised (s : State) : obsSample (supervised s) = followTarget (latchStop (countStandstill
    (causeIf (supervised s).overran .overrun (causeIf (rollbackTested s).rolledBack .rollback (rollbackTested s))))) := rfl

theorem supervised_applied {b : Brake} {s : State} (h : (s.obs.brakes.get b).command = .applied) :
    ((supervised s).obs.brakes.get b).command = .applied := by
  have ht : ((tick s).obs.brakes.get b).command = .applied := by cases b <;> exact h
  simpa [supervised] using rmuSample_applied ht

/-- A brake commanded APPLIED before the rollback test stays so, and through the rest of the sample. -/
theorem rollbackTested_applied {b : Brake} {s : State} (h : (s.obs.brakes.get b).command = .applied) :
    ((rollbackTested s).obs.brakes.get b).command = .applied :=
  causeIf_applied _ _ (testLevels_applied (supervised_applied h))

theorem sampleRest_applied {b : Brake} {s : State} (h : ((rollbackTested s).obs.brakes.get b).command = .applied) :
    ((actOnSample (rmuSample (tick s))).obs.brakes.get b).command = .applied := by
  have hr : ((obsSample (supervised s)).obs.brakes.get b).command = .applied := by
    have hc : ((countStandstill (causeIf (supervised s).overran .overrun
        (causeIf (rollbackTested s).rolledBack .rollback (rollbackTested s)))).obs.brakes.get b).command = .applied :=
      causeIf_applied _ _ (causeIf_applied _ _ h)
    rw [obsSample_supervised]
    simpa using latchStop_applied hc
  exact (by simpa using tsqSample_applied hr : ((testDoors (tsqSample (obsSample (supervised s)))).obs.brakes.get b).command = _)

/-- The measure that the rollback test of a sample reads (R78, R79). -/
theorem causeIf_rollback {k : CauseKind} (cond : Bool) (s : State) (hk : k ≠ .stopDemand) :
    (causeIf cond k s).obs.rollback = s.obs.rollback := by
  unfold causeIf
  split
  · exact (giveCause_envelope .internal s hk).2.2.2.2.2.2.2.1
  · rfl

theorem rmuSample_rollback (s : State) : (rmuSample s).obs.rollback = s.obs.rollback := by
  unfold rmuSample
  rw [causeIf_rollback _ _ (by decide)]
  unfold testDisagreement
  split
  · split
    · exact (giveCause_envelope (k := .encoderDisagree) .internal _ (by decide)).2.2.2.2.2.2.2.1
    · rfl
  · rfl

/-- The report that the target is reached leaves the rollback measure: ARRIVING ends no travel (R71). -/
theorem srgSample_rollback (s : State) : (srgSample s).obs.rollback = s.obs.rollback := by
  have hr (u : State) : (reportReached u).obs.rollback = u.obs.rollback := by
    unfold reportReached
    split
    next h =>
      rw [changeTrip_obs _ (by simp [h])]
      simp [obsOnTrip, TripState.endsTravel]
    next => split <;> rfl
  unfold srgSample
  dsimp only
  split
  · rw [hr]
    simp
  · simp

theorem testLevels_rollback (s : State) : (testLevels s).obs.rollback = s.obs.rollback := by
  unfold testLevels
  split
  · simp only [causeIf_rollback _ _ (show CauseKind.overspeedSevere ≠ .stopDemand by decide),
      causeIf_rollback _ _ (show CauseKind.overspeed ≠ .stopDemand by decide), excursionMark]
    split <;> simp
  · rfl

theorem rollbackTested_rollback (s : State) :
    (rollbackTested s).obs.rollback = s.obs.rollback.step s.obs.direction s.measured.dx2 := by
  obtain ⟨-, hd, -⟩ := sampled_rmu s
  rw [(actOnSample_rmu (rmuSample (tick s))).2.2.1] at hd
  have hu : (supervised s).obs.rollback = s.obs.rollback := by
    simp [supervised, srgSample_rollback, rmuSample_rollback]
  have hdx : (supervised s).rmu.dx2 = s.measured.dx2 := by simp [supervised, hd]
  have hdir : (supervised s).obs.direction = s.obs.direction := by simp [supervised]
  simp [rollbackTested, causeIf_rollback, testLevels_rollback, hu, hdx, hdir]

/-! ### Coming to rest at a sample -/

/-- The trip state as a sample may leave it before its apply request: as it was, TRIPPED, or ARRIVING from RUNNING. -/
def Onward (v s : State) : Prop :=
  s.tsq.state = v.tsq.state ∨ s.tsq.state = .tripped ∨ (s.tsq.state = .arriving ∧ v.tsq.state = .running)

theorem Onward.of_state {v s t : State} (h : Onward v s) (ht : t.tsq.state = s.tsq.state) : Onward v t := by
  unfold Onward
  rw [ht]
  exact h

theorem Onward.giveCause {v s : State} (h : Onward v s) (k : CauseKind) (src : CauseSource) :
    Onward v (giveCause k src s) := by
  unfold Machine.giveCause
  split
  · exact h
  · split
    · exact .inr (.inl (by simp [trip]))
    · exact h.of_state (by simp)

theorem Onward.causeIf {v s : State} (h : Onward v s) (cond : Bool) (k : CauseKind) : Onward v (causeIf cond k s) := by
  unfold Machine.causeIf
  split
  · exact h.giveCause _ _
  · exact h

theorem Onward.testDisagreement {v s : State} (h : Onward v s) : Onward v (testDisagreement s) := by
  unfold Machine.testDisagreement
  split
  · split
    · unfold recordDisagreement
      refine Onward.giveCause (h.of_state ?_) _ _
      rfl
    · exact h
  · exact h

theorem Onward.supervised (s : State) : Onward s (supervised s) := by
  have hr : Onward s (rmuSample (tick s)) := by
    refine Onward.causeIf ?_ _ _
    exact Onward.testDisagreement (.inl (by simp))
  have hf : Onward s (handPhase (writeDuty (formReference (formPermitted (moveTravel (rmuSample (tick s))))))) :=
    hr.of_state (by simp)
  unfold Machine.supervised srgSample
  dsimp only
  split
  · unfold reportReached
    split
    next h => exact .inr (.inr ⟨by simp, by
      rcases hf with h' | h' | ⟨h', -⟩
      · rw [← h', h]
      · rw [h] at h'; cases h'
      · rw [h] at h'; cases h'⟩)
    next =>
      split
      · exact hf.of_state rfl
      · exact hf
  · exact hf

theorem Onward.obsSample (s : State) : Onward s (obsSample (Machine.supervised s)) := by
  have hl : Onward s (testLevels (Machine.supervised s)) := by
    unfold testLevels
    split
    · exact (((Onward.supervised s).of_state (by simp)).causeIf _ _).causeIf _ _
    · exact Onward.supervised s
  have ht : Onward s (rollbackTested s) := (hl.causeIf _ _).of_state rfl
  rw [obsSample_supervised]
  exact ((ht.causeIf (rollbackTested s).rolledBack .rollback).causeIf (Machine.supervised s).overran .overrun).of_state
    (by simp)

/-- A change to a state of rest starts the rollback measure from 0 (R79). -/
theorem changeTrip_rollback {new : TripState} (step : Option Step) {s : State} (h : s.tsq.state ≠ new)
    (he : new.endsTravel = true) : (changeTrip new step s).obs.rollback = .standing 0 := by
  rw [changeTrip_obs step h]
  simp [obsOnTrip, he]

theorem stopAt_rollback (k : Nat) {s : State} (h : s.tsq.state ≠ .stopped) :
    (stopAt k s).tsq.state = .stopped ∧ (stopAt k s).obs.rollback = .standing 0 := by
  have hr := changeTrip_rollback (new := .stopped) none (s := s.updTsq (fun t => { t with target := some k })) h rfl
  exact ⟨by simp [stopAt], by simpa [stopAt] using hr⟩

/-- The end of an arrival puts the line at rest (R120, R123). -/
theorem arrivalEnd_rests {s : State} (h : s.tsq.state = .arriving) :
    ((arrivalEnd s).tsq.state = .stopped ∨ (arrivalEnd s).tsq.state = .outOfService) ∧
      (arrivalEnd s).obs.rollback = .standing 0 := by
  obtain ⟨hs, hr⟩ := stopAt_rollback (s.tsq.target.getD 0) (s := dropDrive s) (by simp [h])
  unfold arrivalEnd
  dsimp only
  split
  · refine ⟨.inr (by simp), changeTrip_rollback _ ?_ rfl⟩
    simp [hs]
  · exact ⟨.inl (by simpa using hs), by simpa using hr⟩

/-- SBK commanded APPLIED, the apply request marked as waiting or not (R92). -/
def sbkRequested (waits : Bool) (s : State) : State :=
  (applyBrake .sbk s).updObs (fun o => { o with applyPending := waits })

/-- SBK proves an APPLIED command at once, or has proven it (R92, R93). -/
def State.sbkProves (s : State) : Bool := (applyBrake .sbk s).provenAs .sbk .applied

/-- An apply request waits for SBK's proof, or ends the arrival or the move at once (R92, R120, R122). -/
theorem applyRequest_eq (s : State) : applyRequest s =
    if s.sbkProves then
      if s.tsq.state = .arriving ∧ s.tsq.step = some .apply then arrivalEnd (sbkRequested false s)
      else if s.tsq.state = .inspecting ∧ s.tsq.step = some .holding then moveEnd (sbkRequested false s)
      else sbkRequested false s
    else sbkRequested true s := by
  have hs : (sbkRequested false s).tsq = s.tsq := by simp [sbkRequested]
  unfold applyRequest reportApplied
  by_cases hp : s.sbkProves = true
  · rw [if_pos hp, if_pos (by simpa [State.provenAs, State.sbkProves] using hp)]
    rw [← hs]
    rfl
  · rw [if_neg hp, if_neg (by simpa [State.provenAs, State.sbkProves] using hp)]
    rfl

/-- The apply request of a sample (R120, R122). -/
theorem tsqSample_eq (s : State) : tsqSample s =
    if s.standstill = false then s
    else if s.tsq.state = .arriving ∧ s.tsq.step = some .standstill then
      applyRequest (s.updTsq (fun t => { t with step := some .apply }))
    else if s.tsq.state = .inspecting ∧ s.tsq.step = some .holding ∧ s.obs.applyPending = false then applyRequest s
    else s := by
  simp only [tsqSample, Bool.not_eq_eq_eq_not, Bool.not_true]

/-- What ends an arrival or a move at a sample, of the state with SBK commanded (R120, R122). -/
inductive EndsTrip (s : State) : State → Prop
  | arrival : s.tsq.state = .arriving → EndsTrip s (arrivalEnd (sbkRequested false s))
  | move : s.tsq.state = .inspecting → EndsTrip s (moveEnd (sbkRequested false s))

/-- An apply request leaves the line as it travels, or ends its trip or move. -/
theorem applyRequest_ends (s : State) : (∃ w, applyRequest s = sbkRequested w s) ∨ EndsTrip s (applyRequest s) := by
  rw [applyRequest_eq]
  split
  · split
    next h => exact .inr (.arrival h.1)
    next =>
      split
      next h => exact .inr (.move h.1)
      next => exact .inl ⟨_, rfl⟩
  · exact .inl ⟨_, rfl⟩

/-- The end of an arrival or of a move puts the line at rest, the rollback measure from 0 (R79). -/
theorem EndsTrip.rests {s t : State} (h : EndsTrip s t) :
    (t.tsq.state = .stopped ∨ t.tsq.state = .outOfService) ∧ t.obs.rollback = .standing 0 ∧
      (s.tsq.state = .arriving ∨ s.tsq.state = .inspecting) := by
  cases h with
  | arrival ha =>
    obtain ⟨hst, hro⟩ := arrivalEnd_rests (s := sbkRequested false s) (by simpa [sbkRequested] using ha)
    exact ⟨hst, hro, .inl ha⟩
  | move hi =>
    refine ⟨.inr (by simp [moveEnd]), changeTrip_rollback _ ?_ rfl, .inr hi⟩
    simp [sbkRequested, hi]

/-- The end of a sample: SBK commanded, or the line comes to rest. -/
theorem tsqSample_ends (s : State) : ∃ u, (u = s ∨ u = s.updTsq (fun t => { t with step := some .apply })) ∧
    (tsqSample s = u ∨ (∃ w, tsqSample s = sbkRequested w u) ∨ EndsTrip u (tsqSample s)) := by
  rw [tsqSample_eq]
  split
  · exact ⟨s, .inl rfl, .inl rfl⟩
  · split
    · exact ⟨_, .inr rfl, .inr (applyRequest_ends _)⟩
    · split
      · exact ⟨s, .inl rfl, .inr (applyRequest_ends _)⟩
      · exact ⟨s, .inl rfl, .inl rfl⟩

/-- The end of a sample: the state and the measure stay, or the line comes to rest. -/
theorem tsqSample_rests (s : State) :
    ((tsqSample s).tsq.state = s.tsq.state ∧ (tsqSample s).obs.rollback = s.obs.rollback) ∨
      (((tsqSample s).tsq.state = .stopped ∨ (tsqSample s).tsq.state = .outOfService) ∧
        (tsqSample s).obs.rollback = .standing 0 ∧ (s.tsq.state = .arriving ∨ s.tsq.state = .inspecting)) := by
  obtain ⟨u, hu, h⟩ := tsqSample_ends s
  have hus : u.tsq.state = s.tsq.state ∧ u.obs = s.obs := by rcases hu with rfl | rfl <;> exact ⟨rfl, rfl⟩
  obtain ⟨hst, hob⟩ := hus
  rw [← hst, ← hob]
  rcases h with h | ⟨w, h⟩ | h
  · rw [h]
    exact .inl ⟨rfl, rfl⟩
  · rw [h]
    exact .inl (by simp [sbkRequested])
  · exact .inr h.rests

/-- The measure after a sample (R78, R79). -/
theorem sampled_rollback (s : State) :
    let t := testDoors (tsqSample (obsSample (supervised s)))
    t.obs.rollback = if t.tsq.state ≠ s.tsq.state ∧
        (t.tsq.state = .stopped ∨ t.tsq.state = .stranded ∨ t.tsq.state = .outOfService) then .standing 0
      else (rollbackTested s).obs.rollback := by
  have ho : (obsSample (supervised s)).obs.rollback = (rollbackTested s).obs.rollback := by
    rw [obsSample_supervised]
    simp [causeIf_rollback]
  have hon := Onward.obsSample s
  simp only [testDoors_keeps]
  rcases tsqSample_rests (obsSample (supervised s)) with ⟨hs, hr⟩ | ⟨hs, hr, hb⟩
  · rw [hs, hr, ho, if_neg]
    rcases hon with h | h | ⟨h, -⟩ <;> simp [h]
  · rw [hr, if_pos]
    refine ⟨fun hsame => ?_, by rcases hs with h | h <;> simp [h]⟩
    rw [hsame] at hs
    rcases hon with h | h | ⟨h, h'⟩
    · rw [h] at hb
      rcases hs with h1 | h1 <;> rcases hb with h2 | h2 <;> rw [h1] at h2 <;> cases h2
    · rcases hb with h2 | h2 <;> rw [h] at h2 <;> cases h2
    · rcases hs with h1 | h1 <;> rw [h'] at h1 <;> cases h1

theorem causeIf_true (k : CauseKind) {cond : Bool} {s : State} (h : cond = true) :
    causeIf cond k s = giveCause k .internal s := if_pos h

theorem causeIf_false (k : CauseKind) {cond : Bool} {s : State} (h : cond = false) : causeIf cond k s = s :=
  if_neg (by simp [h])

/-- ROLLBACK is given where the measure tested exceeds its limit, and not otherwise. -/
theorem sampled_rollbackCause {s : State} (hcom : s.lts.committed = true) :
    let t := testDoors (tsqSample (obsSample (supervised s)))
    ((rollbackTested s).rolledBack = true → GivenAtSample .rollback s t) ∧
      ((rollbackTested s).rolledBack = false → t.hasCause .rollback = s.hasCause .rollback) := by
  have hold : SameEntries .rollback s (rollbackTested s) :=
    (supervised_sameEntries s (by decide) (by decide)).trans ((testLevels_sameEntries _ (by decide) (by decide)).trans
      ((causeIf_sameEntries _ _ (by decide)).trans (sameEntries_of_causes rfl)))
  have hcauses (u : State) : (testDoors (tsqSample (followTarget (latchStop (countStandstill u))))).obs.causes = u.obs.causes := by
    simp
  dsimp only
  rw [obsSample_supervised]
  refine ⟨fun h => ?_, fun h => ?_⟩
  · rw [causeIf_true .rollback h]
    refine givenAtSample_of_prefix (u := rollbackTested s) (by simp [rollbackTested, hcom]) hold ?_ ?_
    · rw [hcauses]
      exact causeIf_prefix _ _ _
    · simp [causeEntry, State.xs, Rmu.xsMm, Rmu.xsUm, State.speed]
  · rw [causeIf_false .rollback h]
    exact (hold.trans ((causeIf_sameEntries _ _ (by decide)).trans (sameEntries_of_causes (hcauses _)))).hasCause

/-- The rollback check of a sample, by the measure after the sample's travel. -/
theorem sampled_rollbackChecks {s : State} (hcom : s.lts.committed = true) {moved : Rollback}
    (hm : moved = (rollbackTested s).obs.rollback) :
    let t := testDoors (tsqSample (obsSample (supervised s)))
    let limit := 2000 * s.lts.rollbackLimit
    (moved = .inactive → t.hasCause .rollback = s.hasCause .rollback) ∧
    (∀ rb2, moved = .running rb2 →
      (limit < rb2 → GivenAtSample .rollback s t) ∧ (rb2 ≤ limit → t.hasCause .rollback = s.hasCause .rollback)) ∧
    (∀ st2, moved = .standing st2 →
      (limit < st2.natAbs → s.obs.brakes.sbk.command = .applied → GivenAtSample .rollback s t) ∧
      (st2.natAbs ≤ limit ∨ t.obs.brakes.sbk.command = .lifted → t.hasCause .rollback = s.hasCause .rollback)) := by
  obtain ⟨hgive, hnot⟩ := sampled_rollbackCause hcom
  have hlts : (rollbackTested s).lts = s.lts := by simp [rollbackTested]
  subst hm
  refine ⟨fun h => hnot ?_, fun rb2 h => ⟨fun hl => hgive ?_, fun hl => hnot ?_⟩,
    fun st2 h => ⟨fun hl hsbk => hgive ?_, fun hl => hnot ?_⟩⟩
  · simp [State.rolledBack, h]
  · simp [State.rolledBack, h, hlts, hl]
  · simp [State.rolledBack, h, hlts, hl]
  · have happ : (rollbackTested s).obs.brakes.sbk.command = .applied := rollbackTested_applied (b := .sbk) hsbk
    simp only [State.rolledBack, h, hlts, happ, decide_true, Bool.true_and, decide_eq_true_eq]
    exact hl
  · simp only [State.rolledBack, h, hlts, Bool.and_eq_false_imp, decide_eq_true_eq, decide_eq_false_iff_not]
    intro happ hover
    rcases hl with hl | hl
    · omega
    · have hend : (testDoors (tsqSample (obsSample (supervised s)))).obs.brakes.sbk.command = .applied :=
        sampleRest_applied (b := .sbk) happ
      rw [hl] at hend
      cases hend

/-- Settles O9. -/
theorem slipAndRollbackGiveCauses : Obligations.SlipAndRollbackGiveCauses := by
  refine ⟨fun s i ha hi hin hcom => ⟨_, rfl, ?_⟩, fun s hcom => ⟨_, exec_measurementSample_supervised s, ?_⟩⟩
  · have hserve : s.servingIndex 2 = some i := by simp [State.servingIndex, hi, Option.filter, hin]
    obtain ⟨-, hd, -, -, -, -, hM, hS, hc⟩ := sampled_rmu s
    obtain ⟨hM', hS', -⟩ := measured_slip ha hserve
    dsimp only
    rw [hM, hS, hd, (hc i).1, ← hM', ← hS']
    exact ⟨rfl, rfl, sampled_ropeSlip ha hserve hcom⟩
  · have hdx : (testDoors (tsqSample (obsSample (supervised s)))).rmu.dx2 = s.measured.dx2 := (sampled_rmu s).2.1
    refine ⟨(sampled_rollback s).trans ?_, sampled_rollbackChecks hcom ?_⟩
    · simp only [decide_eq_true_eq]
      congr 1
      rw [rollbackTested_rollback, hdx]
      cases s.obs.rollback <;> rfl
    · rw [rollbackTested_rollback, hdx]
      cases s.obs.rollback <;> rfl

end Sys2Proof.Machine
end

section
/-! The permitted speed and the levels over it at a sample (R72 to R77). -/

namespace Sys2Proof.Machine

/-! ### The smallest term (R60, R73) -/

/-- The terms of the segments ahead, one by one (R60, R73). -/
theorem segmentTerms_eq (t : Lts) (d : Direction) (x reach : Int) (cap : Nat → Nat) (decel : Nat) :
    segmentTerms t d x reach cap decel = (List.range t.segmentCount).filterMap (fun j =>
      if j = t.segmentOf x then none else segmentTerm t d x reach cap decel j) := by
  unfold segmentTerms
  congr 1
  funext j
  unfold segmentTerm Lts.entryPoint
  cases d with
  | up =>
    by_cases hj : j = t.segmentOf x <;> simp [hj, sq]
  | down =>
    by_cases hc : j + 1 < t.segmentCount <;> simp only [hc, if_true, if_false] <;>
      by_cases hj : j = t.segmentOf x <;> simp [hj, sq]

theorem minOverSegments_eq (t : Lts) (d : Direction) (x reach : Int) (cap : Nat → Nat) (decel first : Nat) :
    minOverSegments t d x reach cap decel first = (segmentTerms t d x reach cap decel).foldl min first := by
  rw [segmentTerms_eq, List.foldl_filterMap, minOverSegments]
  congr 1
  funext m j
  split
  · rfl
  · split <;> simp_all

/-- The smallest term as the model forms it, for any cap by segment (R60, R73). -/
theorem smallestTerm_eq (t : Lts) (d : Direction) (x reach : Int) (insp : Bool) (factor decel last : Nat) :
    smallestTerm t d x reach insp factor decel last =
      let cap (j : Nat) : Nat := if insp then t.vInsp.toNat else t.scaledCap factor j
      let first := min (cap (t.segmentOf x) * cap (t.segmentOf x)) last
      if insp then first else minOverSegments t d x reach cap decel first := by
  unfold smallestTerm
  cases insp
  · simp only [Bool.false_eq_true, if_false, minOverSegments_eq, sq]
    rfl
  · simp [sq]

/-- The permitted speed squared as the smallest term (R73). -/
theorem permittedSquare_eq (s : State) : s.permittedSquare =
    smallestTerm s.lts s.obs.direction s.xs s.endDistance s.obs.inspSup s.obs.fSup (s.obs.aSup.getD 0)
      (s.lts.vCreepSup.toNat ^ 2 + 2 * s.obs.aSup.getD 0 * s.endDistance.toNat) := by
  rw [smallestTerm_eq, sq]
  rfl

/-- The levels of R74. -/
theorem levelExceeded_iff (speed p : Nat) (m : Int) :
    levelExceeded speed p m = true ↔ ((speed : Int) * 1024) ^ 2 > (p : Int) * (1024 + m) ^ 2 := by
  simp only [levelExceeded, decide_eq_true_eq, sq]
  push_cast
  rfl

/-! ### Events only join the sets -/

/-- From v to s kinds have only joined the event sets, the subscriptions as they were (R182). -/
def EventsGrow (v s : State) : Prop :=
  ∀ p, (s.lpu.ports.get p).subs = (v.lpu.ports.get p).subs ∧
    ∀ i, (v.lpu.ports.get p).events.getLsbD i = true → (s.lpu.ports.get p).events.getLsbD i = true

theorem EventsGrow.refl (s : State) : EventsGrow s s := fun _ => ⟨rfl, fun _ h => h⟩

theorem eventsGrow_portsKept (v : State) : PortsKept (EventsGrow v) where
  raise scope e _ h := by
    intro p
    obtain ⟨hs, he⟩ := h p
    rw [raiseOn_port]
    split
    · rw [record_eq]
      exact ⟨hs, fun i hi => by simp [he i hi]⟩
    · exact ⟨hs, he⟩
  ports h hp := by
    intro p
    rw [hp]
    exact h p

/-- A kind raised on every port joins the sets of the ports that are subscribed to it (R182). -/
theorem raise_joins (e : EventKind) (s : State) (p : PortId) (h : (s.lpu.ports.get p).subs.getLsbD e.code = true) :
    ((raise e s).lpu.ports.get p).events.getLsbD e.code = true := by
  rw [raise_eq, raising_port]
  simp [eventMask, bit_getLsbD, h]

/-- A kind raised on the way is in the sets at the end (R182). -/
theorem EventsGrow.joined {e : EventKind} {u t : State} (h : EventsGrow (raise e u) t) {p : PortId}
    (hs : (u.lpu.ports.get p).subs.getLsbD e.code = true) : (t.lpu.ports.get p).events.getLsbD e.code = true :=
  (h p).2 _ (raise_joins e u p hs)

/-! ### The envelope through a sample -/

/-- The envelope, its endpoint and the permitted speed are as they were. -/
structure SameTravel (s t : State) : Prop where
  envelope  : t.obs.envelope = s.obs.envelope
  endpoint  : t.obs.endpoint = s.obs.endpoint
  eFrom     : t.obs.eFrom = s.obs.eFrom
  rE2       : t.obs.rE2 = s.obs.rE2
  ctlStop   : t.obs.ctlStop = s.obs.ctlStop
  vPerm2    : t.obs.vPerm2 = s.obs.vPerm2
  excursion : t.obs.excursion = s.obs.excursion

theorem SameTravel.refl (s : State) : SameTravel s s := ⟨rfl, rfl, rfl, rfl, rfl, rfl, rfl⟩

theorem SameTravel.trans {s t u : State} (h : SameTravel s t) (h' : SameTravel t u) : SameTravel s u :=
  ⟨h'.1.trans h.1, h'.2.trans h.2, h'.3.trans h.3, h'.4.trans h.4, h'.5.trans h.5, h'.6.trans h.6, h'.7.trans h.7⟩

theorem giveCause_sameTravel {k : CauseKind} (src : CauseSource) (s : State) (hk : k ≠ .stopDemand) :
    SameTravel s (giveCause k src s) := by
  obtain ⟨h1, h2, h3, h4, h5, h6, h7, -⟩ := giveCause_envelope src s hk
  exact ⟨h1, h2, h3, h4, h5, h6, h7⟩

theorem causeIf_sameTravel {k : CauseKind} (cond : Bool) (s : State) (hk : k ≠ .stopDemand) :
    SameTravel s (causeIf cond k s) := by
  unfold causeIf
  split
  · exact giveCause_sameTravel _ _ hk
  · exact .refl s

theorem rmuSample_sameTravel (s : State) : SameTravel s (rmuSample s) := by
  have hd (u : State) : SameTravel u (testDisagreement u) := by
    unfold testDisagreement
    split
    · split
      · unfold recordDisagreement
        refine SameTravel.trans ?_ (giveCause_sameTravel .internal _ (by decide))
        exact ⟨rfl, rfl, rfl, rfl, rfl, rfl, rfl⟩
      · exact .refl u
    · exact .refl u
  have hu : SameTravel s (s.updRmu (Rmu.sample s.lts)) := ⟨rfl, rfl, rfl, rfl, rfl, rfl, rfl⟩
  exact (hu.trans (hd _)).trans (causeIf_sameTravel (k := .ropeSlip) _ _ (by decide))

/-- A change to a state in which the line may travel leaves the envelope (R71). -/
theorem changeTrip_sameTravel {new : TripState} (step : Option Step) (s : State) (hn : new.endsTravel = false) :
    SameTravel s (changeTrip new step s) := by
  by_cases h : s.tsq.state = new
  · rw [changeTrip_same step h]
    exact .refl s
  · have ho := changeTrip_obs step h
    simp only [obsOnTrip, hn, updObs_obs] at ho
    constructor <;> rw [ho] <;> rfl

theorem srgSample_sameTravel (s : State) : SameTravel s (srgSample s) := by
  have hf : SameTravel s (handPhase (writeDuty (formReference s))) := by constructor <;> simp
  unfold srgSample
  dsimp only
  split
  · refine hf.trans ?_
    unfold reportReached
    split
    · exact changeTrip_sameTravel _ _ rfl
    · split <;> exact ⟨rfl, rfl, rfl, rfl, rfl, rfl, rfl⟩
  · exact hf

theorem supervised_sameTravel (s : State) :
    SameTravel (formPermitted (moveTravel (rmuSample (tick s)))) (supervised s) := srgSample_sameTravel _

/-- The permitted speed formed at a sample under the envelope (R72, R73). -/
theorem supervised_vPerm2 {s : State} (h : s.obs.envelope = true) :
    (supervised s).obs.vPerm2 =
      let de := max 0 (Int.tdiv (s.obs.rE2 - travel s.obs.direction (supervised s).rmu.dx2) 2000)
      some (smallestTerm s.lts s.obs.direction (supervised s).xs de s.obs.inspSup s.obs.fSup (s.obs.aSup.getD 0)
        (s.lts.vCreepSup.toNat ^ 2 + 2 * s.obs.aSup.getD 0 * de.toNat)) := by
  rw [(supervised_sameTravel s).vPerm2]
  have hr := rmuSample_sameTravel (tick s)
  have henv : (moveTravel (rmuSample (tick s))).obs.envelope = true := by simpa [moveTravel, hr.envelope] using h
  unfold formPermitted
  rw [if_pos henv]
  simp only [updObs_obs, permittedSquare_eq]
  simp [State.endDistance, State.xs, Rmu.xsMm, Rmu.xsUm, hr.rE2, supervised]

/-- Without an envelope no permitted speed is formed (R73). -/
theorem supervised_unlimited {s : State} (h : s.obs.envelope = false) :
    (supervised s).obs.envelope = false ∧ (supervised s).obs.vPerm2 = none ∧ (supervised s).obs.rE2 = s.obs.rE2 := by
  have hs := supervised_sameTravel s
  have hr := rmuSample_sameTravel (tick s)
  have henv : (moveTravel (rmuSample (tick s))).obs.envelope = false := by simpa [moveTravel, hr.envelope] using h
  have hf : formPermitted (moveTravel (rmuSample (tick s))) =
      (moveTravel (rmuSample (tick s))).updObs (fun o => { o with vPerm2 := none }) := if_neg (by rw [henv]; decide)
  rw [hs.envelope, hs.vPerm2, hs.rE2, hf]
  exact ⟨by simpa using henv, rfl, by simpa [moveTravel] using hr.rE2⟩

/-- A change to a state of rest ends the envelope (R71). -/
theorem changeTrip_ended {new : TripState} (step : Option Step) {s : State} (h : s.tsq.state ≠ new)
    (he : new.endsTravel = true) : (changeTrip new step s).obs.envelope = false ∧ (changeTrip new step s).obs.vPerm2 = none ∧
      (changeTrip new step s).obs.rE2 = s.obs.rE2 := by
  rw [changeTrip_obs step h]
  simp [obsOnTrip, he]

/-- The end of an arrival or of a move ends the envelope, r_e2 as it was (R71). -/
theorem EndsTrip.envelope {s t : State} (h : EndsTrip s t) :
    t.obs.envelope = false ∧ t.obs.vPerm2 = none ∧ t.obs.rE2 = s.obs.rE2 := by
  cases h with
  | arrival ha =>
    have hstop := changeTrip_ended (new := .stopped) none (s := (dropDrive (sbkRequested false s)).updTsq
      (fun t => { t with target := some ((sbkRequested false s).tsq.target.getD 0) })) (by simp [sbkRequested, ha]) rfl
    have hat : (stopAt ((sbkRequested false s).tsq.target.getD 0) (dropDrive (sbkRequested false s))).obs.envelope = false ∧
        (stopAt ((sbkRequested false s).tsq.target.getD 0) (dropDrive (sbkRequested false s))).obs.vPerm2 = none ∧
        (stopAt ((sbkRequested false s).tsq.target.getD 0) (dropDrive (sbkRequested false s))).obs.rE2 = s.obs.rE2 := by
      simpa [stopAt, sbkRequested] using hstop
    unfold arrivalEnd
    dsimp only
    split
    · have hout := changeTrip_ended (new := .outOfService) none (s := openAtTerminal ((sbkRequested false s).tsq.target.getD 0)
        (arrivalTest (stopAt ((sbkRequested false s).tsq.target.getD 0) (dropDrive (sbkRequested false s)))))
        (by simp [stopAt]) rfl
      exact ⟨hout.1, hout.2.1, hout.2.2.trans (by simpa using hat.2.2)⟩
    · simpa using hat
  | move hi =>
    have hout := changeTrip_ended (new := .outOfService) none (s := dropDrive (sbkRequested false s))
      (by simp [sbkRequested, hi]) rfl
    simpa [moveEnd, sbkRequested] using hout

/-- The end of a sample leaves the envelope, or the line comes to rest, which ends it (R71). -/
theorem tsqSample_travel (s : State) : SameTravel s (tsqSample s) ∨
    ((tsqSample s).obs.envelope = false ∧ (tsqSample s).obs.vPerm2 = none ∧ (tsqSample s).obs.rE2 = s.obs.rE2) := by
  obtain ⟨u, hu, h⟩ := tsqSample_ends s
  have hob : u.obs = s.obs := by rcases hu with rfl | rfl <;> rfl
  have hw (w : Bool) : SameTravel s (sbkRequested w u) := by constructor <;> simp [sbkRequested, hob]
  rcases h with h | ⟨w, h⟩ | h
  · rw [h]
    exact .inl (by constructor <;> rw [hob])
  · rw [h]
    exact .inl (hw w)
  · exact .inr (by rw [← hob]; exact h.envelope)

/-! ### The OBS at a sample -/

/-- The state in which the OBS forms its endpoint afresh at a sample: its causes given, its standstill counted (R72). -/
def followed (s : State) : State :=
  latchStop (countStandstill (causeIf s.overran .overrun (beforeOverrun s)))

theorem obsSample_eq (s : State) : obsSample s = followTarget (followed s) := rfl

/-- The OBS leaves the envelope as the levels left it, until it follows the target. -/
theorem followed_sameTravel (s : State) : SameTravel (testLevels s) (followed s) := by
  have hb : SameTravel (testLevels s) (beforeOverrun s) := by
    refine (causeIf_sameTravel (k := .overspeedSevere) s.absoluteExceeded (testLevels s) (by decide)).trans ?_
    refine SameTravel.trans ?_ (causeIf_sameTravel (k := .rollback) _ _ (by decide))
    exact ⟨rfl, rfl, rfl, rfl, rfl, rfl, rfl⟩
  have hc := hb.trans (causeIf_sameTravel (k := .overrun) s.overran (beforeOverrun s) (by decide))
  have hs : SameTravel (causeIf s.overran .overrun (beforeOverrun s)) (followed s) := by constructor <;> simp [followed]
  exact hc.trans hs

theorem followTarget_limits (s : State) : (followTarget s).obs.envelope = s.obs.envelope ∧
    (followTarget s).obs.vPerm2 = s.obs.vPerm2 ∧ (followTarget s).obs.excursion = s.obs.excursion := by
  unfold followTarget
  split
  · split <;> exact ⟨rfl, rfl, rfl⟩
  · exact ⟨rfl, rfl, rfl⟩

/-- The three levels tested under the envelope (R74 to R76). -/
theorem testLevels_of_envelope {s : State} {p : Nat} (he : s.obs.envelope = true) (hp : s.obs.vPerm2 = some p) :
    testLevels s = causeIf (levelExceeded s.speed p s.lts.margin3) .overspeedSevere
      (causeIf (levelExceeded s.speed p s.lts.margin2 || levelExceeded s.speed p s.lts.margin3) .overspeed
        (excursionMark (levelExceeded s.speed p s.lts.margin1) s)) := by
  simp only [testLevels, he, hp]

/-- Without an envelope no level is tested (R73). -/
theorem testLevels_unlimited {s : State} (he : s.obs.envelope = false) : testLevels s = s := by
  simp [testLevels, he]

theorem excursionMark_travel (b : Bool) (s : State) : (excursionMark b s).obs = { s.obs with excursion := b } := by
  unfold excursionMark
  dsimp only
  split <;> simp

/-- The end of a sample after the levels: the excursion mark and the permitted speed stay while the envelope does. -/
theorem sampled_limits (s : State) :
    let t := testDoors (tsqSample (obsSample s))
    (t.obs.envelope = true → (testLevels s).obs.envelope = true ∧ t.obs.vPerm2 = (testLevels s).obs.vPerm2 ∧
      t.obs.excursion = (testLevels s).obs.excursion) ∧
    ((testLevels s).obs.vPerm2 = none → t.obs.vPerm2 = none) := by
  obtain ⟨fe, fv, fx⟩ := followTarget_limits (followed s)
  have hf := followed_sameTravel s
  simp only [testDoors_keeps]
  rw [obsSample_eq]
  rcases tsqSample_travel (followTarget (followed s)) with h | ⟨h1, h2, -⟩
  · refine ⟨fun he => ⟨?_, ?_, ?_⟩, fun hn => ?_⟩
    · rw [h.envelope, fe, hf.envelope] at he
      exact he
    · rw [h.vPerm2, fv, hf.vPerm2]
    · rw [h.excursion, fx, hf.excursion]
    · rw [h.vPerm2, fv, hf.vPerm2, hn]
  · exact ⟨fun he => (by rw [h1] at he; cases he), fun _ => h2⟩

/-! ### The causes of a sample (R76, R77) -/

/-- The entries of a kind in u are those of s, or the entry that the sample ending in t gives. -/
def OldOrNew (k : CauseKind) (s t u : State) : Prop :=
  ∀ e ∈ u.obs.causes, e.kind = k → e ∈ s.obs.causes ∨ e = causeEntry k .internal t

theorem OldOrNew.of_sameEntries {k : CauseKind} {s t u : State} (h : SameEntries k s u) : OldOrNew k s t u :=
  fun e he hk => .inl ((h e hk).mp he)

/-- A cause given on the way keeps this, where its entry is the one that the sample publishes. -/
theorem OldOrNew.causeIf {k k' : CauseKind} {s t u : State} (h : OldOrNew k s t u) (cond : Bool)
    (he : causeEntry k .internal u = causeEntry k .internal t) : OldOrNew k s t (causeIf cond k' u) := by
  intro e hm hk
  unfold Machine.causeIf at hm
  split at hm
  · rw [giveCause_causes] at hm
    split at hm
    · rcases List.mem_append.mp hm with hm | hm
      · exact h e hm hk
      · rw [List.mem_singleton] at hm
        have hkk : k' = k := by rw [← hk, hm]; rfl
        rw [hm, hkk, he]
        exact .inr rfl
    · exact h e hm hk
  · exact h e hm hk

/-- A kind listed at the end of a sample is given at the sample, when its entries are old or new. -/
theorem OldOrNew.given {k : CauseKind} {s t : State} (h : OldOrNew k s t t) (hc : t.hasCause k = true) :
    GivenAtSample k s t := by
  simp only [State.hasCause, List.any_eq_true, decide_eq_true_eq] at hc
  obtain ⟨e, hm, hk⟩ := hc
  rcases h e hm hk with ho | hn
  · exact ⟨e, hm, hk, .inl ho⟩
  · exact ⟨e, hm, hk, .inr (by rw [hn]; exact ⟨rfl, rfl, rfl, rfl⟩)⟩

/-- The state at the end of a sample. -/
def sampleEnd (s : State) : State := testDoors (tsqSample (obsSample (supervised s)))

/-- The causes at the end of a sample, in the order in which the OBS gives them. -/
theorem sampleEnd_causes (s : State) : (sampleEnd s).obs.causes =
    (causeIf (supervised s).overran .overrun (beforeOverrun (supervised s))).obs.causes := by
  simp [sampleEnd, obsSample_causes]

/-- A cause given in a state with the published set of the sample has the entry of its end. -/
theorem causeEntry_sampleEnd {s u : State} (k : CauseKind) (hr : u.rmu.x2 = (supervised s).rmu.x2 ∧
    u.rmu.vSup = (supervised s).rmu.vSup ∧ u.rmu.known = (supervised s).rmu.known ∧ u.clock = (supervised s).clock) :
    causeEntry k .internal u = causeEntry k .internal (sampleEnd s) := by
  obtain ⟨hx, hv, hk, hc⟩ := hr
  simp [causeEntry, State.xs, Rmu.xsMm, Rmu.xsUm, State.speed, hx, hv, hk, hc, sampleEnd]

theorem OldOrNew.of_causes {k : CauseKind} {s t u v : State} (h : OldOrNew k s t u) (hc : v.obs.causes = u.obs.causes) :
    OldOrNew k s t v := by
  unfold OldOrNew
  rw [hc]
  exact h

theorem OldOrNew.testLevels {k : CauseKind} {s t u : State} (h : OldOrNew k s t u)
    (he : ∀ v : State, v.rmu.x2 = u.rmu.x2 ∧ v.rmu.vSup = u.rmu.vSup ∧ v.rmu.known = u.rmu.known ∧ v.clock = u.clock →
      causeEntry k .internal v = causeEntry k .internal t) : OldOrNew k s t (testLevels u) := by
  unfold Machine.testLevels
  split
  · exact ((h.of_causes (excursionMark_causes _ _)).causeIf _ (he _ (by simp))).causeIf _ (he _ (by simp))
  · exact h

theorem OldOrNew.testRollback {k : CauseKind} {s t u : State} (h : OldOrNew k s t u)
    (he : causeEntry k .internal u = causeEntry k .internal t) : OldOrNew k s t (testRollback u) := by
  unfold Machine.testRollback
  refine OldOrNew.causeIf (h.of_causes ?_) _ he
  rfl

/-- The entries of a kind that the RMU does not give are old or new at the end of a sample. -/
theorem sampled_oldOrNew {k : CauseKind} (s : State) (hd : .encoderDisagree ≠ k) (hs : .ropeSlip ≠ k) :
    OldOrNew k s (sampleEnd s) (sampleEnd s) := by
  have h0 : OldOrNew k s (sampleEnd s) (supervised s) := .of_sameEntries (supervised_sameEntries s hd hs)
  have h1 := h0.testLevels (fun _ => causeEntry_sampleEnd k)
  have h2 := h1.causeIf (k' := .overspeedSevere) (supervised s).absoluteExceeded (causeEntry_sampleEnd k (by simp))
  have h3 : OldOrNew k s (sampleEnd s) (beforeOverrun (supervised s)) := h2.testRollback (causeEntry_sampleEnd k (by simp))
  have h4 := h3.causeIf (k' := .overrun) (supervised s).overran (causeEntry_sampleEnd k (by simp))
  exact h4.of_causes (sampleEnd_causes s)

/-- A kind listed after the levels, or after the line check, is listed at the end of the sample. -/
theorem sampled_has {s : State} {k : CauseKind} (h : (causeIf (supervised s).absoluteExceeded .overspeedSevere
    (testLevels (supervised s))).hasCause k = true) : (sampleEnd s).hasCause k = true := by
  refine hasCause_of_prefix ?_ k h
  rw [sampleEnd_causes]
  exact (testRollback_prefix _).trans (causeIf_prefix _ _ _)

/-- After the line check a sample gives no overspeed cause. -/
theorem sampled_same {s : State} {k : CauseKind} (hr : .rollback ≠ k) (hv : .overrun ≠ k) :
    SameEntries k (causeIf (supervised s).absoluteExceeded .overspeedSevere (testLevels (supervised s))) (sampleEnd s) :=
  (testRollback_sameEntries _ hr).trans ((causeIf_sameEntries (supervised s).overran (beforeOverrun (supervised s)) hv).trans
    (sameEntries_of_causes (sampleEnd_causes s)))

/-- The steps of a sample before the OBS keep what the operations keep. -/
theorem OpsKept.supervised {P : State → Prop} (hP : OpsKept P) (hF : SampleKept P) {s : State} (h : P s) :
    P (supervised s) :=
  hP.srgSample (hF.formed (hP.moveTravel (hP.causeIf _ _ (hP.testDisagreement hF (hF.rmu _ (hP.tick hF h))))))

/-- The OBS after the levels, and the end of a sample, keep what the operations keep. -/
theorem OpsKept.sampleRest {P : State → Prop} (hP : OpsKept P) {s : State} (h : P (Machine.testLevels (Machine.supervised s))) :
    P (sampleEnd s) :=
  hP.doors (hP.tsqSample (hP.followTarget (hP.latchStop (hP.mark _ (hP.causeIf _ _ (hP.causeIf _ _
    (hP.mark _ (hP.causeIf _ _ h) rfl rfl rfl rfl rfl))) rfl rfl rfl rfl rfl))))

/-- The warning of an excursion that begins is in the event sets at the end of the sample (R75). -/
theorem sampled_warning {s : State} {v : Nat} (he : (supervised s).obs.envelope = true)
    (hv : (supervised s).obs.vPerm2 = some v) (hx : levelExceeded (supervised s).speed v (supervised s).lts.margin1 = true)
    (hold : (supervised s).obs.excursion = false) {p : PortId} (hp : (s.lpu.ports.get p).subs.getLsbD 14 = true) :
    ((sampleEnd s).lpu.ports.get p).events.getLsbD 14 = true := by
  have hs := (eventsGrow_portsKept s).opsKept.supervised (eventsGrow_portsKept s).sampleKept (.refl s)
  have hm : excursionMark (levelExceeded (supervised s).speed v (supervised s).lts.margin1) (supervised s) =
      raise .overspeedWarning ((supervised s).updObs (fun o => { o with excursion := true })) := by
    rw [hx, excursionMark, hold]
    rfl
  have hP := (eventsGrow_portsKept (raise .overspeedWarning
    ((supervised s).updObs (fun o => { o with excursion := true })))).opsKept
  have hl : EventsGrow (raise .overspeedWarning ((supervised s).updObs (fun o => { o with excursion := true })))
      (testLevels (supervised s)) := by
    rw [testLevels_of_envelope he hv, hm]
    exact hP.causeIf _ _ (hP.causeIf _ _ (.refl _))
  refine (hP.sampleRest hl).joined (e := .overspeedWarning) ?_
  show ((supervised s).lpu.ports.get p).subs.getLsbD 14 = true
  rw [(hs p).1, hp]

/-- The line check (R77). -/
theorem absoluteExceeded_iff {s : State} (hc : s.lts.committed = true) :
    s.absoluteExceeded = true ↔ (s.speed : Int) * 1024 > s.lts.vLineMax * (1024 + s.lts.margin3) := by
  simp [State.absoluteExceeded, hc]

/-- OVERSPEED_SEVERE is given by the line check, with an envelope in force or without (R77). -/
theorem sampled_lineCheck {s : State} (hcom : s.lts.committed = true)
    (h : (sampleEnd s).speed * 1024 > s.lts.vLineMax * (1024 + s.lts.margin3)) :
    GivenAtSample .overspeedSevere s (sampleEnd s) := by
  have hsp : (sampleEnd s).speed = (supervised s).speed := by simp [sampleEnd, State.speed]
  have ha : (supervised s).absoluteExceeded = true := (absoluteExceeded_iff (by simpa using hcom)).mpr (by
    rw [hsp] at h
    simpa using h)
  refine (sampled_oldOrNew s (by decide) (by decide)).given (sampled_has ?_)
  rw [causeIf_true _ ha]
  exact giveCause_has _ _ _ (by simp [hcom])

/-- The overspeed causes of a sample without an envelope (R73, R77). -/
theorem sampled_unlimited {s : State} (hcom : s.lts.committed = true) (henv : s.obs.envelope = false) :
    (sampleEnd s).obs.vPerm2 = none ∧ (sampleEnd s).hasCause .overspeed = s.hasCause .overspeed ∧
      (¬ (sampleEnd s).speed * 1024 > s.lts.vLineMax * (1024 + s.lts.margin3) →
        (sampleEnd s).hasCause .overspeedSevere = s.hasCause .overspeedSevere) := by
  obtain ⟨hu, hv, -⟩ := supervised_unlimited henv
  have hl := testLevels_unlimited hu
  have hsp : (sampleEnd s).speed = (supervised s).speed := by simp [sampleEnd, State.speed]
  refine ⟨(sampled_limits (supervised s)).2 (by rw [hl, hv]), ?_, fun h => ?_⟩
  · rw [(sampled_same (by decide) (by decide)).hasCause, (causeIf_sameEntries _ _ (by decide)).hasCause, hl,
      (supervised_sameEntries s (by decide) (by decide)).hasCause]
  · have ha : (supervised s).absoluteExceeded = false := by
      rw [hsp] at h
      have := mt (absoluteExceeded_iff (s := supervised s) (by simpa using hcom)).mp (by simpa using h)
      simpa using this
    rw [(sampled_same (by decide) (by decide)).hasCause, causeIf_false _ ha, hl,
      (supervised_sameEntries s (by decide) (by decide)).hasCause]

/-- The causes and the mark of a sample under the envelope, with the permitted speed that it formed (R74 to R77). -/
theorem sampled_levels {s : State} {v : Nat} (hcom : s.lts.committed = true) (he : (supervised s).obs.envelope = true)
    (hv : (supervised s).obs.vPerm2 = some v) :
    let exceeds (m : Int) := levelExceeded (sampleEnd s).speed v m = true
    let beyondLine := (sampleEnd s).speed * 1024 > s.lts.vLineMax * (1024 + s.lts.margin3)
    ((sampleEnd s).obs.envelope = true → (sampleEnd s).obs.vPerm2 = some v ∧
      ((sampleEnd s).obs.excursion = true ↔ exceeds s.lts.margin1)) ∧
    (exceeds s.lts.margin2 ∨ exceeds s.lts.margin3 → GivenAtSample .overspeed s (sampleEnd s)) ∧
    (exceeds s.lts.margin3 ∨ beyondLine → GivenAtSample .overspeedSevere s (sampleEnd s)) ∧
    (¬ exceeds s.lts.margin2 → ¬ exceeds s.lts.margin3 → (sampleEnd s).hasCause .overspeed = s.hasCause .overspeed) ∧
    (¬ exceeds s.lts.margin3 → ¬ beyondLine → (sampleEnd s).hasCause .overspeedSevere = s.hasCause .overspeedSevere) := by
  have hsp : (sampleEnd s).speed = (supervised s).speed := by simp [sampleEnd, State.speed]
  have hl : (supervised s).lts = s.lts := by simp
  have ht := testLevels_of_envelope he hv
  rw [hl] at ht
  have hx : (testLevels (supervised s)).obs.excursion = levelExceeded (supervised s).speed v s.lts.margin1 := by
    rw [ht, (causeIf_sameTravel (k := .overspeedSevere) _ _ (by decide)).excursion,
      (causeIf_sameTravel (k := .overspeed) _ _ (by decide)).excursion, excursionMark_travel]
  have hp : (testLevels (supervised s)).obs.vPerm2 = some v := by
    rw [ht, (causeIf_sameTravel (k := .overspeedSevere) _ _ (by decide)).vPerm2,
      (causeIf_sameTravel (k := .overspeed) _ _ (by decide)).vPerm2, excursionMark_travel, hv]
  have hmark : SameEntries .overspeed s (excursionMark (levelExceeded (supervised s).speed v s.lts.margin1) (supervised s)) :=
    (supervised_sameEntries s (by decide) (by decide)).trans (sameEntries_of_causes (excursionMark_causes _ _))
  have hmark' : SameEntries .overspeedSevere s
      (excursionMark (levelExceeded (supervised s).speed v s.lts.margin1) (supervised s)) :=
    (supervised_sameEntries s (by decide) (by decide)).trans (sameEntries_of_causes (excursionMark_causes _ _))
  have habs := absoluteExceeded_iff (s := supervised s) (by simpa using hcom)
  rw [hl] at habs
  dsimp only
  rw [hsp]
  refine ⟨fun hend => ?_, fun hov => ?_, fun hov => ?_, fun h2 h3 => ?_, fun h3 hline => ?_⟩
  · obtain ⟨-, hv', hx'⟩ := (sampled_limits (supervised s)).1 hend
    exact ⟨hv'.trans hp, by rw [show (sampleEnd s).obs.excursion = _ from hx', hx]⟩
  · refine (sampled_oldOrNew s (by decide) (by decide)).given (sampled_has (hasCause_of_prefix (causeIf_prefix _ _ _) _ ?_))
    rw [ht]
    refine hasCause_of_prefix (causeIf_prefix _ _ _) _ ?_
    rw [causeIf_true _ (by simpa using hov)]
    exact giveCause_has _ _ _ (by simp [hcom])
  · rcases hov with h3 | hline
    · refine (sampled_oldOrNew s (by decide) (by decide)).given (sampled_has (hasCause_of_prefix (causeIf_prefix _ _ _) _ ?_))
      rw [ht, causeIf_true .overspeedSevere h3]
      exact giveCause_has _ _ _ (by simp [hcom])
    · exact sampled_lineCheck hcom (by rw [hsp]; exact hline)
  · rw [(sampled_same (by decide) (by decide)).hasCause, (causeIf_sameEntries _ _ (by decide)).hasCause, ht,
      (causeIf_sameEntries _ _ (by decide)).hasCause, causeIf_false _ (by simp [h2, h3]), hmark.hasCause]
  · rw [(sampled_same (by decide) (by decide)).hasCause, causeIf_false _ (Bool.eq_false_iff.mpr (mt habs.mp hline)), ht,
      causeIf_false .overspeedSevere (by simpa using h3), (causeIf_sameEntries _ _ (by decide)).hasCause, hmark'.hasCause]

/-! ### The endpoint after a sample (R72) -/

/-- Following the target, by its position alone (R72). -/
theorem followTarget_eq (s : State) : followTarget s =
    match s.cpt.target.map (·.position), s.obs.eFrom with
    | some q, some f =>
      if s.obs.envelope = true ∧ s.obs.ctlStop = false ∧ q ≠ f then s.updObs (fun o => o.endpointFrom s q) else s
    | _, _ => s := by
  unfold followTarget
  cases s.cpt.target <;> cases s.obs.eFrom <;> simp

theorem causeIf_cpt {k : CauseKind} (cond : Bool) (s : State) (hk : k ≠ .stopDemand) : (causeIf cond k s).cpt = s.cpt := by
  unfold causeIf
  split
  · exact (giveCause_envelope .internal s hk).2.2.2.2.2.2.2.2
  · rfl

/-- The place of the stop target stays through a sample; it may be frozen (R48). -/
theorem supervised_place (s : State) : (supervised s).cpt.target.map (·.position) = s.cpt.target.map (·.position) := by
  have hf (u : State) : (handPhase u).cpt.target.map (·.position) = u.cpt.target.map (·.position) := by
    unfold handPhase
    split
    · dsimp only
      split
      · cases h : u.cpt.target <;> simp [h]
      · rfl
    · rfl
  have hr : (rmuSample (tick s)).cpt = s.cpt := by
    have hd : (testDisagreement s.combined).cpt = s.cpt := by
      unfold testDisagreement
      split
      · split
        · unfold recordDisagreement
          rw [(giveCause_envelope (k := .encoderDisagree) .internal _ (by decide)).2.2.2.2.2.2.2.2]
          rfl
        · rfl
      · rfl
    exact (causeIf_cpt (k := .ropeSlip) _ (testDisagreement s.combined) (by decide)).trans hd
  have hs (u : State) : (srgSample u).cpt.target.map (·.position) = u.cpt.target.map (·.position) := by
    have ht := hf (writeDuty (formReference u))
    unfold srgSample
    dsimp only
    split
    · rw [show (reportReached _).cpt = (handPhase (writeDuty (formReference u))).cpt by simp, ht]
      simp
    · rw [ht]
      simp
  unfold supervised
  rw [hs, show (formPermitted _).cpt = (rmuSample (tick s)).cpt by simp, hr]

/-- The endpoint and r_e2 as the OBS finds them (R72). -/
theorem supervised_endpoint (s : State) : (supervised s).obs.endpoint = s.obs.endpoint ∧
    (supervised s).obs.eFrom = s.obs.eFrom ∧ (supervised s).obs.ctlStop = s.obs.ctlStop ∧
    (supervised s).obs.excursion = s.obs.excursion := by
  have hs := supervised_sameTravel s
  have hr := rmuSample_sameTravel (tick s)
  rw [hs.endpoint, hs.eFrom, hs.ctlStop, hs.excursion]
  have hf (u : State) : (formPermitted u).obs.endpoint = u.obs.endpoint ∧ (formPermitted u).obs.eFrom = u.obs.eFrom ∧
      (formPermitted u).obs.ctlStop = u.obs.ctlStop ∧ (formPermitted u).obs.excursion = u.obs.excursion := by
    unfold formPermitted
    split <;> exact ⟨rfl, rfl, rfl, rfl⟩
  obtain ⟨h1, h2, h3, h4⟩ := hf (moveTravel (rmuSample (tick s)))
  rw [h1, h2, h3, h4]
  exact ⟨hr.endpoint, hr.eFrom, hr.ctlStop, hr.excursion⟩

/-- The levels leave the endpoint and the stop target (R75, R76). -/
theorem testLevels_endpoint (s : State) : (testLevels s).obs.endpoint = s.obs.endpoint ∧
    (testLevels s).obs.eFrom = s.obs.eFrom ∧ (testLevels s).obs.ctlStop = s.obs.ctlStop ∧
    (testLevels s).obs.envelope = s.obs.envelope ∧ (testLevels s).obs.rE2 = s.obs.rE2 ∧ (testLevels s).cpt = s.cpt := by
  unfold testLevels
  split
  · have h (b1 b2 b3 : Bool) := (causeIf_sameTravel (k := .overspeed) b2 (excursionMark b1 s) (by decide)).trans
      (causeIf_sameTravel (k := .overspeedSevere) b3 _ (by decide))
    dsimp only
    refine ⟨?_, ?_, ?_, ?_, ?_, ?_⟩
    · rw [(h _ _ _).endpoint, excursionMark_travel]
    · rw [(h _ _ _).eFrom, excursionMark_travel]
    · rw [(h _ _ _).ctlStop, excursionMark_travel]
    · rw [(h _ _ _).envelope, excursionMark_travel]
    · rw [(h _ _ _).rE2, excursionMark_travel]
    · rw [causeIf_cpt _ _ (by decide), causeIf_cpt _ _ (by decide)]
      simp
  · exact ⟨rfl, rfl, rfl, rfl, rfl, rfl⟩

/-- The envelope as the OBS leaves it before it follows the target. -/
theorem followed_endpoint (s : State) :
    let u := followed (supervised s)
    u.obs.endpoint = s.obs.endpoint ∧ u.obs.eFrom = s.obs.eFrom ∧ u.obs.ctlStop = s.obs.ctlStop ∧
    u.obs.envelope = s.obs.envelope ∧ u.obs.rE2 = (supervised s).obs.rE2 ∧
    u.cpt.target.map (·.position) = s.cpt.target.map (·.position) := by
  obtain ⟨he, hf, hc, -⟩ := supervised_endpoint s
  have hu := followed_sameTravel (supervised s)
  obtain ⟨l1, l2, l3, l4, l5, l6⟩ := testLevels_endpoint (supervised s)
  have hcpt : (followed (supervised s)).cpt = (testLevels (supervised s)).cpt := by
    have hov := causeIf_cpt (k := .overrun) (supervised s).overran (beforeOverrun (supervised s)) (by decide)
    have hab := causeIf_cpt (k := .overspeedSevere) (supervised s).absoluteExceeded (testLevels (supervised s)) (by decide)
    have hrb (v : State) : (testRollback v).cpt = v.cpt := causeIf_cpt (k := .rollback) _ _ (by decide)
    calc (followed (supervised s)).cpt = (causeIf (supervised s).overran .overrun (beforeOverrun (supervised s))).cpt := by
          simp [followed]
      _ = (beforeOverrun (supervised s)).cpt := hov
      _ = (causeIf (supervised s).absoluteExceeded .overspeedSevere (testLevels (supervised s))).cpt := hrb _
      _ = (testLevels (supervised s)).cpt := hab
  refine ⟨?_, ?_, ?_, ?_, ?_, ?_⟩
  · rw [hu.endpoint, l1, he]
  · rw [hu.eFrom, l2, hf]
  · rw [hu.ctlStop, l3, hc]
  · rw [hu.envelope, l4, supervised_envelope]
  · rw [hu.rE2, l5]
  · rw [hcpt, l6, supervised_place]


/-- The end of a sample leaves the endpoint as the OBS leaves it, while the envelope stays (R72). -/
theorem sampleEnd_travel (s : State) : SameTravel (obsSample (supervised s)) (sampleEnd s) ∨
    ((sampleEnd s).obs.envelope = false ∧ (sampleEnd s).obs.rE2 = (obsSample (supervised s)).obs.rE2) := by
  have hobs : (sampleEnd s).obs = (tsqSample (obsSample (supervised s))).obs := by simp [sampleEnd]
  rcases tsqSample_travel (obsSample (supervised s)) with h | ⟨h1, -, h2⟩
  · exact .inl (h.trans (by constructor <;> rw [hobs]))
  · exact .inr (by rw [hobs]; exact ⟨h1, h2⟩)

/-- The endpoint and r_e2 after a sample (R72). -/
theorem sampled_endpoint (s : State) :
    (s.obs.envelope = false → (sampleEnd s).obs.rE2 = s.obs.rE2) ∧
    (s.obs.envelope = true → (sampleEnd s).obs.envelope = true →
      let d := s.obs.direction
      let moved (g : StopTarget) : Prop := s.obs.ctlStop = false ∧ ∃ f ∈ s.obs.eFrom, g.position ≠ f
      (∀ g, s.cpt.target = some g → moved g →
        let e := ahead d g.position s.lts.overrunAllow
        (sampleEnd s).obs.endpoint = some e ∧ (sampleEnd s).obs.eFrom = some g.position ∧
          (sampleEnd s).obs.rE2 = 2000 * distance d (sampleEnd s).xs e) ∧
      ((∀ g, s.cpt.target = some g → ¬ moved g) →
        (sampleEnd s).obs.endpoint = s.obs.endpoint ∧ (sampleEnd s).obs.eFrom = s.obs.eFrom ∧
        (sampleEnd s).obs.rE2 = s.obs.rE2 - travel d (sampleEnd s).rmu.dx2)) := by
  obtain ⟨u1, u2, u3, u4, u5, u6⟩ := followed_endpoint s
  have hobs : obsSample (supervised s) = followTarget (followed (supervised s)) := obsSample_eq _
  rw [followTarget_eq, u2, u3, u4, u6] at hobs
  have hstay (hno : ∀ q f, s.cpt.target.map (·.position) = some q → s.obs.eFrom = some f →
      ¬ (s.obs.envelope = true ∧ s.obs.ctlStop = false ∧ q ≠ f)) : obsSample (supervised s) = followed (supervised s) := by
    rw [hobs]
    split
    next q f hq hf => rw [if_neg (hno q f hq hf)]
    next => rfl
  refine ⟨fun henv => ?_, fun henv hend => ?_⟩
  · have ho := hstay (fun q f _ _ h => by rw [henv] at h; cases h.1)
    have hr := (supervised_unlimited henv).2.2
    rcases sampleEnd_travel s with h | ⟨-, h⟩
    · rw [h.rE2, ho, u5, hr]
    · rw [h, ho, u5, hr]
  · rcases sampleEnd_travel s with h | ⟨h, -⟩
    · refine ⟨fun g hg ⟨hc, f, hf, hgf⟩ => ?_, fun hno => ?_⟩
      · simp only [Option.mem_def] at hf
        have ho : obsSample (supervised s) =
            (followed (supervised s)).updObs (fun o => o.endpointFrom (followed (supervised s)) g.position) := by
          simp only [hobs, hg, hf, Option.map_some, henv, hc, ne_eq, hgf, not_false_eq_true, and_self, if_true]
        have hdir : (followed (supervised s)).obs.direction = s.obs.direction := by simp [followed, supervised, beforeOverrun]
        have hlts : (followed (supervised s)).lts = s.lts := by simp [followed]
        have hxs : (sampleEnd s).xs = (followed (supervised s)).xs := by
          simp [sampleEnd, followed, State.xs, Rmu.xsMm, Rmu.xsUm]
        dsimp only
        rw [h.endpoint, h.eFrom, h.rE2, ho, hxs]
        simp [Obs.endpointFrom, hdir, hlts]
      · have ho := hstay (fun q f hq hf hx => by
          obtain ⟨g, hg, rfl⟩ := Option.map_eq_some_iff.mp hq
          exact hno g hg ⟨hx.2.1, f, hf, hx.2.2⟩)
        have hdx : (sampleEnd s).rmu.dx2 = (supervised s).rmu.dx2 := by simp [sampleEnd]
        rw [h.endpoint, h.eFrom, h.rE2, ho, u1, u2, u5, supervised_rE2 henv, hdx]
        exact ⟨rfl, rfl, rfl⟩
    · rw [h] at hend
      cases hend

/-- Settles O12: the permitted speed is formed before the causes of the OBS (`supervised_vPerm2`), the levels test it, and
what a sample gives afterwards leaves both overspeed kinds. -/
theorem overspeedGivesCauses : Obligations.OverspeedGivesCauses := by
  refine ⟨fun s hcom henv => ⟨sampleEnd s, exec_measurementSample_supervised s, ?_⟩,
    fun s hcom => ⟨sampleEnd s, exec_measurementSample_supervised s, sampled_lineCheck hcom, sampled_unlimited hcom⟩,
    fun s => ⟨sampleEnd s, exec_measurementSample_supervised s, ?_⟩⟩
  · have hxs : (sampleEnd s).xs = (supervised s).xs := by simp [sampleEnd, State.xs, Rmu.xsMm, Rmu.xsUm]
    have hdx : (sampleEnd s).rmu.dx2 = (supervised s).rmu.dx2 := by simp [sampleEnd]
    have he : (supervised s).obs.envelope = true := by simp [henv]
    have hv := supervised_vPerm2 henv
    dsimp only at hv ⊢
    rw [hxs, hdx]
    generalize smallestTerm s.lts s.obs.direction (supervised s).xs _ s.obs.inspSup s.obs.fSup _ _ = v at hv ⊢
    simp only [← levelExceeded_iff]
    obtain ⟨hmark, hrest⟩ := sampled_levels hcom he hv
    refine ⟨hmark, fun hx hold p hp => sampled_warning he hv ?_ ?_ hp, hrest⟩
    · simpa [sampleEnd, State.speed] using hx
    · exact (supervised_endpoint s).2.2.2.trans hold
  · exact sampled_endpoint s

end Sys2Proof.Machine
end

section
/-! What the operations that commands share leave, written out whole: the doors, the batches, a change of the trip
state, the line coming to STOPPED (R100, R126 to R128, R144, R145). -/

namespace Sys2Proof.Machine

/-! ### Events -/

/-- Kinds that make one mask are raised alike (R182). -/
theorem raising_congr {es fs : List EventKind} (s : State) (h : eventMask es = eventMask fs) :
    s.raising es = s.raising fs := by
  simp only [State.raising, State.raisingOn, h]

/-- The ports after a raising are those of the ports before. -/
theorem raising_lpu_congr {s t : State} (es : List EventKind) (h : t.lpu = s.lpu) :
    (t.raising es).lpu = (s.raising es).lpu := by
  simp only [State.raising, State.raisingOn, State.updLpu, h]

theorem raisingLink_lpu_congr {s t : State} (p : PortId) (e : EventKind) (h : t.lpu = s.lpu) :
    (t.raisingLink p e).lpu = (s.raisingLink p e).lpu := by
  simp only [State.raisingLink, State.raisingOn, State.updLpu, h]

@[simp] theorem eventIf_true (e : EventKind) : eventIf true e = [e] := rfl
@[simp] theorem eventIf_false (e : EventKind) : eventIf false e = [] := rfl

/-- A raise under a condition (R182). -/
theorem raise_if (cond : Bool) (e : EventKind) (s : State) :
    (if cond then raise e s else s) = s.raising (eventIf cond e) := by
  cases cond <;> simp [raise_eq]

/-! ### Doors -/

theorem someReleased_congr {s s' t t' : State} (hs : s'.dru = s.dru) (ht : t'.dru = t.dru) :
    someReleased s' t' = someReleased s t := by
  simp only [someReleased, hs, ht]

/-- The sides released at a test moment are those of R132. -/
theorem someReleased_testDoors (s : State) : someReleased s (testDoors s) = releasesSome s := by
  have hside (ok : Bool) (d : DoorRecord) :
      decide ((testSide ok d).command = .released ∧ d.command ≠ .released) = newlyReleased ok d := by
    cases ok <;> simp [testSide, newlyReleased] <;> split <;> simp_all
  simp only [someReleased, List.any_cons, List.any_nil, testDoors_side, hside]
  simp [releasesSome, PerCar.get, PerSide.get, Bool.or_assoc]

theorem someReleased_of_same {s t : State} (h : t.dru = s.dru) : someReleased s t = false := by
  simp [someReleased, h]

/-- A test moment of the doors (R127, R132). -/
theorem testDoors_eq (s : State) :
    testDoors s = ({ s with dru := (testDoors s).dru } : State).raising
      (eventIf (someReleased s (testDoors s)) .doorsReleased) := by
  rw [someReleased_testDoors]
  have hd : (testDoors s).dru = testedDoors s := by unfold testDoors; split <;> simp
  rw [hd]
  exact raise_if (releasesSome s) .doorsReleased (s.updDru (fun _ => testedDoors s))

theorem testDoors_lpu (s : State) :
    (testDoors s).lpu = (s.raising (eventIf (someReleased s (testDoors s)) .doorsReleased)).lpu := by
  conv_lhs => rw [testDoors_eq]
  exact raising_lpu_congr _ rfl

/-- What the release conditions read (R126). -/
theorem mayRelease_of_same {s t : State} (ht : t.tsq.state = s.tsq.state) (hg : t.tsq.target = s.tsq.target)
    (hl : t.lts = s.lts) (hx : t.rmu.x2 = s.rmu.x2 ∧ t.rmu.known = s.rmu.known)
    (ho : ∀ c, (t.cpt.cars.get c).offset = (s.cpt.cars.get c).offset)
    (hb : (t.obs.brakes.get .sbk).command = (s.obs.brakes.get .sbk).command ∧
      (t.obs.brakes.get .sbk).proof = (s.obs.brakes.get .sbk).proof)
    (hk : t.lpu.carLinks = s.lpu.carLinks) (c : Car) (side : Side) :
    t.mayRelease c side = s.mayRelease c side := by
  apply Bool.eq_iff_iff.mpr
  constructor
  · exact mayRelease_of_items ht.symm hg.symm hl.symm ⟨hx.1.symm, hx.2.symm⟩ (fun c => (ho c).symm)
      ⟨hb.1.symm, hb.2.symm⟩ (fun c h => by rwa [hk] at h) c side
  · exact mayRelease_of_items ht hg hl hx ho hb (fun c h => by rwa [hk]) c side

/-- Doors tested in states that hold the same doors and conditions. -/
theorem DoorsTested.congr {s s' t t' : State} (h : DoorsTested s t) (hs : s'.dru = s.dru) (ht : t'.dru = t.dru)
    (hm : ∀ c side, t'.mayRelease c side = t.mayRelease c side) : DoorsTested s' t' := by
  intro c side
  have hside := h c side
  dsimp only at hside ⊢
  rw [hs, ht, hm c side]
  exact hside

/-! ### Batches -/

/-- A batch replaced (R153). -/
theorem setBatch_eq (st : Station) (b : Batch) (s : State) :
    setBatch st b s = ({ s with bcu := { s.bcu with batches := s.bcu.batches.set st b } } : State).raising
      (eventIf (b.state ≠ (s.bcu.batches.get st).state) .batchStateChanged) := by
  unfold setBatch
  split
  next h => simp [h, State.updBcu]
  next h => simp [h, raise_eq, State.updBcu]

/-- A kind raised twice is raised once (R182). -/
theorem eventMask_either (x y : Bool) (e : EventKind) :
    eventMask (eventIf x e ++ eventIf y e) = eventMask (eventIf (x || y) e) := by
  cases x <;> cases y <;> simp [eventMask]

/-- Both batches replaced, each by what a function makes of it (R144, R145, R153). -/
theorem setBoth_eq (f : Batch → Batch) (s : State) :
    setBatch .upper (f ((setBatch .lower (f (s.bcu.batches.get .lower)) s).bcu.batches.get .upper))
      (setBatch .lower (f (s.bcu.batches.get .lower)) s) =
    ({ s with bcu := { s.bcu with batches := s.bcu.batches.mapStation (fun _ => f) } } : State).raising
      (eventIf (batchChanged s.bcu.batches (s.bcu.batches.mapStation (fun _ => f))) .batchStateChanged) := by
  simp only [setBatch_eq, raising_bcu]
  have hfold (v : State) (es : List EventKind) (u : Bcu) :
      ({ v.raising es with bcu := u } : State) = ({ v with bcu := u } : State).raising es := rfl
  rw [hfold, raising_raising]
  refine raising_congr _ (Eq.trans ?_ (eventMask_either _ _ _))
  exact congrArg₂ (fun x y => eventMask (eventIf x .batchStateChanged ++ eventIf y .batchStateChanged))
    (decide_eq_decide.mpr ne_comm) (decide_eq_decide.mpr ne_comm)

/-- Both batches suspended (R144). -/
theorem suspendBatches_eq (s : State) :
    suspendBatches s = ({ s with
      bcu := { s.bcu with
        batches := s.bcu.batches.mapStation (fun _ b => { b with state := .suspended, settle := none }) } } :
          State).raising
      (eventIf (batchChanged s.bcu.batches
        (s.bcu.batches.mapStation (fun _ b => { b with state := .suspended, settle := none }))) .batchStateChanged) :=
  setBoth_eq (fun b => { b with state := .suspended, settle := none }) s

/-- An open request (R145). -/
theorem openBatches_eq (s : State) :
    openBatches s = ({ s with bcu := { s.bcu with batches := openedBatches s.bcu.batches } } : State).raising
      (eventIf (batchChanged s.bcu.batches (openedBatches s.bcu.batches)) .batchStateChanged) :=
  setBoth_eq (fun b => { b with state := .opened, settle := none }) s

theorem batchChanged_self (v : PerStation Batch) : batchChanged v v = false := by simp [batchChanged]

/-- An open request where the stop is a terminal (R145). -/
theorem openAtTerminal_eq (k : Nat) (s : State) :
    openAtTerminal k s = ({ s with bcu := (if s.lts.isTerminal k then
        { s.bcu with batches := openedBatches s.bcu.batches } else s.bcu) } : State).raising
      (eventIf (batchChanged s.bcu.batches (openAtTerminal k s).bcu.batches) .batchStateChanged) := by
  unfold openAtTerminal
  split
  · conv_lhs => rw [openBatches_eq]
    simp [openBatches_eq]
  · simp [batchChanged_self]

/-- The batches after a change of the trip state (R144). -/
def Bcu.onTrip (new : TripState) (u : Bcu) : Bcu :=
  if new.suspends then
    { u with batches := u.batches.mapStation (fun _ b => { b with state := .suspended, settle := none }) }
  else u

theorem bcuOnTrip_eq (new : TripState) (s : State) :
    bcuOnTrip new s = ({ s with bcu := s.bcu.onTrip new } : State).raising
      (eventIf (batchChanged s.bcu.batches (s.bcu.onTrip new).batches) .batchStateChanged) := by
  unfold bcuOnTrip Bcu.onTrip
  split
  · exact suspendBatches_eq s
  · simp [batchChanged_self]

/-! ### A change of the trip state (R100) -/

/-- The events of a change of the trip state from s to t (R100, R132, R153). -/
def tripEvents (s t : State) : List EventKind :=
  .tripStateChanged :: (eventIf (someReleased s t) .doorsReleased ++
    eventIf (batchChanged s.bcu.batches t.bcu.batches) .batchStateChanged)

section
variable {new : TripState} (step : Option Step) {s : State} (h : s.tsq.state ≠ new)
include h

theorem changeTrip_dru : (changeTrip new step s).dru = (testDoors (obsOnTrip new (recordTrip new step s))).dru := by
  simp [changeTrip, h]

theorem changeTrip_bcu : (changeTrip new step s).bcu = s.bcu.onTrip new := by
  simp [changeTrip, h, bcuOnTrip_eq]

theorem changeTrip_srg : (changeTrip new step s).srg =
    (srgOnTrip s.tsq.state new (bcuOnTrip new (testDoors (obsOnTrip new (recordTrip new step s))))).srg := by
  simp [changeTrip, h]

/-- The ports after a change of the trip state (R100, R132, R153). -/
theorem changeTrip_lpu : (changeTrip new step s).lpu = (s.raising (tripEvents s (changeTrip new step s))).lpu := by
  have hd := changeTrip_dru step h
  have hb := changeTrip_bcu step h
  have hr : someReleased s (changeTrip new step s) =
      someReleased (obsOnTrip new (recordTrip new step s)) (testDoors (obsOnTrip new (recordTrip new step s))) :=
    someReleased_congr (by simp) hd
  have hl : (changeTrip new step s).lpu =
      (bcuOnTrip new (testDoors (obsOnTrip new (recordTrip new step s)))).lpu := by simp [changeTrip, h]
  have hbcu : (testDoors (obsOnTrip new (recordTrip new step s))).bcu = s.bcu := by simp
  rw [tripEvents, hr, hl, hb, bcuOnTrip_eq, hbcu, ← List.singleton_append, ← raising_raising, ← raising_raising]
  refine raising_lpu_congr _ ((testDoors_lpu _).trans (raising_lpu_congr _ ?_))
  simp [recordTrip, raise_eq, obsOnTrip]
  exact raising_lpu_congr _ rfl

/-- A change of the trip state tests the doors (R127). -/
theorem changeTrip_doorsTested : DoorsTested s (changeTrip new step s) := by
  refine (testDoors_tested (obsOnTrip new (recordTrip new step s))).congr (by simp) (changeTrip_dru step h) ?_
  refine mayRelease_of_same ?_ ?_ ?_ ?_ ?_ ?_ ?_
  · simp [changeTrip, h]
  · simp [changeTrip, h]
  · simp
  · simp [changeTrip_rmu step h]
  · simp
  · simp
  · have hk := (sansEvents_eq (bcuOnTrip_ports new (testDoors (obsOnTrip new (recordTrip new step s))))).1
    simp [changeTrip, h, hk]

end

end Sys2Proof.Machine
end

section
/-! The line coming to STOPPED (R100, R112, R118, R145), and the expiry of the closure timer (R116). -/

namespace Sys2Proof.Machine

/-! ### The reference and the halt list at a stop -/

/-- In a trip state in which the line stands, no reference is formed (R57). -/
theorem restReference_at_rest {s : State} (hr : s.tsq.state ≠ .running) (hi : s.tsq.state ≠ .inspecting)
    (ht : s.tsq.state ≠ .tripped) : restReference s = s.updSrg Srg.zeroed := by
  have hc : s.computesReference = false := by
    unfold State.computesReference
    split <;> simp_all
  simp [restReference, hc, State.rampsDown, ht]

/-- The SRG after a change to a trip state in which the line stands (R55, R57, R65, R68, R69). -/
theorem changeTrip_srg_at_rest {new : TripState} (step : Option Step) {s : State} (h : s.tsq.state ≠ new)
    (hn : new.moves = false) (ht : new ≠ .tripped) :
    (changeTrip new step s).srg = { (s.srg.onTrip s.tsq.state new) with vRef := 0, holding := 0 } := by
  have hs : ((bcuOnTrip new (testDoors (obsOnTrip new (recordTrip new step s)))).updSrg
      (Srg.onTrip s.tsq.state new)).tsq.state = new := by simp [recordTrip]
  rw [changeTrip_srg step h, srgOnTrip, restReference_at_rest]
  · simp [Srg.zeroed]
  all_goals (rw [hs]; rintro rfl; simp [TripState.moves] at hn ht)

/-- An entry for the stop served, or none there (R112). -/
theorem serveHalt_eq (k : Nat) (s : State) :
    serveHalt k s = (s.updTsq (fun t => { t with halts := t.halts.filter (fun e => decide (e.stopIndex ≠ k)) })).raising
      (eventIf (s.listed k) .haltRequestServed) := by
  unfold serveHalt
  split
  next h => simp [h, raise_eq]
  next h =>
    have hf : s.tsq.halts.filter (fun e => decide (e.stopIndex ≠ k)) = s.tsq.halts := by
      rw [List.filter_eq_self]
      intro e he
      simp only [State.listed, List.any_eq_true, not_exists, not_and] at h
      simpa using h e he
    rw [Bool.not_eq_true] at h
    simp only [h, eventIf_false, raising_nil, State.updTsq, hf]

/-! ### STOPPED at a stop (R100, R102, R112) -/

/-- What a state must share with another to have come to the same stop. -/
theorem CameToStop.congr {k : Nat} {s t t' : State} (h : CameToStop k s t) (ht : t'.tsq = t.tsq) (ho : t'.obs = t.obs)
    (hr : t'.rmu = t.rmu) (hs : t'.srg = t.srg) (hd : t'.dru = t.dru) (hl : t'.lts = t.lts) (hc : t'.cpt = t.cpt)
    (hk : SameClocks t t') (hlinks : t'.lpu.carLinks = t.lpu.carLinks) : CameToStop k s t' := by
  obtain ⟨h1, h2, h3, h4, h5, h6, h7, h8⟩ := h
  refine ⟨ht.trans h1, ho.trans h2, hr.trans h3, hs.trans h4, h5.congr rfl hd ?_, hl.trans h6, hc.trans h7, ?_⟩
  · exact mayRelease_congr ht hl hr hc (by rw [ho]) hlinks
  · obtain ⟨a1, a2, a3, a4, a5⟩ := h8
    obtain ⟨b1, b2, b3, b4, b5⟩ := hk
    exact ⟨b1.trans a1, b2.trans a2, b3.trans a3, b4.trans a4, b5.trans a5⟩

theorem stopEvents_congr {k : Nat} {s t t' : State} (hd : t'.dru = t.dru) : stopEvents k s t' = stopEvents k s t := by
  rw [stopEvents, stopEvents, someReleased_congr rfl hd]

/-- The trip state put into STOPPED at a stop (R100, R112). -/
theorem stopAt_cameToStop (k : Nat) {s : State} (h : s.tsq.state ≠ .stopped) : CameToStop k s (stopAt k s) := by
  have hv : (s.updTsq (fun t => { t with target := some k })).tsq.state ≠ .stopped := h
  have hrest := changeTrip_doorsTested none hv
  simp only [stopAt, serveHalt_eq]
  refine ⟨?_, ?_, ?_, ?_, hrest.congr rfl rfl (mayRelease_of_same ?_ ?_ ?_ ?_ ?_ ?_ ?_), ?_, ?_, ?_⟩
  · simp [changeTrip_tsq none hv, TripState.keepsDrive]
  · simp [changeTrip_obs none hv, obsOnTrip, TripState.endsTravel]
  · simp [changeTrip_rmu none hv, TripState.endsTravel]
  · simp [changeTrip_srg_at_rest none hv rfl, Srg.onTrip, TripState.endsTravel]
    exact ⟨rfl, rfl⟩
  all_goals simp [SameClocks]

/-- The ports when the line has come to STOPPED (R100, R112, R132). -/
theorem stopAt_lpu (k : Nat) {s : State} (h : s.tsq.state ≠ .stopped) :
    (stopAt k s).lpu = (s.raising (stopEvents k s (stopAt k s))).lpu := by
  have hv : (s.updTsq (fun t => { t with target := some k })).tsq.state ≠ .stopped := h
  have hp := changeTrip_lpu none hv
  have hb : (changeTrip .stopped none (s.updTsq (fun t => { t with target := some k }))).bcu = s.bcu :=
    changeTrip_bcu none hv
  have hd : someReleased s (stopAt k s) = someReleased (s.updTsq (fun t => { t with target := some k }))
      (changeTrip .stopped none (s.updTsq (fun t => { t with target := some k }))) :=
    someReleased_congr rfl (by simp [stopAt])
  have hl : (changeTrip .stopped none (s.updTsq (fun t => { t with target := some k }))).listed k = s.listed k := by
    simp [State.listed]
  rw [stopEvents, hd]
  conv_lhs => rw [stopAt, serveHalt_eq, hl]
  refine (raising_lpu_congr _ (hp.trans (raising_lpu_congr (s := s) _ rfl))).trans ?_
  rw [raising_raising, tripEvents, hb]
  simp [batchChanged_self]

/-- The line STOPPED at a stop, with an open request where that is a terminal (R102, R112, R145). -/
def OpenedAtStop (k : Nat) (s t : State) : Prop :=
  CameToStop k s t ∧
  t.bcu = (if s.lts.isTerminal k then { s.bcu with batches := openedBatches s.bcu.batches } else s.bcu) ∧
  t.lpu = (s.raising (stopEvents k s t ++ eventIf (batchChanged s.bcu.batches t.bcu.batches) .batchStateChanged)).lpu

/-- The line put into STOPPED at a stop, with the open request (R102, R112, R145). -/
theorem openedAtStop (k : Nat) {s : State} (h : s.tsq.state ≠ .stopped) :
    OpenedAtStop k s (openAtTerminal k (stopAt k s)) := by
  have hc := stopAt_cameToStop k h
  have hb : (stopAt k s).bcu = s.bcu := by
    simp only [stopAt, serveHalt_eq, raising_bcu, updTsq_bcu]
    exact changeTrip_bcu (s := s.updTsq (fun t => { t with target := some k })) none h
  have hl : (stopAt k s).lts = s.lts := by simp
  refine ⟨hc.congr (by simp) (by simp) (by simp) (by simp) (by simp) (by simp) (by simp) (by simp [SameClocks])
    (sansEvents_eq (openAtTerminal_ports k _)).1, ?_, ?_⟩
  · rw [openAtTerminal_eq, raising_bcu, hl, hb]
  · rw [stopEvents_congr (t := stopAt k s) (by simp), ← hb]
    conv_lhs => rw [openAtTerminal_eq]
    rw [← raising_raising]
    exact raising_lpu_congr _ (stopAt_lpu k h)

/-- An event raised once the line is at its stop. -/
theorem OpenedAtStop.raise {k : Nat} {s t : State} (h : OpenedAtStop k s t) (e : EventKind) :
    CameToStop k s (raise e t) ∧
    (raise e t).bcu = (if s.lts.isTerminal k then { s.bcu with batches := openedBatches s.bcu.batches } else s.bcu) ∧
    (raise e t).lpu = (s.raising (stopEvents k s (raise e t) ++
      eventIf (batchChanged s.bcu.batches (raise e t).bcu.batches) .batchStateChanged ++ [e])).lpu := by
  obtain ⟨hc, hb, hp⟩ := h
  rw [raise_eq]
  refine ⟨hc.congr rfl rfl rfl rfl rfl rfl rfl ⟨rfl, rfl, rfl, rfl, rfl⟩ rfl, hb, ?_⟩
  rw [stopEvents_congr (t := t) (t' := t.raising [e]) rfl, raising_bcu, ← raising_raising]
  exact raising_lpu_congr _ hp

/-! ### CLOSURE_TIMER_EXPIRY (R116, R118) -/

/-- A departure abandoned to its origin (R118). -/
theorem abandonToOrigin_opened {k : Nat} {s : State} (h : s.tsq.state ≠ .stopped) (ho : s.tsq.origin = some k) :
    OpenedAtStop k s (abandonToOrigin s) := by
  rw [abandonToOrigin, ho]
  exact openedAtStop k h

theorem awaitsClosure_iff (s : State) : s.awaitsClosure = true ↔
    s.tsq.state = .departing ∧ s.tsq.step = some .closure ∧ s.tsq.closureTimer.isSome = true := by
  simp [State.awaitsClosure, and_assoc]

/-- Settles O20: out of step CLOSURE nothing expires; in it the departure goes back to its origin. -/
theorem closureExpiryAbandons : Obligations.ClosureExpiryAbandons := by
  intro s k
  have hx : exec .closureTimerExpiry s = .next (if s.awaitsClosure then closureOver s else s) := rfl
  rw [hx]
  refine ⟨fun h => ?_, fun hs hstep ht ho => ⟨_, rfl, ?_⟩⟩
  · rw [if_neg]
    rw [awaitsClosure_iff]
    rintro ⟨hs, hstep, ht⟩
    rcases h with h | h | h
    · exact h hs
    · exact h hstep
    · simp [h] at ht
  · rw [if_pos ((awaitsClosure_iff s).mpr ⟨hs, hstep, ht⟩)]
    exact (abandonToOrigin_opened (by simp [hs]) ho).raise .departureFailed

end Sys2Proof.Machine
end

section
/-! Lifting the brakes, the direction shown and the brake-release step (R68, R92, R94, R117). -/

namespace Sys2Proof.Machine

/-! ### Lift commands (R92, R94) -/

theorem liftedBrake_of_applied (s : State) {b : BrakeRecord} (h : b.command ≠ .lifted) :
    liftedBrake s b = b.raised s.lts.tLift.toNat := by
  rw [liftedBrake, if_neg h]
  rfl

@[simp] theorem setBrake_obs (b : Brake) (r : BrakeRecord) (s : State) :
    (setBrake b r s).obs = { s.obs with brakes := s.obs.brakes.set b r } := by
  unfold setBrake
  dsimp only
  split <;> simp

/-- EBK commanded LIFTED: no door is tested (R127). -/
theorem liftBrake_ebk (s : State) : liftBrake .ebk s =
    { s with obs := { s.obs with brakes := { s.obs.brakes with ebk := liftedBrake s s.obs.brakes.ebk } } } := by
  unfold liftBrake
  split
  next h =>
    have hl : liftedBrake s s.obs.brakes.ebk = s.obs.brakes.ebk := by
      simp only [PerBrake.get] at h
      simp [liftedBrake, h]
    rw [hl]
  next h =>
    simp only [PerBrake.get] at h
    rw [liftedBrake_of_applied s h]
    rfl

/-- SBK commanded LIFTED while the line is not STOPPED: every RELEASED side is ordered closed (R127, R128). -/
theorem liftBrake_sbk {s : State} (hs : s.tsq.state ≠ .stopped) (h : s.obs.brakes.sbk.command = .applied) :
    liftBrake .sbk s = { s with
      obs := { s.obs with brakes := { s.obs.brakes with sbk := liftedBrake s s.obs.brakes.sbk } }
      dru := s.dru.mapCar (fun _ v => v.map orderClose) } := by
  have hl := liftedBrake_of_applied s (b := s.obs.brakes.sbk) (by simp [h])
  rw [liftBrake, if_neg (by simp [PerBrake.get, h]), setBrake, if_pos ⟨rfl, .inl (by simp [PerBrake.get, h])⟩,
    testDoors_not_stopped (s := s.updObs _) hs]
  simp [State.updDru, State.updObs, PerBrake.set, PerBrake.get, hl]

/-- Every RELEASED side ordered closed is a test moment of a line that is not STOPPED (R128). -/
theorem doorsTested_ordered {s t : State} (hs : t.tsq.state ≠ .stopped)
    (hd : t.dru = s.dru.mapCar (fun _ v => v.map orderClose)) : DoorsTested s t := by
  intro c side
  simp [mayRelease_not_stopped hs, hd, orderClose]

/-- A lift request of a line whose SBK is APPLIED and reads DROPPED: both brakes are commanded LIFTED, and the report waits
for SBK's proof (R92, R94). -/
theorem liftRequest_waits {s : State} (hs : s.tsq.state ≠ .stopped) (hc : s.obs.causes = [])
    (h : s.obs.brakes.sbk.command = .applied) (hr : s.obs.brakes.sbk.reading = .dropped) :
    liftRequest s = { s with
      obs := { s.obs with
        liftPending := true, brakes := ⟨liftedBrake s s.obs.brakes.sbk, liftedBrake s s.obs.brakes.ebk⟩ }
      dru := s.dru.mapCar (fun _ v => v.map orderClose) } := by
  have hp : (liftedBrake s s.obs.brakes.sbk).proof = .proving := by simp [liftedBrake, h, hr]
  rw [liftRequest, if_pos hc, liftBrake_sbk hs h, liftBrake_ebk, reportLifted, if_neg]
  · rfl
  · simp [State.provenAs, PerBrake.get, hp, State.updObs]

/-- The direction shown in a brake-release step or in step LIFTING: the request raised, the lift begun (R117, R121). -/
theorem directionShown_lifts {s : State}
    (hm : s.releasing = true ∨ (s.tsq.state = .inspecting ∧ s.tsq.step = some .lifting)) (hc : s.obs.causes = [])
    (h : s.obs.brakes.sbk.command = .applied) (hr : s.obs.brakes.sbk.reading = .dropped) :
    directionShown s = { s with
      tsq := { s.tsq with driveRequest := true }
      obs := { s.obs with
        liftPending := true, brakes := ⟨liftedBrake s s.obs.brakes.sbk, liftedBrake s s.obs.brakes.ebk⟩ }
      dru := s.dru.mapCar (fun _ v => v.map orderClose) } := by
  have hs : s.tsq.state ≠ .stopped := by
    rcases hm with hrel | ⟨hi, -⟩
    · simp [state_of_releasing hrel]
    · simp [hi]
  rw [directionShown, if_pos hm]
  exact liftRequest_waits (s := { s with tsq := { s.tsq with driveRequest := true } }) hs hc h hr

theorem directionShown_not {s : State} (hr : s.releasing = false)
    (hl : ¬ (s.tsq.state = .inspecting ∧ s.tsq.step = some .lifting)) : directionShown s = s := by
  rw [directionShown, if_neg]
  simp [hr, hl]

/-! ### DIR_PENDING_CHANGE (R68) -/

theorem dirFree_iff (s : State) : s.dirFree = true ↔ s.srg.active = 0 ∧ s.den = false := by simp [State.dirFree]

/-- A pending direction shown (R68). -/
theorem exec_dirPendingChange {s : State} {d : Direction} (hd : s.srg.dirPending = some d) (ha : s.srg.active = 0)
    (hden : s.den = false) : exec .dirPendingChange s =
      .next (directionShown { s with srg := { s.srg with dir := d, dirPending := none } }) := by
  have hx : exec .dirPendingChange s = execDirPendingChange s := rfl
  rw [hx, execDirPendingChange, hd]
  dsimp only
  rw [if_pos ((dirFree_iff s).mpr ⟨ha, hden⟩)]
  rfl

/-- Settles O15: a pending direction is shown, or the row changes nothing. -/
theorem pendingDirectionShown : Obligations.PendingDirectionShown := by
  intro s
  refine ⟨fun h => ?_, fun d hd ha hden hr hl => ?_, fun d hd ha hden hm hc hcmd hread => ?_⟩
  · have hx : exec .dirPendingChange s = execDirPendingChange s := rfl
    rw [hx, execDirPendingChange]
    cases hd : s.srg.dirPending with
    | none => rfl
    | some d =>
      have hf : s.dirFree = false := by
        rw [← Bool.not_eq_true, dirFree_iff]
        rintro ⟨ha, hden⟩
        simp [ha, hden, hd] at h
      simp [hf]
  · rw [exec_dirPendingChange hd ha hden]
    exact congrArg Host.Outcome.next (directionShown_not hr (by simpa using hl))
  · rw [exec_dirPendingChange hd ha hden]
    simp only [decide_eq_true_eq] at hm
    refine ⟨_, congrArg Host.Outcome.next (directionShown_lifts hm hc hcmd hread),
      doorsTested_ordered ?_ rfl, rfl⟩
    rcases hm with hrel | hl
    · simp [state_of_releasing hrel]
    · simp [hl.1]

/-! ### WARNING_END while batches are not closed (R69, R114) -/

theorem warningStepDone_iff (s : State) : s.warningStepDone = true ↔
    s.tsq.state = .departing ∧ s.tsq.step = some .warning ∧ s.tsq.warningEnded = true ∧
      (s.tsq.resume = true ∨ s.originIsTerminal = false ∨ s.bothClosed = true) := by
  simp [State.warningStepDone, and_assoc, or_assoc]

/-- Step WARNING goes on (R114). -/
theorem endWarningStep_not {s : State} (h : s.warningStepDone = false) : endWarningStep s = s := by
  simp [endWarningStep, h]

/-- The state in which the end of the warning is reported (R69). -/
def State.unwarned (s : State) : State :=
  { s with srg := { s.srg with warning := none, warn := false }, tsq := { s.tsq with warningEnded := true } }

theorem exec_warningEnd {s : State} (h : s.srg.warning.isSome = true) :
    exec .warningEnd s = .next (endWarningStep s.unwarned) := by
  have hx : exec .warningEnd s = .next (if s.srg.warning.isSome then warningOver s else s) := rfl
  rw [hx, if_pos h]
  rfl

/-- Settles O16: the end of the warning is reported to a step WARNING that goes on. -/
theorem warningEnds : Obligations.WarningEnds := by
  refine fun s => ⟨fun h => ?_, fun h hgo => ?_⟩
  · have hx : exec .warningEnd s = .next (if s.srg.warning.isSome then warningOver s else s) := rfl
    rw [hx, if_neg (by simp [h])]
  · rw [exec_warningEnd h, endWarningStep_not]
    · rfl
    · rw [← Bool.not_eq_true, warningStepDone_iff]
      rintro ⟨hs, hstep, -, hb⟩
      rcases hgo with hn | hn | ⟨hr, ht, hn⟩
      · exact hn hs
      · exact hn hstep
      · rcases hb with hb | hb | hb
        · simp [State.unwarned, hr] at hb
        · exact Bool.noConfusion (ht.symm.trans hb)
        · exact Bool.noConfusion (hn.symm.trans hb)

end Sys2Proof.Machine
end

section
/-! The brake-release step of a departure begun by RESUME (R117). -/

namespace Sys2Proof.Machine

/-! ### What the blocks do at the brake-release step -/

/-- The mode factor that a line mode freezes (R55). -/
theorem modeFactor_eq (t : Lts) (m : LineMode) : modeFactor t m = if m = .reduced then t.fReduced.toNat else 256 := by
  cases m <;> rfl

@[simp] theorem PerStation.set_get {α : Type} (v : PerStation α) (st : Station) : v.set st (v.get st) = v := by
  cases st <;> rfl

/-- A batch after an opening at a brake-release step (R152). -/
def Batch.unsuspended (b : Batch) : Batch := if b.state = .suspended then { b with state := .opened, settle := none } else b

theorem openIfSuspended_eq (st : Station) (s : State) :
    openIfSuspended st s = setBatch st (s.bcu.batches.get st).unsuspended s := by
  unfold openIfSuspended Batch.unsuspended
  split
  · rfl
  · simp [setBatch, State.updBcu]

/-- SUSPENDED batches opened at a brake-release step (R152, R153). -/
theorem openBothIfSuspended_eq (s : State) :
    openIfSuspended .upper (openIfSuspended .lower s) =
      ({ s with bcu := { s.bcu with batches := s.bcu.batches.mapStation (fun _ => Batch.unsuspended) } } : State).raising
        (eventIf (s.bcu.batches.lower.state = .suspended ∨ s.bcu.batches.upper.state = .suspended)
          .batchStateChanged) := by
  have hchanged (b : Batch) : (b.state ≠ b.unsuspended.state) ↔ b.state = .suspended := by
    unfold Batch.unsuspended
    split <;> simp_all
  rw [openIfSuspended_eq, openIfSuspended_eq, setBoth_eq]
  congr 2
  simp only [batchChanged, PerStation.mapStation, hchanged, Bool.decide_or]

/-- No carry-over in a departure begun by RESUME (R151). -/
theorem carryOver_resumed {s : State} (h : s.tsq.origin = none ∨ s.tsq.resume = true) : carryOver s = s := by
  unfold carryOver
  split
  next k hk =>
    rcases h with h | h
    · rw [h] at hk
      cases hk
    · simp [h]
  next => rfl

/-- The state that the blocks' actions at the brake-release step start from (R117). -/
def State.releaseStep (s : State) : State :=
  s.updTsq (fun t => { t with step := some .brakeRelease, closureTimer := none, warningEnded := false })

theorem releaseActions_eq (s : State) : releaseActions s = openIfSuspended .upper (openIfSuspended .lower (carryOver
    (envelopeForTrip ((freeze s.tsq.direction s.releaseStep).updRmu Rmu.atRelease)))) := rfl

/-- The imbalance: the descending load less the ascending load, times m_avg (R54). -/
theorem imbalance_eq (s : State) (d : Direction) : s.imbalance d = (match d with
    | .up => (s.load .b : Int) - s.load .a
    | .down => (s.load .a : Int) - s.load .b) * s.lts.mAvg := by
  cases d <;> rfl

/-- A direction that DIR shows already (R68). -/
theorem handDirection_shown {d : Direction} {s : State} (h : s.srg.dir = d) :
    handDirection d s = directionShown (s.updSrg (fun r => { r with dirPending := none })) := by
  rw [handDirection, if_pos h]

/-- The brake-release step of a departure begun by RESUME, DIR showing the direction (R117). -/
theorem brakeRelease_resumed {g : StopTarget} {s : State} (hs : s.tsq.state = .departing) (hr : s.tsq.resume = true)
    (hdir : s.srg.dir = s.tsq.direction) (hg : s.cpt.target = some g) (hc : s.obs.causes = [])
    (hcmd : s.obs.brakes.sbk.command = .applied) (hread : s.obs.brakes.sbk.reading = .dropped)
    (hebk : s.obs.brakes.ebk.command = .lifted) : BrakesReleased g s (brakeRelease s) := by
  have hact : releaseActions s = openIfSuspended .upper (openIfSuspended .lower
      (envelopeForTrip ((freeze s.tsq.direction s.releaseStep).updRmu Rmu.atRelease))) := by
    rw [releaseActions_eq, carryOver_resumed]
    simp [State.releaseStep, hr]
  have hrel : ((releaseActions s).updSrg (fun r => { r with dirPending := none })).releasing = true := by
    simp [State.releasing, hs, hact, State.releaseStep]
  have hsbk : liftedBrake s s.obs.brakes.sbk = { s.obs.brakes.sbk with
      command := .lifted, proof := .proving, timer := some ⟨0, s.lts.tLift.toNat⟩ } := by
    simp [liftedBrake, hcmd, hread]
  have hlift : liftedBrake s s.obs.brakes.ebk = s.obs.brakes.ebk := by simp [liftedBrake, hebk]
  have hfac := modeFactor_eq s.lts s.tsq.mode
  rw [brakeRelease]
  rw [handDirection_shown (by simp [hdir]), directionShown_lifts (.inl hrel) (by simp [hc]) (by simp [hcmd]) (by simp [hread])]
  refine ⟨doorsTested_ordered (by simp [hs]) (by simp), ?_⟩
  rw [hact, openBothIfSuspended_eq]
  simp [envelopeForTrip, hg, State.releaseStep, freeze, Obs.inForce, Obs.endpointFrom, Rmu.atRelease, Rmu.clearWindows,
    hfac]
  have hbal := imbalance_eq s s.tsq.direction
  refine ⟨rfl, ⟨congrArg s.lts.selectBand hbal, rfl⟩,
    ⟨rfl, congrArg (fun i => (s.lts.band (s.lts.selectBand i)).aSup.toNat) hbal, rfl, hsbk, hlift⟩, rfl,
    raising_lpu_congr _ rfl⟩

/-- Step WARNING of a departure begun by RESUME ends in the brake-release step (R114). -/
theorem endWarningStep_resumed {s : State} (hs : s.tsq.state = .departing) (hstep : s.tsq.step = some .warning)
    (he : s.tsq.warningEnded = true) (hr : s.tsq.resume = true) : endWarningStep s = brakeRelease s := by
  rw [endWarningStep, if_pos ((warningStepDone_iff s).mpr ⟨hs, hstep, he, .inl hr⟩), if_pos hr]

/-- Settles O18: the end of the warning is followed by the brake-release step. -/
theorem resumeReleasesBrakes : Obligations.ResumeReleasesBrakes := by
  intro s g hw hs hstep hr hdir hg hc hcmd hread hebk _
  refine ⟨brakeRelease s.unwarned, ?_, brakeRelease_resumed (s := s.unwarned) hs hr hdir hg hc hcmd hread hebk⟩
  rw [exec_warningEnd hw, endWarningStep_resumed (s := s.unwarned) hs hstep rfl hr]

end Sys2Proof.Machine
end

section
/-! The end of step WARNING of a departure begun by START (R114 to R117, R151), and SETTLE_EXPIRY (R147). -/

namespace Sys2Proof.Machine

/-! ### What the lift of a departure leaves (R92, R117) -/

/-- A departure that becomes RUNNING keeps its batches, its slip check, its envelope and its frozen factor. -/
theorem changeTrip_running {s : State} (step : Option Step) (h : s.tsq.state ≠ .running) :
    (changeTrip .running step s).bcu = s.bcu ∧ (changeTrip .running step s).rmu = s.rmu ∧
    (changeTrip .running step s).obs.envelope = s.obs.envelope ∧
    (changeTrip .running step s).srg.frozen = s.srg.frozen := by
  refine ⟨changeTrip_bcu step h, ?_, ?_, ?_⟩
  · simp [changeTrip_rmu step h, TripState.endsTravel]
  · simp [changeTrip_obs step h, obsOnTrip, TripState.endsTravel]
  · rw [changeTrip_srg step h, srgOnTrip, restReference]
    split <;> simp [Srg.onTrip, TripState.endsTravel, Srg.zeroed]

@[simp] theorem brakesLifted_release (s : State) :
    (brakesLifted s).bcu = s.bcu ∧ (brakesLifted s).rmu = s.rmu ∧
    (brakesLifted s).obs.envelope = s.obs.envelope ∧ (brakesLifted s).srg.frozen = s.srg.frozen := by
  unfold brakesLifted
  split
  next h => exact changeTrip_running none (by simp [state_of_releasing h])
  next => split <;> simp

@[simp] theorem liftRequest_release (s : State) :
    (liftRequest s).bcu = s.bcu ∧ (liftRequest s).rmu = s.rmu ∧
    (liftRequest s).obs.envelope = s.obs.envelope ∧ (liftRequest s).srg.frozen = s.srg.frozen := by
  unfold liftRequest
  split
  · unfold reportLifted
    split <;> simp
  · simp

@[simp] theorem handDirection_release (d : Direction) (s : State) :
    (handDirection d s).bcu = s.bcu ∧ (handDirection d s).rmu = s.rmu ∧
    (handDirection d s).obs.envelope = s.obs.envelope ∧ (handDirection d s).srg.frozen = s.srg.frozen := by
  have hshown (u : State) : (directionShown u).bcu = u.bcu ∧ (directionShown u).rmu = u.rmu ∧
      (directionShown u).obs.envelope = u.obs.envelope ∧ (directionShown u).srg.frozen = u.srg.frozen := by
    unfold directionShown
    split <;> simp
  unfold handDirection
  split
  · simp [hshown]
  · split <;> simp [hshown]

/-- A lift that waits for SBK, or for the causes to be cleared, leaves the departure in its step (R92). -/
theorem handDirection_stays (d : Direction) {s : State} (hr : s.releasing = true)
    (h : s.obs.causes ≠ [] ∨ s.obs.brakes.sbk.reading = .dropped ∧ s.obs.brakes.sbk.command = .applied) :
    (handDirection d s).tsq.state = s.tsq.state ∧ (handDirection d s).tsq.step = s.tsq.step := by
  have hshown (f : Srg → Srg) : (directionShown (s.updSrg f)).tsq.state = s.tsq.state ∧
      (directionShown (s.updSrg f)).tsq.step = s.tsq.step := by
    by_cases hc : s.obs.causes = []
    · obtain ⟨hread, hcmd⟩ := h.resolve_left (fun hn => hn hc)
      rw [directionShown_lifts (s := s.updSrg f) (.inl hr) hc hcmd hread]
      exact ⟨rfl, rfl⟩
    · rw [directionShown, if_pos (Or.inl (by exact hr)), liftRequest, if_neg (by simpa using hc)]
      exact ⟨rfl, rfl⟩
  unfold handDirection
  split
  · exact hshown _
  · split
    · exact hshown _
    · exact ⟨rfl, rfl⟩

/-! ### The carry-over (R151) -/

@[simp] theorem carryOverAt_loads (k : Nat) (st : Station) (s : State) : (carryOverAt k st s).bcu.loads = s.bcu.loads := by
  unfold carryOverAt
  split <;> simp [setBatch_eq]

theorem carryOverAt_other (k : Nat) {st x : Station} (s : State) (h : x ≠ st) :
    (carryOverAt k st s).bcu.batches.get x = s.bcu.batches.get x := by
  unfold carryOverAt
  split <;> simp [h]

theorem carryOverAt_self {k : Nat} {st : Station} {c : Car} {s : State} (hc : s.lts.carAtTerminal k st = some c) :
    (carryOverAt k st s).bcu.batches.get st = (s.bcu.batches.get st).carriedOver (s.load c) := by
  simp [carryOverAt, hc]

theorem isTerminal_of_carAtTerminal {t : Lts} {k : Nat} {st : Station} {c : Car} (h : t.carAtTerminal k st = some c) :
    t.isTerminal k = true := by
  unfold Lts.carAtTerminal at h
  split at h
  next hk => simp [Lts.isTerminal, hk]
  next =>
    split at h
    next hk => simp [Lts.isTerminal, hk]
    next => cases h

/-- One batch after the carry-over of a departure begun by START from a terminal (R151). -/
theorem carryOver_batch {k : Nat} {st : Station} {c : Car} {s : State} (hr : s.tsq.resume = false)
    (ho : s.tsq.origin = some k) (hc : s.lts.carAtTerminal k st = some c) :
    (carryOver s).bcu.batches.get st = (s.bcu.batches.get st).carriedOver (s.load c) := by
  rw [carryOver, ho]
  dsimp only
  rw [if_pos (by simp [hr, isTerminal_of_carAtTerminal hc])]
  cases st with
  | lower => rw [carryOverAt_other _ _ (by decide), carryOverAt_self hc]
  | upper => rw [carryOverAt_self (by simpa using hc), carryOverAt_other _ _ (by decide)]; simp [State.load]

/-- One batch after the brake-release step of such a departure (R151, R152). -/
theorem releaseActions_batch {k : Nat} {st : Station} {c : Car} {s : State} (hr : s.tsq.resume = false)
    (ho : s.tsq.origin = some k) (hc : s.lts.carAtTerminal k st = some c) :
    (releaseActions s).bcu.batches.get st = (s.bcu.batches.get st).carriedOver (s.load c) := by
  have hstart : (carryOver (envelopeForTrip ((freeze s.tsq.direction s.releaseStep).updRmu Rmu.atRelease))).bcu.batches.get st
      = (s.bcu.batches.get st).carriedOver (s.load c) :=
    (carryOver_batch (k := k) (by simp [State.releaseStep, hr]) (by simp [State.releaseStep, ho])
      (by simpa [State.releaseStep] using hc)).trans (by simp [State.releaseStep, State.load])
  rw [releaseActions_eq, openBothIfSuspended_eq]
  have hmap (v : PerStation Batch) : (v.mapStation (fun _ => Batch.unsuspended)).get st = (v.get st).unsuspended := by
    cases st <;> rfl
  rw [raising_bcu, hmap, hstart]
  rfl

/-! ### The end of step WARNING (R114 to R117) -/

@[simp] theorem releaseActions_release (s : State) : (releaseActions s).obs.envelope = true ∧
    (releaseActions s).rmu.slipActive = true ∧ (releaseActions s).srg.frozen = true ∧
    (releaseActions s).tsq.step = some .brakeRelease := by
  have he (u : State) : (envelopeForTrip u).obs.envelope = true := by
    unfold envelopeForTrip
    rw [updObs_obs]
    dsimp only
    split <;> rfl
  simp [releaseActions, he, Rmu.atRelease, freeze]

/-- Step DOORS entered, every RELEASED side ordered closed (R115). -/
def State.doorsOrdered (s : State) : State :=
  { s with tsq := { s.tsq with step := some .doors }, dru := s.dru.mapCar (fun _ d => d.map orderClose) }

theorem overloaded_eq (s : State) : s.overloaded =
    decide (s.lts.inForce.capacity < s.load .a ∨ s.lts.inForce.capacity < s.load .b) := by
  exact (Bool.decide_or _ _).symm

/-- Step DOORS with no car over capacity (R115). -/
theorem doorsStep_uncrowded {s : State} (h : s.overloaded = false) : doorsStep s = enterClosure s.doorsOrdered := by
  have ho : (s.updTsq (fun t => { t with step := some .doors })).overloaded = false := h
  rw [doorsStep, if_neg (by simp [ho])]
  rfl

/-- A car over capacity: the departure goes back to its origin (R115). -/
theorem doorsStep_crowded {s : State} (h : s.overloaded = true) :
    doorsStep s = raise .overload (abandonToOrigin (s.updTsq (fun t => { t with step := some .doors }))) := by
  have ho : (s.updTsq (fun t => { t with step := some .doors })).overloaded = true := h
  rw [doorsStep, if_pos ho]

/-- Step CLOSURE whose four sides are not all proven waits (R115). -/
theorem enterClosure_waits {s : State} (h : allProven s.dru = false) : enterClosure s = s.updTsq (fun t =>
    { t with step := some .closure, closureTimer := some ⟨0, (s.lts.closeTime * 1000).toNat⟩ }) := by
  rw [enterClosure, if_neg (by simp [h])]

/-- Step CLOSURE with all four sides proven is followed by the brake-release step at once (R116). -/
theorem enterClosure_proven {s : State} (hs : s.tsq.state = .departing) (h : allProven s.dru = true) :
    enterClosure s = brakeRelease (raise .doorsProvenClosed (s.updTsq (fun t =>
      { t with step := some .closure, closureTimer := some ⟨0, (s.lts.closeTime * 1000).toNat⟩ }))) := by
  rw [enterClosure, if_pos (by simpa using h), closureReport, if_pos (by simp [hs])]

/-- Step CLOSURE of a departure whose four sides are proven closed (R115, R131). -/
def State.provenClosed (s : State) : State := raise .doorsProvenClosed (s.doorsOrdered.updTsq (fun t =>
  { t with step := some .closure, closureTimer := some ⟨0, (s.lts.closeTime * 1000).toNat⟩ }))

@[simp] theorem provenClosed_keeps (s : State) : s.provenClosed.lts = s.lts ∧ s.provenClosed.cpt = s.cpt ∧
    s.provenClosed.obs = s.obs ∧ s.provenClosed.bcu = s.bcu ∧ s.provenClosed.tsq.state = s.tsq.state ∧
    s.provenClosed.tsq.resume = s.tsq.resume ∧ s.provenClosed.tsq.origin = s.tsq.origin ∧
    s.provenClosed.tsq.step = some .closure ∧ SameClocks s s.provenClosed :=
  ⟨rfl, rfl, rfl, rfl, rfl, rfl, rfl, rfl, rfl, rfl, rfl, rfl, rfl⟩

/-- Step DOORS with the four sides proven closed goes on to the brake-release step (R116). -/
theorem doorsStep_proven {s : State} (hs : s.tsq.state = .departing) (h : s.overloaded = false)
    (hp : allProven s.doorsOrdered.dru = true) : doorsStep s = brakeRelease s.provenClosed := by
  rw [doorsStep_uncrowded h, enterClosure_proven (s := s.doorsOrdered) hs hp]
  rfl

/-- Step WARNING of a departure begun by START ends in step DOORS (R114). -/
theorem endWarningStep_started {s : State} (hd : s.warningStepDone = true) (hr : s.tsq.resume = false) :
    endWarningStep s = doorsStep s := by
  rw [endWarningStep, if_pos hd, if_neg (by simp [hr])]

/-- The end of step WARNING of a departure begun by START (R114, R115). -/
theorem warningStepEnded {k : Nat} {s : State} (hd : s.warningStepDone = true) (hr : s.tsq.resume = false)
    (ho : s.tsq.origin = some k) : WarningStepEnded k s (endWarningStep s) := by
  have hs : s.tsq.state = .departing := ((warningStepDone_iff s).mp hd).1
  rw [endWarningStep_started hd hr]
  have hover := overloaded_eq s
  refine ⟨fun hcrowd hdoors => ?_, fun hcrowd hdoors => ?_, fun hcrowd => ?_⟩
  · have hp : allProven s.doorsOrdered.dru = false := hdoors
    rw [doorsStep_uncrowded (hover.trans hcrowd), enterClosure_waits hp]
    rfl
  · have hp : allProven s.doorsOrdered.dru = true := hdoors
    obtain ⟨hl, hcpt, hobs, hbcu, hst, hres, hor, hstep, hclock⟩ := provenClosed_keeps s
    have hrel : (releaseActions s.provenClosed).releasing = true := by simp [State.releasing, hs]
    rw [doorsStep_proven hs (hover.trans hcrowd) hp]
    refine ⟨fun st c hc => ?_, ?_, ?_, ?_, ?_, ?_, ?_, ?_, ?_, ?_, fun hwait => ?_⟩
    · have hb : (brakeRelease s.provenClosed).bcu.batches.get st = (s.bcu.batches.get st).carriedOver (s.load c) := by
        rw [brakeRelease, (handDirection_release _ _).1,
          releaseActions_batch (hres.trans hr) (hor.trans ho) (hl.symm ▸ hc), State.load, hbcu, State.load]
      exact ⟨hb, by rw [hb]; simp only [Batch.carriedOver]; omega⟩
    · simp
    · simp [brakeRelease]
    · simp [brakeRelease]
    · simp [brakeRelease]
    · simp
    · simp
    · simp
    · simpa [SameClocks] using hclock
    · intro p hp5
      have hP := (eventsGrow_portsKept s.provenClosed).opsKept
      exact EventsGrow.joined (e := .doorsProvenClosed)
        (hP.brakeRelease (not_releasing_of_step (by simp)) (.refl s.provenClosed)) hp5
    · have hstay := handDirection_stays (releaseActions s.provenClosed).tsq.direction hrel (by simpa using hwait)
      simpa [brakeRelease, hs] using hstay
  · rw [doorsStep_crowded (hover.trans hcrowd)]
    exact (abandonToOrigin_opened (s := s.updTsq (fun t => { t with step := some .doors })) (by simp [hs]) ho).raise .overload

theorem originIsTerminal_eq {s : State} {k : Nat} (h : s.tsq.origin = some k) :
    s.originIsTerminal = s.lts.isTerminal k := by
  simp [State.originIsTerminal, h]

/-- Step WARNING of a departure begun by START has come to its end (R114). -/
theorem warningStepDone_started {k : Nat} {s : State} (hs : s.tsq.state = .departing) (hstep : s.tsq.step = some .warning)
    (he : s.tsq.warningEnded = true) (ho : s.tsq.origin = some k)
    (hb : s.lts.isTerminal k = true → s.bothClosed = true) : s.warningStepDone = true := by
  rw [warningStepDone_iff, originIsTerminal_eq ho]
  refine ⟨hs, hstep, he, .inr ?_⟩
  cases ht : s.lts.isTerminal k with
  | false => exact .inl rfl
  | true => exact .inr (hb ht)

/-- Settles O17: the end of the warning ends step WARNING. -/
theorem warningEndOrdersDoors : Obligations.WarningEndOrdersDoors := by
  intro s k hw hs hstep hr ho hb
  exact ⟨_, exec_warningEnd hw,
    warningStepEnded (s := s.unwarned) (warningStepDone_started hs hstep rfl ho hb) hr ho⟩

/-! ### SETTLE_EXPIRY (R147, R148) -/

theorem bothClosed_iff (s : State) : s.bothClosed = true ↔ ∀ x, (s.bcu.batches.get x).state = .closed := by
  simp only [State.bothClosed, Bool.and_eq_true, decide_eq_true_eq]
  refine ⟨fun ⟨hl, hu⟩ x => ?_, fun h => ⟨h .lower, h .upper⟩⟩
  cases x
  · exact hl
  · exact hu

/-- The state in which a settle expiry ends step WARNING, or not (R147, R153). -/
theorem exec_settleExpiry {st : Station} {s : State} (h : (s.bcu.batches.get st).settle.isSome = true) :
    exec (.settleExpiry st) s = .next (endWarningStep
      (({ s with bcu := { s.bcu with batches := s.bcu.batches.set st (s.bcu.batches.get st).settled } } : State).raising
        (eventIf ((s.bcu.batches.get st).state ≠ .closed) .batchStateChanged))) := by
  have hx : exec (.settleExpiry st) s =
      .next (if (s.bcu.batches.get st).settle.isSome then settleOver st s else s) := rfl
  rw [hx, if_pos h, settleOver, setBatch_eq]
  have hcond : decide ((s.bcu.batches.get st).settled.state ≠ (s.bcu.batches.get st).state) =
      decide ((s.bcu.batches.get st).state ≠ .closed) := decide_eq_decide.mpr ne_comm
  rw [hcond]

/-- Settles O19: the expiry settles its batch, and may end step WARNING. -/
theorem settleExpiryCounts : Obligations.SettleExpiryCounts := by
  intro st s
  dsimp only
  refine ⟨fun h => ?_, fun h hgo => ?_, fun k h hs hstep he hr ho hb => ?_⟩
  · have hx : exec (.settleExpiry st) s =
        .next (if (s.bcu.batches.get st).settle.isSome then settleOver st s else s) := rfl
    rw [hx, if_neg (by simp [h])]
  · rw [exec_settleExpiry h, endWarningStep_not]
    · rfl
    · rw [← Bool.not_eq_true, warningStepDone_iff]
      rintro ⟨hs, hstep, he, hb⟩
      rcases hgo with hn | hn | hn | ⟨hr, ht, x, hn⟩
      · exact hn hs
      · exact hn hstep
      · exact Bool.noConfusion (hn.symm.trans he)
      · rcases hb with hb | hb | hb
        · exact Bool.noConfusion (hr.symm.trans hb)
        · exact Bool.noConfusion (ht.symm.trans hb)
        · exact hn ((bothClosed_iff _).mp hb x)
  · refine ⟨_, exec_settleExpiry h, warningStepEnded (warningStepDone_started hs hstep he ho fun ht => ?_) hr ho⟩
    exact (bothClosed_iff _).mpr (hb ht)

end Sys2Proof.Machine
end

section
/-! Requests of the console that leave the trip as it is, or end it: MODE, SERVICE_ON, SERVICE_OFF, CHANNEL_SERVICE, and
the refusals of START and RESUME (R25, R56, R101 to R106, R189). -/

namespace Sys2Proof.Machine

/-! ### A change to a state other than STOPPED (R100, R128) -/

/-- A change of the trip state to one other than STOPPED orders every RELEASED side closed (R128). -/
theorem changeTrip_dru_closed {new : TripState} (step : Option Step) {s : State} (h : s.tsq.state ≠ new)
    (hn : new ≠ .stopped) : (changeTrip new step s).dru = s.dru.mapCar (fun _ v => v.map orderClose) := by
  rw [changeTrip_dru step h, testDoors_not_stopped (by simpa [recordTrip] using hn)]
  simp

/-- No side is RELEASED by an order to close. -/
theorem someReleased_closed {s t : State} (h : t.dru = s.dru.mapCar (fun _ v => v.map orderClose)) :
    someReleased s t = false := by
  have hside (d : DoorRecord) : ¬ ((orderClose d).command = .released ∧ d.command ≠ .released) := by
    unfold orderClose
    split <;> simp_all
  simp [someReleased, h, hside]

/-- The ports after a change to a state other than STOPPED (R100, R153). -/
theorem changeTrip_lpu_closed {new : TripState} (step : Option Step) {s : State} (h : s.tsq.state ≠ new)
    (hn : new ≠ .stopped) : (changeTrip new step s).lpu = (s.raising (.tripStateChanged ::
      eventIf (batchChanged s.bcu.batches (changeTrip new step s).bcu.batches) .batchStateChanged)).lpu := by
  rw [changeTrip_lpu step h, tripEvents, someReleased_closed (changeTrip_dru_closed step h hn)]
  rfl

/-! ### SERVICE_OFF (R103) -/

/-- Settles O43: SERVICE_OFF is taken where the line stands or has not yet released its brakes. -/
theorem serviceOffLeavesService : Obligations.ServiceOffLeavesService := by
  intro s
  have row := exec_plain (c := .serviceOff .p0) (p := .p0) (r := .serviceOff) (x := takeServiceOff (s.ready .p0))
    rfl rfl rfl rfl
  have hearly : (s.ready .p0).earlyDeparture = true ↔
      (s.ready .p0).tsq.state = .departing ∧ (s.ready .p0).tsq.step ≠ some .brakeRelease := by
    simp [State.earlyDeparture]
  dsimp only
  refine ⟨fun h => ?_, fun h => ?_⟩
  · rw [row, takeServiceOff, if_neg (by rw [hearly]; simpa using h)]
    rfl
  · rw [decide_eq_true_eq] at h
    have hout : (s.ready .p0).tsq.state ≠ .outOfService := by
      rintro he
      simp [he] at h
    rw [row, takeServiceOff, if_pos (by rwa [hearly])]
    refine ⟨_, rfl, ?_, ?_, ?_, ?_, fun st => ?_, ?_, ?_, ?_, ?_, ?_, changeTrip_lpu_closed none hout (by decide)⟩
    · simp [changeTrip_tsq none hout, TripState.keepsDrive]
    · simp [changeTrip_obs none hout, obsOnTrip, TripState.endsTravel]
    · simp [changeTrip_rmu none hout, TripState.endsTravel]
    · rw [changeTrip_srg_at_rest none hout rfl (by decide)]
      have htrip : (s.ready .p0).tsq.state ≠ .tripped := fun he => by simp [he] at h
      have hmove : (s.ready .p0).tsq.state ≠ .inspecting := fun he => by simp [he] at h
      simp [Srg.onTrip, TripState.endsTravel, htrip, hmove]
    · rw [changeTrip_bcu none hout]
      cases st <;> rfl
    · simp
    · exact changeTrip_doorsTested none hout
    · simp
    · simp
    · simp [SameClocks]

/-! ### SERVICE_ON (R102) -/

/-- The stop where the line stands, and none (R50). -/
theorem standingStop_some {s : State} {k : Nat} (hk : k < s.lts.stopCount) (h : s.standsAt k = true)
    (hl : ∀ i < k, s.standsAt i = false) : s.standingStop = some k := by
  rw [State.standingStop, List.find?_range_eq_some]
  exact ⟨h, by simpa using hk, fun i hi => by simpa using hl i hi⟩

theorem standingStop_none {s : State} : s.standingStop = none ↔ ∀ i < s.lts.stopCount, s.standsAt i = false := by
  simp [State.standingStop]

theorem service_iff (m : LineMode) : m.service = true ↔ m = .normal ∨ m = .reduced := by
  cases m <;> simp [LineMode.service]

/-- Settles O42: the conditions of SERVICE_ON in their order, and the stop it leads to. -/
theorem serviceOnStops : Obligations.ServiceOnStops := by
  intro s
  have row := exec_plain (c := .serviceOn .p0) (p := .p0) (r := .serviceOn) (x := takeServiceOn (s.ready .p0))
    rfl rfl rfl rfl
  rw [row]
  dsimp only
  by_cases hs : (s.ready .p0).tsq.state ≠ .outOfService
  · simp only [takeServiceOn, if_pos hs]
    exact ⟨fun _ => rfl, fun _ _ _ _ h => by simp at h⟩
  by_cases hm : (s.ready .p0).tsq.mode = .normal ∨ (s.ready .p0).tsq.mode = .reduced
  swap
  · have hm' : (s.ready .p0).tsq.mode.service = false := by rw [← Bool.not_eq_true, service_iff]; exact hm
    simp only [takeServiceOn, if_neg hs, if_pos hm, hm', Bool.not_false, if_true]
    exact ⟨fun _ => rfl, fun _ _ _ _ h => by simp at h⟩
  have hm' : (s.ready .p0).tsq.mode.service = true := (service_iff _).mpr hm
  by_cases hk : (s.ready .p0).rmu.known = false
  · simp only [takeServiceOn, if_neg hs, hm, hm', hk, not_true_eq_false, if_false, Bool.not_true, Bool.not_false,
      Bool.false_eq_true, if_true]
    exact ⟨fun _ => rfl, fun _ _ _ _ h => by simp at h⟩
  rw [Bool.not_eq_false] at hk
  simp only [takeServiceOn, if_neg hs, hm, hm', hk, not_true_eq_false, if_false, Bool.not_true, Bool.false_eq_true]
  refine ⟨fun h => ?_, fun k hlt hst hlow h => ?_⟩
  · have hn : ∀ i < (s.ready .p0).lts.stopCount, (s.ready .p0).standsAt i = false := by
      by_contra hn
      simp [hn] at h
    rw [standingStop_none.mpr hn, if_pos hn]
    rfl
  · rw [standingStop_some hlt hst hlow]
    obtain ⟨hc, hb, hl⟩ := openedAtStop k (s := (s.ready .p0).updTsq (fun t => { t with origin := none }))
      (by simpa using fun he => hs (by simp [he]))
    exact ⟨_, rfl, hc, hb, hl⟩

/-! ### MODE (R56, R101, R189) -/

/-- The modes but CONFIG (Table 6-3). -/
theorem takeMode_of {m : Byte} {n : LineMode} (hm : LineMode.ofCode m = some n) (hn : n ≠ .config) (s : State) :
    takeMode m s = if s.tsq.state = .configuring then (.refusedState, s)
      else if (n = .inspection ∨ s.tsq.mode = .inspection) ∧ s.tsq.state ≠ .outOfService then (.refusedState, s)
      else if s.tsq.mode = .inspection ∧ n ≠ .inspection ∧ !s.rmu.known then (.notClear condPosition, s)
      else (.ok, setMode n s) := by
  rw [takeMode, hm]
  cases n <;> simp_all

/-- The line mode set, and the factor lowered from NORMAL to REDUCED (R56). -/
theorem setMode_eq (n : LineMode) (s : State) : setMode n s = { s with
    tsq := { s.tsq with mode := n }
    srg := { s.srg with fRef := if s.srg.frozen = true ∧ s.tsq.mode = .normal ∧ n = .reduced then
      s.lts.fReduced.toNat else s.srg.fRef } } := by
  simp only [setMode, Bool.and_eq_true, decide_eq_true_eq, and_assoc]
  split <;> simp_all [State.updSrg, State.updTsq]

/-- A MODE of another mode than CONFIG (R56, Table 6-3). -/
theorem exec_mode_of {m : Byte} {n : LineMode} (hm : LineMode.ofCode m = some n) (hn : n ≠ .config)
    (he : encodingOk (.mode m) = true) (s : State) :
    let u := s.ready .p0
    let reply : List Byte :=
      if u.tsq.state = .configuring then [1]
      else if (n = .inspection ∨ u.tsq.mode = .inspection) ∧ u.tsq.state ≠ .outOfService then [1]
      else if u.tsq.mode = .inspection ∧ n ≠ .inspection ∧ u.rmu.known = false then [2, 1]
      else [0]
    exec (.mode .p0 m) s = .next (State.answered (if reply = [0] then setMode n u else u) .p0 9 reply) := by
  have row := exec_plain (c := .mode .p0 m) (p := .p0) (r := .mode m) (s := s) (x := takeMode m (s.ready .p0)) rfl rfl he rfl
  rw [row, takeMode_of hm hn]
  simp only [Bool.not_eq_true']
  split
  · rfl
  split
  · rfl
  split <;> rfl

/-- Settles O40: the conditions of a line mode in their order, the mode set and the factor lowered. -/
theorem modeChangesLineMode : Obligations.ModeChangesLineMode := by
  intro m s
  have hdef : encodingOk (.mode (BitVec.ofNat 8 m.val)) = true := by
    simp only [encodingOk, BitVec.toNat_ofNat, decide_eq_true_eq]
    omega
  have hcode (n : LineMode) (hm : LineMode.ofCode (BitVec.ofNat 8 m.val) = some n) (hn : n ≠ .config) :=
    exec_mode_of hm hn hdef s
  simp only [setMode_eq] at hcode
  match m with
  | 0 => simpa using hcode .normal rfl (by decide)
  | 1 => simpa using hcode .reduced rfl (by decide)
  | 2 => simpa using hcode .inspection rfl (by decide)

/-- Settles O41: MODE CONFIG enters CONFIGURING out of service, and is idle in CONFIGURING. -/
theorem modeConfigEntersConfiguring : Obligations.ModeConfigEntersConfiguring := by
  intro s
  have row := exec_plain (c := .modeConfig .p0) (p := .p0) (r := .mode 3) (s := s) (x := takeModeConfig (s.ready .p0))
    rfl rfl rfl rfl
  dsimp only
  refine ⟨fun h => ?_, fun hc ho => ?_, fun h => ?_⟩
  · rw [row, takeModeConfig, h]
    rfl
  · rw [row, takeModeConfig]
    split
    next h => exact absurd h ho
    next h => exact absurd h hc
    next => rfl
  · have hout : (s.ready .p0).tsq.state ≠ .configuring := by simp [h]
    rw [row, takeModeConfig, h]
    refine ⟨enterConfiguring (s.ready .p0), rfl, ?_, ?_, ?_, ?_, ?_, ?_, fun st => ?_, ?_, ?_, ?_, ?_⟩
    · simp [enterConfiguring]
    · simp [enterConfiguring, changeTrip_tsq none hout, TripState.keepsDrive, Tsq.atRest]
    · simp [enterConfiguring]
    · simp [enterConfiguring, changeTrip_srg_at_rest none hout rfl, Srg.onTrip, Srg.atRest]
    · simp [enterConfiguring, changeTrip_obs none hout, obsOnTrip, TripState.endsTravel, Obs.atRest]
    · simp [enterConfiguring, changeTrip_rmu none hout, Rmu.atConfiguring]
      rfl
    · simp only [enterConfiguring, updObs_bcu, updSrg_bcu, updCpt_bcu, updTsq_bcu, updRmu_bcu, updLts_bcu]
      rw [changeTrip_bcu none hout]
      cases st <;> rfl
    · simp
    · exact doorsTested_ordered (by simp [enterConfiguring, Tsq.atRest])
        (by simpa [enterConfiguring] using changeTrip_dru_closed none hout (by decide))
    · simpa [enterConfiguring] using changeTrip_lpu_closed none hout (by decide)
    · simp [SameClocks]

/-! ### CHANNEL_SERVICE (R25, R33) -/

/-- A channel put into a state (R25, R33). -/
theorem setChannelState_eq (i : Fin 4) (next : ChannelState) (s : State) :
    let counts := s.lts.isMain i = true ∧ (s.rmu.channels.get i).state ≠ next
    setChannelState i next s = { s with
      rmu := { s.rmu with
        channels := s.rmu.channels.set i { s.rmu.channels.get i with state := next }
        pA := if counts then 0 else s.rmu.pA
        p1 := if counts then 0 else s.rmu.p1
        p2 := if counts then 0 else s.rmu.p2 } } := by
  dsimp only
  simp only [setChannelState, Bool.and_eq_true, decide_eq_true_eq]
  by_cases h : s.lts.isMain i = true ∧ (s.rmu.channels.get i).state ≠ next
  · simp only [if_pos h]
    rfl
  · simp only [if_neg h]
    rfl

/-- Settles O47: the conditions of CHANNEL_SERVICE in their order, and the state set. -/
theorem channelServiceSetsState : Obligations.ChannelServiceSetsState := by
  intro i remove s
  have hi : (BitVec.ofNat 8 i.val).toNat = i.val := by
    rw [BitVec.toNat_ofNat]
    omega
  have hserve (a : Byte) (next : ChannelState) (ha : (a = 0 ∧ next = .outOfService) ∨ (a = 1 ∧ next = .inService)) :
      takeChannelService (BitVec.ofNat 8 i.val) a (s.ready .p0) = serveChannel i next (s.ready .p0) := by
    have hfin : (⟨(BitVec.ofNat 8 i.val).toNat, by omega⟩ : Fin 4) = i := Fin.ext hi
    rw [takeChannelService, dif_pos (by omega), hfin]
    rcases ha with ⟨rfl, rfl⟩ | ⟨rfl, rfl⟩ <;> rfl
  cases remove with
  | true =>
    have row := exec_plain (c := .channelServiceRemove .p0 (BitVec.ofNat 8 i.val)) (p := .p0)
      (r := .channelService (BitVec.ofNat 8 i.val) 0) (s := s)
      (x := takeChannelService (BitVec.ofNat 8 i.val) 0 (s.ready .p0)) rfl rfl rfl rfl
    rw [hserve 0 _ (.inl ⟨rfl, rfl⟩)] at row
    simp only [if_true, true_and]
    rw [row]
    simp only [serveChannel, setChannelState_eq, true_and, Lts.isMain, decide_eq_true_eq]
    split
    · rfl
    split
    · rfl
    split
    · rfl
    split <;> rfl
  | false =>
    have row := exec_plain (c := .channelServiceRestore .p0 (BitVec.ofNat 8 i.val)) (p := .p0)
      (r := .channelService (BitVec.ofNat 8 i.val) 1) (s := s)
      (x := takeChannelService (BitVec.ofNat 8 i.val) 1 (s.ready .p0)) rfl rfl rfl rfl
    rw [hserve 1 _ (.inr ⟨rfl, rfl⟩)] at row
    simp only [Bool.false_eq_true, if_false, false_and]
    rw [row]
    simp only [serveChannel, setChannelState_eq, reduceCtorEq, false_and, if_false, Lts.isMain, decide_eq_true_eq]
    split
    · rfl
    split
    · rfl
    split <;> rfl

/-! ### The refusals of START and RESUME (R104, R106) -/

/-- The first condition of a list that fails (Table 6-4). -/
theorem firstCondition_cons (c : Nat) (b : Bool) (rest : List (Nat × Bool)) :
    firstCondition ((c, b) :: rest) = if b then some c else firstCondition rest := by
  cases b <;> rfl

@[simp] theorem firstCondition_nil : firstCondition [] = none := rfl

/-- The conditions of a trip, and those that follow them (Table 6-4). -/
theorem firstCondition_trip (u : State) (rest : List (Nat × Bool)) :
    firstCondition (u.tripConditions ++ rest) =
      if tripBlock u = none then firstCondition rest else (tripBlock u).map BitVec.toNat := by
  simp only [State.tripConditions, List.cons_append, List.nil_append, firstCondition_cons, tripBlock, State.carLinkUp,
    ← service_iff, Bool.not_eq_true', Bool.not_eq_true, decide_eq_true_eq]
  split
  · rfl
  split
  · rfl
  split
  · rfl
  split
  · rfl
  split <;> simp [condCauses]

theorem tripBlock_condition {u : State} {c : Byte} (h : tripBlock u = some c) (rest : List (Nat × Bool)) :
    firstCondition (u.tripConditions ++ rest) = some c.toNat := by
  rw [firstCondition_trip, h]
  rfl

/-- The bytes of NOT_CLEAR (Table 10-5). -/
theorem encode_notClear (c : Byte) : (Status.notClear c.toNat).encode = [2, c] := by
  simp [Status.encode, enc1]

/-- What START answers (R104). -/
theorem takeStart_reply {direction : Byte} {d : Direction} (hd : Direction.ofCode direction = some d) (u : State) :
    takeStart direction u =
      if u.tsq.state ≠ .stopped then (.refusedState, u)
      else match tripBlock u with
        | some c => (.notClear c.toNat, u)
        | none => if u.directionPossible d (u.tsq.target.getD 0) = false then (.notClear condDirection, u)
          else if u.overloaded then (.overload, u) else (.ok, startTrip d u) := by
  rw [takeStart, hd]
  dsimp only
  split
  · rfl
  cases hb : tripBlock u with
  | some c => simp [tripBlock_condition hb]
  | none =>
    rw [firstCondition_trip, if_pos hb, firstCondition_cons, State.stoppedAt]
    cases u.directionPossible d (u.tsq.target.getD 0) <;> simp

/-- What RESUME answers (R106). -/
theorem takeResume_reply (u : State) :
    takeResume u =
      if u.tsq.state ≠ .stranded then (.refusedState, u)
      else match tripBlock u with
        | some c => (.notClear c.toNat, u)
        | none => match u.nearestServed with
          | none => (.notClear condNoTarget, u)
          | some k => if u.overloaded then (.overload, u) else (.ok, resumeTrip k u) := by
  rw [takeResume]
  split
  · rfl
  cases hb : tripBlock u with
  | some c =>
    have hc := tripBlock_condition hb []
    rw [List.append_nil] at hc
    simp [hc]
  | none =>
    have hc := firstCondition_trip u []
    rw [List.append_nil, if_pos hb] at hc
    simp [hc] <;> rfl

/-- A direction has a code of 0 or 1 (Table 10-5). -/
theorem direction_le {direction : Byte} {d : Direction} (hd : Direction.ofCode direction = some d) :
    direction.toNat ≤ 1 := by
  by_contra h
  have hnone : Direction.ofCode direction = none := by
    unfold Direction.ofCode
    split <;> simp_all
  rw [hnone] at hd
  cases hd

/-- Settles O37: the replies of START and RESUME in the order of their conditions. -/
theorem tripRequestsRefused : Obligations.TripRequestsRefused := by
  intro direction d s hd
  have he : encodingOk (.start direction) = true := decide_eq_true (direction_le hd)
  have start := exec_plain (c := .start .p0 direction) (p := .p0) (r := .start direction) (s := s)
    (x := takeStart direction (s.ready .p0)) rfl rfl he rfl
  have resume := exec_plain (c := .resume .p0) (p := .p0) (r := .resume) (s := s)
    (x := takeResume (s.ready .p0)) rfl rfl rfl rfl
  dsimp only
  rw [start, resume, takeStart_reply hd, takeResume_reply]
  refine ⟨fun h => ?_, fun h => ?_⟩
  · by_cases hs : (s.ready .p0).tsq.state ≠ .stopped
    · simp only [if_pos hs]
      rfl
    cases hb : tripBlock (s.ready .p0) with
    | some c =>
      simp only [if_neg hs, encode_notClear]
      rfl
    | none =>
      simp only [hb, if_neg hs] at h ⊢
      by_cases hp : (s.ready .p0).directionPossible d ((s.ready .p0).tsq.target.getD 0) = false
      · simp only [if_pos hp]
        rfl
      · simp only [if_neg hp] at h ⊢
        cases ho : (s.ready .p0).overloaded with
        | true => rfl
        | false => simp [ho] at h
  · by_cases hs : (s.ready .p0).tsq.state ≠ .stranded
    · simp only [if_pos hs]
      rfl
    cases hb : tripBlock (s.ready .p0) with
    | some c =>
      simp only [if_neg hs, encode_notClear]
      rfl
    | none =>
      simp only [hb, if_neg hs] at h ⊢
      cases hn : (s.ready .p0).nearestServed with
      | none => rfl
      | some k =>
        simp only [hn, reduceCtorEq, if_false] at h ⊢
        cases ho : (s.ready .p0).overloaded with
        | true => rfl
        | false => simp [ho] at h

end Sys2Proof.Machine
end

section
/-! Halt requests (R109 to R112): HALT_CALL, HALT_CANCEL and the call lines. -/

namespace Sys2Proof.Machine

/-! ### A halt request taken (R109, R111) -/

theorem brakingDistance_eq (s : State) :
    s.brakingDistance = s.srg.vRef / 1000 * (s.srg.vRef / 1000) / (2 * s.aDec) := rfl

theorem nearer_eq (s : State) (k : Nat) : s.nearer k = s.tsq.target.any (fun g => beyond s.tsq.direction k g) := by
  unfold State.nearer
  cases s.tsq.target <;> rfl

/-- A request listed (R109). -/
theorem listHalt_eq (k : Nat) (src : HaltSource) (s : State) : listHalt k src s =
    if s.listed k then { s with tsq := { s.tsq with halts := s.tsq.halts.map (fun e =>
      if e.stopIndex = k ∧ ¬ src ∈ e.sources then { e with sources := e.sources ++ [src] } else e) } }
    else haltListed k src s := by
  unfold listHalt
  split
  · rfl
  · rw [raise_eq]
    rfl

/-- A halt request that passed the tests of R109 (R109, R111). -/
theorem testFeasibility_listHalt (k : Nat) (src : HaltSource) (s : State) :
    testFeasibility k (listHalt k src s) = haltTaken k src s := by
  unfold haltTaken
  dsimp only
  rw [← listHalt_eq]
  have hl : (listHalt k src s).tsq.state = s.tsq.state ∧ (listHalt k src s).tsq.phase = s.tsq.phase ∧
      (listHalt k src s).feasible k = s.feasible k ∧ (listHalt k src s).stopTarget k = s.stopTarget k ∧
      (listHalt k src s).cpt = s.cpt := by
    rw [listHalt_eq]
    split <;> exact ⟨rfl, rfl, rfl, rfl, rfl⟩
  obtain ⟨hs, hp, hf, ht, hc⟩ := hl
  have hfeas : s.feasible k = true ↔ distance s.tsq.direction s.xs (s.stopTarget k) ≥
        ((s.srg.vRef / 1000 * (s.srg.vRef / 1000) / (2 * s.aDec) : Nat) : Int) + s.lts.creepDist ∧
      0 < distance s.tsq.direction s.xs (s.stopTarget k) ∧
      s.tsq.target.any (fun g => beyond s.tsq.direction k g) = true := by
    simp only [State.feasible, Bool.and_eq_true, decide_eq_true_eq, gt_iff_lt, and_assoc]
    rw [nearer_eq, brakingDistance_eq]
  have hmoves : (listHalt k src s).tsq.state = .running ∧ (listHalt k src s).tsq.phase ≠ some .creep ∧
        (listHalt k src s).feasible k = true ↔
      s.tsq.state = .running ∧ s.tsq.phase ≠ some .creep ∧ s.feasible k = true := by
    rw [hs, hp, hf]
  rw [testFeasibility]
  simp only [hmoves, hfeas]
  split
  · rw [moveTarget, raise_eq, nameStop, ht, ← hc]
    rfl
  · rfl

/-- The reply and the effect of a halt request (R109). -/
theorem haltRequest_eq (k : Nat) (src : HaltSource) (s : State) : haltRequest k src s =
    if s.tsq.state = .configuring then (.refusedState, s)
    else if s.lts.stopCount ≤ k then (.badArgument, s)
    else if s.lts.onRequest k = false then (.badStop, s)
    else if s.tsq.state = .stopped ∧ s.tsq.target = some k then (.ok, s.raising [.haltRequestServed])
    else (.ok, haltTaken k src s) := by
  simp only [haltRequest, Bool.not_eq_true', raise_eq, testFeasibility_listHalt]

/-- The effect of a halt request (R109). -/
theorem haltRequest_effect (k : Nat) (src : HaltSource) (s : State) : (haltRequest k src s).2 =
    if decide (s.tsq.state = .configuring ∨ s.lts.stopCount ≤ k ∨ s.lts.onRequest k = false) then s
    else if decide (s.tsq.state = .stopped ∧ s.tsq.target = some k) then s.raising [.haltRequestServed]
    else haltTaken k src s := by
  rw [haltRequest_eq]
  simp only [decide_eq_true_eq]
  by_cases hc : s.tsq.state = .configuring
  · rw [if_pos hc, if_pos (.inl hc)]
  by_cases hn : s.lts.stopCount ≤ k
  · rw [if_neg hc, if_pos hn, if_pos (.inr (.inl hn))]
  by_cases ho : s.lts.onRequest k = false
  · rw [if_neg hc, if_neg hn, if_pos ho, if_pos (.inr (.inr ho))]
  have hpass : ¬ (s.tsq.state = .configuring ∨ s.lts.stopCount ≤ k ∨ s.lts.onRequest k = false) := by
    simp [hc, hn, ho]
  rw [if_neg hc, if_neg hn, if_neg ho, if_neg hpass]
  split <;> rfl

/-! ### HALT_CALL (R109) -/

/-- Settles O44: the checks of HALT_CALL in their order, and the request taken. -/
theorem haltCallLists : Obligations.HaltCallLists := by
  intro k s
  have row := exec_plain (c := .haltCall .p0 k) (p := .p0) (r := .haltCall k) (s := s)
    (x := haltRequest k.toNat .console (s.ready .p0)) rfl rfl rfl rfl
  rw [haltRequest_eq] at row
  dsimp only
  rw [row]
  by_cases hc : (s.ready .p0).tsq.state = .configuring
  · simp only [if_pos hc]
    exact ⟨fun _ => rfl, fun h => by simp at h, fun h => by simp at h⟩
  simp only [if_neg hc]
  by_cases hn : (s.ready .p0).lts.stopCount ≤ k.toNat
  · simp only [if_pos hn]
    exact ⟨fun _ => rfl, fun h => by simp at h, fun h => by simp at h⟩
  simp only [if_neg hn]
  by_cases ho : (s.ready .p0).lts.onRequest k.toNat = false
  · simp only [if_pos ho]
    exact ⟨fun _ => rfl, fun h => by simp at h, fun h => by simp at h⟩
  simp only [if_neg ho]
  refine ⟨fun h => absurd rfl h, fun _ hs ht => ?_, fun _ h => ?_⟩
  · rw [if_pos ⟨hs, ht⟩]
    rfl
  · rw [if_neg h]
    rfl

/-! ### HALT_CANCEL (R112) -/

/-- Settles O45: the checks of HALT_CANCEL in their order, the entry removed and the target chosen anew. -/
theorem haltCancelRemoves : Obligations.HaltCancelRemoves := by
  intro k s
  have row := exec_plain (c := .haltCancel .p0 k) (p := .p0) (r := .haltCancel k) (s := s)
    (x := takeHaltCancel k.toNat (s.ready .p0)) rfl rfl rfl rfl
  simp only [takeHaltCancel, Bool.not_eq_true'] at row
  dsimp only
  rw [row]
  by_cases hc : (s.ready .p0).tsq.state = .configuring
  · simp only [if_pos hc]
    exact ⟨fun _ => rfl, fun h => by simp at h, fun _ _ h => by simp at h⟩
  simp only [if_neg hc]
  by_cases hn : (s.ready .p0).lts.stopCount ≤ k.toNat
  · simp only [if_pos hn]
    exact ⟨fun _ => rfl, fun h => by simp at h, fun _ _ h => by simp at h⟩
  simp only [if_neg hn]
  by_cases ho : (s.ready .p0).lts.onRequest k.toNat = false
  · simp only [if_pos ho]
    exact ⟨fun _ => rfl, fun h => by simp at h, fun _ _ h => by simp at h⟩
  simp only [if_neg ho]
  by_cases hl : (s.ready .p0).listed k.toNat = false
  · simp only [if_pos hl]
    exact ⟨fun _ => rfl, fun h => by simp at h, fun _ _ h => by simp at h⟩
  simp only [if_neg hl]
  by_cases ha : (s.ready .p0).tsq.target = some k.toNat ∧ ((s.ready .p0).tsq.state = .arriving ∨
      ((s.ready .p0).tsq.state = .running ∧ (s.ready .p0).tsq.phase = some .creep))
  · simp only [if_pos ha]
    exact ⟨fun _ => rfl, fun h => by simp at h, fun _ _ h => by simp at h⟩
  simp only [if_neg ha]
  refine ⟨fun h => absurd rfl h, fun _ h => ?_, fun j hj _ ht hs => ?_⟩
  · rw [if_neg h]
    rfl
  · rw [if_pos ⟨ht, hs⟩]
    have hj' : ((s.ready .p0).updTsq (fun t =>
        { t with halts := t.halts.filter (fun e => decide (e.stopIndex ≠ k.toNat)) })).nearestServed = some j := hj
    simp only [rechooseTarget, hj', moveTarget, raise_eq]
    rfl

/-! ### CALL_LINE_CHANGE (R110) -/

/-- Settles O25: a call line that goes ACTIVE asks for a halt at its mapped stop. -/
theorem callLineAsksHalt : Obligations.CallLineAsksHalt := by
  intro line active s
  have hx : exec (.callLineChange line active) s = .next (if s.tsq.callLines.get line = active then s
    else if active then takeCall line (s.updTsq (fun t => { t with callLines := t.callLines.set line active }))
      else s.updTsq (fun t => { t with callLines := t.callLines.set line active })) := rfl
  dsimp only
  rw [hx]
  refine ⟨fun h => ?_, fun hne h => ?_, fun hoff hon hcom x hmap => ?_⟩
  · rw [if_pos h]
  · rw [if_neg hne]
    cases active with
    | false => rfl
    | true =>
      simp only [if_true, takeCall]
      rcases h with h | h | h
      · cases h
      · have hm : (s.updTsq (fun t => { t with callLines := t.callLines.set line true })).lts.call line = none := h
        rw [hm]
        rfl
      · split
        · have hm : (s.updTsq (fun t => { t with callLines := t.callLines.set line true })).lts.committed = false := h
          rw [if_neg (by simp [h])]
          rfl
        · rfl
  · subst hon
    obtain ⟨k, c⟩ := x
    have hm : (s.updTsq (fun t => { t with callLines := t.callLines.set line true })).lts.call line = some (k, c) := hmap
    simp only [hoff, Bool.false_eq_true, if_false, if_true, takeCall, hm]
    rw [if_pos (by simpa using hcom), haltRequest_effect]
    rfl

end Sys2Proof.Machine
end

section
/-! START and RESUME taken: the departure begun (R105, R106, R114, R146). -/

namespace Sys2Proof.Machine

/-! ### The nearest served stop (R107) -/

/-- The greatest index with a property. -/
theorem find?_reverse_range {n j : Nat} {p : Nat → Bool} (hj : j < n) (hp : p j = true)
    (hlow : ∀ i < n, j < i → p i = false) : (List.range n).reverse.find? p = some j := by
  induction n with
  | zero => omega
  | succ n ih =>
    rw [List.range_succ, List.reverse_append, List.reverse_singleton, List.singleton_append, List.find?_cons]
    by_cases h : j = n
    · rw [← h, hp]
    · rw [hlow n (by omega) (by omega)]
      exact ih (by omega) (fun i hi => hlow i (by omega))

/-- The nearest served stop ahead: the first that is met in the trip's direction (R107). -/
theorem nearestServed_some {s : State} {j : Nat} (hj : j < s.lts.stopCount) (ha : s.isAhead j = true)
    (hs : s.served j = true)
    (hnear : ∀ i < s.lts.stopCount, s.isAhead i = true → beyond s.tsq.direction i j = true → s.served i = false) :
    s.nearestServed = some j := by
  have hother (i : Nat) (hi : i < s.lts.stopCount) (hb : beyond s.tsq.direction i j = true) :
      (s.isAhead i && s.served i) = false := by
    cases h : s.isAhead i with
    | false => rfl
    | true => simp [hnear i hi h hb]
  unfold State.nearestServed State.stopsInOrder
  cases hd : s.tsq.direction with
  | up =>
    rw [List.find?_range_eq_some]
    refine ⟨by simp [ha, hs], by simpa using hj, fun i hi => ?_⟩
    rw [hother i (by omega) (by simpa [hd, beyond] using hi), Bool.not_false]
  | down =>
    refine find?_reverse_range hj (by simp [ha, hs]) (fun i hi hlt => ?_)
    exact hother i hi (by simpa [hd, beyond] using hlt)

/-! ### The line departing (R100, R114, R128) -/

/-- A line that stands goes to DEPARTING, in step WARNING (R100, R114). -/
theorem changeTrip_departing {s : State} (h : s.tsq.state = .stopped ∨ s.tsq.state = .stranded) :
    changeTrip .departing (some .warning) s = ({ s with
      tsq := { s.tsq with
        state := .departing, step := some .warning, phase := none, lastChange := s.clock, move := none,
        warningEnded := false, closureTimer := none }
      srg := { s.srg with vRef := 0, holding := 0 }
      obs := { s.obs with liftPending := false, applyPending := false }
      dru := s.dru.mapCar (fun _ v => v.map orderClose) } : State).raising [.tripStateChanged] := by
  have hs : s.tsq.state ≠ .departing := by rcases h with h | h <;> simp [h]
  have htrip : s.tsq.state ≠ .tripped := by rcases h with h | h <;> simp [h]
  have hmove : s.tsq.state ≠ .inspecting := by rcases h with h | h <;> simp [h]
  have hdoors : testDoors (obsOnTrip .departing (recordTrip .departing (some .warning) s)) =
      (obsOnTrip .departing (recordTrip .departing (some .warning) s)).updDru
        (fun d => d.mapCar (fun _ v => v.map orderClose)) :=
    testDoors_not_stopped (by simp [recordTrip])
  rw [changeTrip, if_neg hs, hdoors, bcuOnTrip, if_neg (by decide), srgOnTrip, restReference_at_rest]
  · simp [rmuOnTrip, obsOnTrip, recordTrip, raise_eq, Srg.onTrip, Srg.zeroed, TripState.endsTravel, TripState.keepsDrive,
      hs, htrip, hmove, State.updRmu, State.updSrg, State.updDru, State.updObs, State.updTsq]
    rfl
  all_goals simp [recordTrip]

/-- The line departing to a stop, its warning begun or, with warn_time 0, ended at once (R69, R105, R106). -/
def State.departing (u : State) (j : Nat) : State :=
  (if u.lts.warnTime ≤ 0 then departedUnwarned u j else departed u j).raising [.tripStateChanged]

theorem startWarning_departing {s : State} (j : Nat) (h : s.tsq.state = .stopped ∨ s.tsq.state = .stranded) :
    startWarning (changeTrip .departing (some .warning) (setTarget j s)) = s.departing j := by
  rw [changeTrip_departing (s := setTarget j s) h, State.departing]
  by_cases hw : s.lts.warnTime ≤ 0
  · rw [startWarning, if_pos (by exact hw), if_pos hw]
    rfl
  · rw [startWarning, if_neg (by exact hw), if_neg hw]
    rfl

/-- The CLOSING request for both batches (R146, R153). -/
theorem closeBatches_eq (s : State) : closeBatch .upper (closeBatch .lower s) =
    ({ s with bcu := { s.bcu with batches :=
        (s.bcu.batches.mapStation (fun _ => Batch.closeRequested (s.lts.settleTime * 1000).toNat)) } } : State).raising
      (eventIf (batchChanged s.bcu.batches
        (s.bcu.batches.mapStation (fun _ => Batch.closeRequested (s.lts.settleTime * 1000).toNat))) .batchStateChanged) := by
  have hl : (closeBatch .lower s).lts = s.lts := by simp
  rw [closeBatch, hl]
  exact setBoth_eq (Batch.closeRequested (s.lts.settleTime * 1000).toNat) s

@[simp] theorem departing_keeps (s : State) (j : Nat) : (s.departing j).lts = s.lts ∧ (s.departing j).bcu = s.bcu ∧
    (s.departing j).tsq.state = .departing ∧ (s.departing j).tsq.step = some .warning ∧
    (s.departing j).tsq.resume = s.tsq.resume ∧ (s.departing j).tsq.origin = s.tsq.origin ∧
    (s.departing j).originIsTerminal = s.originIsTerminal := by
  unfold State.departing
  split <;> exact ⟨rfl, rfl, rfl, rfl, rfl, rfl, rfl⟩

theorem departing_warned {s : State} (j : Nat) : (s.departing j).tsq.warningEnded = decide (s.lts.warnTime ≤ 0) := by
  unfold State.departing
  split
  next h => simp [departedUnwarned, h]
  next h => simp [departed, h]

/-- A departure begun to a stop (R105, R106, R114). -/
theorem beginDeparture_setTarget {s : State} (j : Nat) (h : s.tsq.state = .stopped ∨ s.tsq.state = .stranded) :
    beginDeparture (setTarget j s) = endWarningStep (if !s.tsq.resume && s.originIsTerminal then
      closeBatch .upper (closeBatch .lower (s.departing j)) else s.departing j) := by
  rw [beginDeparture, startWarning_departing j h]
  simp

/-! ### START (R105) -/

/-- A trip asked for from stop k in a direction (R105). -/
def State.fromStop (u : State) (d : Direction) (k : Nat) : State :=
  { u with tsq := { u.tsq with direction := d, origin := some k, resume := false } }

/-- The line departing by START from stop k to stop j, the batches of a terminal asked to close (R105, R146). -/
def State.startBegun (u : State) (d : Direction) (k j : Nat) : State :=
  if u.lts.isTerminal k then closeBatch .upper (closeBatch .lower ((u.fromStop d k).departing j))
  else (u.fromStop d k).departing j

/-- START taken begins the departure, and may end step WARNING at once (R105, R114). -/
theorem startTrip_eq {u : State} {d : Direction} {k j : Nat} (hs : u.tsq.state = .stopped) (hk : u.tsq.target = some k)
    (hj : j < u.lts.stopCount) (hb : beyond d k j = true) (hserved : u.served j = true)
    (hnear : ∀ i < u.lts.stopCount, beyond d k i = true → beyond d i j = true → u.served i = false) :
    startTrip d u = endWarningStep (u.startBegun d k j) := by
  have hstop : u.stoppedAt = k := by simp [State.stoppedAt, hk]
  have hahead (i : Nat) : (u.fromStop d k).isAhead i = beyond d k i := by
    simp [State.isAhead, State.countsFrom, State.fromStop, hs, hk]
  have hn : (u.fromStop d k).nearestServed = some j :=
    nearestServed_some hj (by rw [hahead, hb]) hserved (fun i hi ha => hnear i hi (by rwa [hahead] at ha))
  have hterm : (u.fromStop d k).originIsTerminal = u.lts.isTerminal k := rfl
  have hres : (u.fromStop d k).tsq.resume = false := rfl
  have hstart : startTrip d u = beginDeparture (setTarget ((u.fromStop d k).nearestServed.getD u.stoppedAt)
      (u.fromStop d k)) := by
    rw [startTrip, hstop]
    rfl
  rw [hstart, hn, Option.getD_some, beginDeparture_setTarget (s := u.fromStop d k) j (.inl hs), hterm, hres]
  rfl

/-- The record of a line departing by START, its warning running or ended (R69, R105). -/
def State.startRecord (u : State) (d : Direction) (k j : Nat) : State :=
  if u.lts.warnTime ≤ 0 then departedUnwarned (u.fromStop d k) j else departed (u.fromStop d k) j

theorem startBegun_eq (u : State) (d : Direction) (k j : Nat) :
    let batches := u.bcu.batches.mapStation (fun _ => Batch.closeRequested (u.lts.settleTime * 1000).toNat)
    u.startBegun d k j = if u.lts.isTerminal k then
      ({ u.startRecord d k j with bcu := { u.bcu with batches := batches } } : State).raising
        (.tripStateChanged :: eventIf (batchChanged u.bcu.batches batches) .batchStateChanged)
    else (u.startRecord d k j).raising [.tripStateChanged] := by
  dsimp only
  have hb : ((u.fromStop d k).departing j).bcu = u.bcu := by simp [State.fromStop]
  have hl : ((u.fromStop d k).departing j).lts = u.lts := by simp [State.fromStop]
  unfold State.startBegun
  split
  · rw [closeBatches_eq, hb, ← hl, ← List.singleton_append, ← raising_raising]
    rfl
  · rfl

theorem startBegun_keeps (u : State) (d : Direction) (k j : Nat) :
    (u.startBegun d k j).tsq = ((u.fromStop d k).departing j).tsq ∧ (u.startBegun d k j).lts = u.lts := by
  unfold State.startBegun
  split <;> simp [closeBatches_eq, State.fromStop]

/-- Settles O35: START begins the departure to the nearest served stop beyond. -/
theorem startBeginsDeparture : Obligations.StartBeginsDeparture := by
  intro direction d k j s
  dsimp only
  intro hd hs hk hblock hposs hload hj hb hserved hnear
  have row := exec_plain (c := .start .p0 direction) (p := .p0) (r := .start direction) (s := s)
    (x := takeStart direction (s.ready .p0)) rfl rfl (decide_eq_true (direction_le hd)) rfl
  have htaken : takeStart direction (s.ready .p0) = (.ok, endWarningStep ((s.ready .p0).startBegun d k j)) := by
    have hposs' : (s.ready .p0).directionPossible d ((s.ready .p0).tsq.target.getD 0) = true := by simpa [hk] using hposs
    rw [takeStart_reply hd, if_neg (by simp [hs]), hblock]
    simp [hposs', hload, startTrip_eq hs hk hj hb hserved hnear]
  rw [row, htaken]
  obtain ⟨htsq, hlts⟩ := startBegun_keeps (s.ready .p0) d k j
  have hwarned : ((s.ready .p0).startBegun d k j).tsq.warningEnded = decide ((s.ready .p0).lts.warnTime ≤ 0) := by
    rw [htsq, departing_warned]
    rfl
  refine ⟨fun hw => ?_, fun hw hterm hopen => ?_, fun hw hclosed => ?_⟩
  · have hrec : (s.ready .p0).startRecord d k j = departed ((s.ready .p0).fromStop d k) j := by
      rw [State.startRecord, if_neg (by omega)]
    rw [endWarningStep_not, startBegun_eq, hrec]
    · split <;> rfl
    · rw [← Bool.not_eq_true, warningStepDone_iff, hwarned]
      rintro ⟨-, -, he, -⟩
      rw [decide_eq_true_eq] at he
      omega
  · have hrec : (s.ready .p0).startRecord d k j = departedUnwarned ((s.ready .p0).fromStop d k) j := by
      rw [State.startRecord, if_pos hw]
    have hbegun := startBegun_eq (s.ready .p0) d k j
    dsimp only at hbegun
    rw [if_pos hterm, hrec] at hbegun
    rw [if_pos hterm, endWarningStep_not, hbegun]
    · rfl
    · rw [← Bool.not_eq_true, warningStepDone_iff]
      rintro ⟨-, -, -, hr | ht | hb⟩
      · rw [htsq] at hr
        simp [State.fromStop] at hr
      · rw [originIsTerminal_eq (k := k) (by rw [htsq]; simp [State.fromStop]), hlts, hterm] at ht
        cases ht
      · rw [bothClosed_iff, hbegun] at hb
        obtain ⟨st, hst⟩ := hopen
        exact hst (hb st)
  · have hrec : (s.ready .p0).startRecord d k j = departedUnwarned ((s.ready .p0).fromStop d k) j := by
      rw [State.startRecord, if_pos hw]
    have hbegun := startBegun_eq (s.ready .p0) d k j
    dsimp only at hbegun
    rw [hrec] at hbegun
    have hdone : ((s.ready .p0).startBegun d k j).warningStepDone = true :=
      warningStepDone_started (k := k) (by rw [htsq]; simp) (by rw [htsq]; simp) (by rw [hwarned]; simp [hw])
        (by rw [htsq]; simp [State.fromStop]) (fun ht => by
          rw [hlts] at ht
          rw [hbegun, if_pos ht, bothClosed_iff]
          exact hclosed ht)
    have hend := warningStepEnded (k := k) hdone (by rw [htsq]; simp [State.fromStop]) (by rw [htsq]; simp [State.fromStop])
    refine ⟨_, rfl, ?_⟩
    rw [hbegun] at hend ⊢
    exact hend

/-! ### RESUME (R106) -/

/-- A trip taken up again, without an origin (R106). -/
def State.resumed (u : State) : State := { u with tsq := { u.tsq with origin := none, resume := true } }

theorem resumeTrip_eq {u : State} (j : Nat) (hs : u.tsq.state = .stranded) :
    resumeTrip j u = endWarningStep (u.resumed.departing j) := by
  have hres : u.resumed.tsq.resume = true := rfl
  have hstart : resumeTrip j u = beginDeparture (setTarget j u.resumed) := rfl
  rw [hstart, beginDeparture_setTarget (s := u.resumed) j (.inr hs), hres]
  rfl

/-- With warn_time 0 a RESUME is followed by the brake-release step (R69, R114). -/
theorem resumed_releases {u : State} (j : Nat) (hw : u.lts.warnTime ≤ 0) (hblock : tripBlock u = none)
    (hdir : u.srg.dir = u.tsq.direction) (hcmd : u.obs.brakes.sbk.command = .applied)
    (hread : u.obs.brakes.sbk.reading = .dropped) (hebk : u.obs.brakes.ebk.command = .lifted) :
    BrakesReleased ⟨j, u.stopTarget j, false⟩
      (({ departedUnwarned u j with
        tsq := { (departedUnwarned u j).tsq with origin := none, resume := true } } : State).raising [.tripStateChanged])
      (endWarningStep (u.resumed.departing j)) := by
  have hrec : u.resumed.departing j = (departedUnwarned u.resumed j).raising [.tripStateChanged] := by
    rw [State.departing, if_pos (by exact hw)]
  have hcauses : u.obs.causes = [] := by
    by_contra hc
    unfold tripBlock at hblock
    split_ifs at hblock
  rw [endWarningStep_resumed (by simp) (by simp) (by rw [departing_warned]; exact decide_eq_true hw)
    (by simp [State.resumed]), hrec]
  exact brakeRelease_resumed rfl rfl hdir rfl hcauses hcmd hread hebk

/-- Settles O36: RESUME begins the departure of a STRANDED line to the nearest served stop ahead. -/
theorem resumeBeginsDeparture : Obligations.ResumeBeginsDeparture := by
  intro j s
  dsimp only
  intro hs hblock hload hj hb hserved hnear
  have row := exec_plain (c := .resume .p0) (p := .p0) (r := .resume) (s := s)
    (x := takeResume (s.ready .p0)) rfl rfl rfl rfl
  have hahead (i : Nat) : (s.ready .p0).isAhead i =
      decide (distance (s.ready .p0).tsq.direction (s.ready .p0).xs ((s.ready .p0).stopTarget i) > 0) := by
    simp [State.isAhead, State.countsFrom, hs]
  have hn : (s.ready .p0).nearestServed = some j :=
    nearestServed_some hj (by rw [hahead]; exact hb) hserved (fun i hi ha => hnear i hi (by rwa [hahead] at ha))
  have htaken : takeResume (s.ready .p0) = (.ok, endWarningStep ((s.ready .p0).resumed.departing j)) := by
    rw [takeResume_reply, if_neg (by simp [hs]), hblock]
    simp [hn, hload, resumeTrip_eq j hs]
  have hwarned := departing_warned (s := (s.ready .p0).resumed) j
  have hlts : (s.ready .p0).resumed.lts = (s.ready .p0).lts := rfl
  rw [hlts] at hwarned
  rw [row, htaken]
  refine ⟨fun hw => ?_, fun hw hdir hcmd hread hebk => ?_⟩
  · rw [endWarningStep_not, State.departing, if_neg (by rw [hlts]; omega)]
    · rfl
    · rw [← Bool.not_eq_true, warningStepDone_iff, hwarned]
      rintro ⟨-, -, he, -⟩
      rw [decide_eq_true_eq] at he
      omega
  · exact ⟨_, rfl, resumed_releases j hw hblock hdir hcmd hread hebk⟩

end Sys2Proof.Machine
end

section
/-! Causes given between samples: PFAIL, the brakes' proofs and readings (R83 to R95), and the silent links (R123, R186). -/

namespace Sys2Proof.Machine

/-! ### PFAIL (R85, R89) -/

/-- A change of the PFAIL reading (R85). -/
theorem exec_pfailChange {active : Bool} {s : State} (h : s.obs.pfail ≠ active) : exec (.pfailChange active) s =
    .next (if active then giveCause .powerFail .linePfail (s.updObs (fun o => { o with pfail := active }))
      else s.updObs (fun o => { o with pfail := active })) := by
  have hx : exec (.pfailChange active) s = .next (if s.obs.pfail = active then s
    else if active then giveCause .powerFail .linePfail (s.updObs (fun o => { o with pfail := active }))
      else s.updObs (fun o => { o with pfail := active })) := rfl
  rw [hx, if_neg h]

/-- A cause joins the list, and the first trips the line (R83, R84). -/
theorem giveCause_joined {kind : CauseKind} (source : CauseSource) {s : State} (hc : s.lts.committed = true)
    (hk : s.hasCause kind = false) : CauseJoined kind source s (giveCause kind source s) := by
  have ht : s.takesCause kind = true := by simp [State.takesCause, hc, hk]
  refine ⟨?_, fun he => giveCause_first source ht he, fun he => giveCause_later source he⟩
  rw [giveCause_causes, if_pos ht]
  rfl

@[simp] theorem PerBrake.set_get {α : Type} (v : PerBrake α) (b : Brake) : v.set b (v.get b) = v := by
  cases b <;> rfl

/-- A brake commanded APPLIED (R89, R93). -/
theorem applyBrake_brakes (b : Brake) (s : State) :
    (applyBrake b s).obs.brakes = s.obs.brakes.set b (appliedBrake s (s.obs.brakes.get b)) := by
  unfold applyBrake
  split
  next h => simp [appliedBrake, h]
  next h =>
    rw [setBrake_brakes, appliedBrake, if_neg h]
    rfl

/-- SERVICE braking commands SBK, and leaves EBK and the rail brake (R89). -/
theorem serviceBraking_braked (s : State) : ServiceBraked (serviceBraking s) ∧
    (serviceBraking s).obs.brakes = s.obs.brakes.set .sbk (appliedBrake s (s.obs.brakes.get .sbk)) ∧
    (serviceBraking s).obs.railBrake = s.obs.railBrake := by
  have hb : (serviceBraking s).obs.brakes = s.obs.brakes.set .sbk (appliedBrake s (s.obs.brakes.get .sbk)) := by
    rw [serviceBraking, applyBrake_brakes]
    rfl
  have hcmd (r : BrakeRecord) : (appliedBrake s r).command = .applied := by
    unfold appliedBrake
    split
    next h => exact h
    next => split <;> rfl
  refine ⟨⟨by rw [hb]; exact hcmd _, ?_, ?_, ?_⟩, hb, ?_⟩
  all_goals simp [serviceBraking, dropDrive, stopReference]

/-- EMERGENCY braking commands both brakes and the rail brake (R90). -/
theorem emergencyBraking_braked (s : State) : EmergencyBraked (emergencyBraking s) ∧
    ∀ b, (emergencyBraking s).obs.brakes.get b = appliedBrake s (s.obs.brakes.get b) := by
  obtain ⟨⟨-, hd, hv, hh⟩, hb, -⟩ := serviceBraking_braked s
  have hcmd (b : Brake) := emergencyBraking_commands b s
  refine ⟨⟨⟨hcmd .sbk, ?_, ?_, ?_⟩, hcmd .ebk, by simp⟩, fun b => ?_⟩
  · simpa [emergencyBraking] using hd
  · simpa [emergencyBraking] using hv
  · simpa [emergencyBraking] using hh
  · have ha (r : BrakeRecord) : appliedBrake (serviceBraking s) r = appliedBrake s r := by simp [appliedBrake]
    rw [emergencyBraking, updObs_obs, applyBrake_brakes, hb, ha]
    cases b <;> rfl

/-- The holding duty after a change of the trip state is as it was or 0 (R57, R67). -/
theorem changeTrip_holding (new : TripState) (step : Option Step) (s : State) :
    (changeTrip new step s).srg.holding = s.srg.holding ∨ (changeTrip new step s).srg.holding = 0 := by
  by_cases h : s.tsq.state = new
  · exact .inl (by rw [changeTrip_same step h])
  · rw [changeTrip_srg step h, srgOnTrip, restReference]
    split <;> simp [Srg.onTrip, Srg.zeroed]

/-- The trip that a cause gives keeps SERVICE braking (R84, R89). -/
theorem ServiceBraked.trip {s : State} (h : ServiceBraked s) : ServiceBraked (trip s) := by
  obtain ⟨hb, hd, hv, hh⟩ := h
  refine ⟨by simpa using hb, ?_, ?_, ?_⟩
  · by_cases ht : s.tsq.state = .tripped
    · rw [Machine.trip, changeTrip_same (s := s.updObs _) none (by exact ht)]
      exact hd
    · rw [Machine.trip, changeTrip_tsq (s := s.updObs _) none (by exact ht)]
      simp [hd]
  · rcases changeTrip_vRef .tripped none (s.updObs (fun o => { o with trippedFrom := some s.tsq.state })) with he | he
    · exact he.trans hv
    · exact he
  · rcases changeTrip_holding .tripped none (s.updObs (fun o => { o with trippedFrom := some s.tsq.state })) with he | he
    · exact he.trans hh
    · exact he

theorem EmergencyBraked.trip {s : State} (h : EmergencyBraked s) : EmergencyBraked (trip s) := by
  obtain ⟨hs, he, hr⟩ := h
  exact ⟨hs.trip, by simpa using he, by simpa using hr⟩

/-! ### A cause taken (R83 to R90) -/

theorem joinCause_braking (k : CauseKind) (src : CauseSource) (s : State) :
    (joinCause k src s).braking = s.braking.max k.severity := by
  simp [State.braking, joinCause, brakingOf_append, causeEntry]

/-- The first cause, none of a STOP (R84). -/
theorem giveCause_first_eq {k : CauseKind} (src : CauseSource) {s : State} (h : s.takesCause k = true)
    (he : s.obs.causes = []) (hk : k.severity ≠ .stop) :
    giveCause k src s = trip (brakingAction .none (joinCause k src s)) := by
  simp only [State.takesCause, Bool.and_eq_true, Bool.not_eq_true'] at h
  simp [giveCause, h, he, hk]

/-- A later cause (R84). -/
theorem giveCause_later_eq {k : CauseKind} (src : CauseSource) {s : State} (h : s.takesCause k = true)
    (he : s.obs.causes ≠ []) : giveCause k src s = brakingAction s.braking (joinCause k src s) := by
  simp only [State.takesCause, Bool.and_eq_true, Bool.not_eq_true'] at h
  simp [giveCause, h, he]

theorem braking_of_no_cause {s : State} (he : s.obs.causes = []) : s.braking = .none := by simp [State.braking, he]

theorem trip_brakes (s : State) : (trip s).obs.brakes = s.obs.brakes := by simp

/-- The first cause of severity SERVICE puts SERVICE braking in force (R89). -/
theorem giveCause_service {k : CauseKind} (src : CauseSource) {s : State} (h : s.takesCause k = true)
    (he : s.obs.causes = []) (hk : k.severity = .service) :
    ServiceBraked (giveCause k src s) ∧ (giveCause k src s).obs.brakes.ebk = s.obs.brakes.ebk ∧
      (giveCause k src s).obs.railBrake = s.obs.railBrake := by
  have hb : (joinCause k src s).braking = .service := by
    rw [joinCause_braking, braking_of_no_cause he, hk]
    rfl
  have hact : brakingAction .none (joinCause k src s) = serviceBraking (joinCause k src s) := by
    rw [brakingAction, hb]
    rfl
  obtain ⟨hs, hbrakes, hrail⟩ := serviceBraking_braked (joinCause k src s)
  rw [giveCause_first_eq src h he (by simp [hk]), hact]
  refine ⟨hs.trip, ?_, ?_⟩
  · rw [trip_brakes, hbrakes]
    rfl
  · simp

/-- A cause of severity EMERGENCY raises the braking to EMERGENCY (R86, R90). -/
theorem giveCause_emergency {k : CauseKind} (src : CauseSource) {s : State} (h : s.takesCause k = true)
    (hk : k.severity = .emergency) (hb : s.braking ≠ .emergency) :
    EmergencyBraked (giveCause k src s) ∧
      ∀ b, (giveCause k src s).obs.brakes.get b = appliedBrake s (s.obs.brakes.get b) := by
  have hj : (joinCause k src s).braking = .emergency := by
    rw [joinCause_braking, hk]
    revert hb
    cases s.braking <;> decide
  have hact (before : Braking) (hbefore : before ≠ .emergency) :
      brakingAction before (joinCause k src s) = emergencyBraking (joinCause k src s) := by
    rw [brakingAction, hj]
    revert hbefore
    cases before <;> simp [Braking.code]
  have ha (r : BrakeRecord) : appliedBrake (joinCause k src s) r = appliedBrake s r := rfl
  obtain ⟨hem, hbrakes⟩ := emergencyBraking_braked (joinCause k src s)
  by_cases he : s.obs.causes = []
  · rw [giveCause_first_eq src h he (by simp [hk]), hact _ (by decide)]
    refine ⟨hem.trip, fun b => ?_⟩
    rw [trip_brakes, hbrakes, ha]
    rfl
  · rw [giveCause_later_eq src h he, hact _ hb]
    exact ⟨hem, fun b => hbrakes b⟩

/-- Settles O24: PFAIL that goes ACTIVE gives POWER_FAIL. -/
theorem pfailGivesCause : Obligations.PfailGivesCause := by
  intro active s
  refine ⟨fun h => ?_, fun h ha => ?_, fun h ha hc => ?_, fun h ha hc hk => ?_⟩
  · have hx : exec (.pfailChange active) s = .next (if s.obs.pfail = active then s
      else if active then giveCause .powerFail .linePfail (s.updObs (fun o => { o with pfail := active }))
        else s.updObs (fun o => { o with pfail := active })) := rfl
    rw [hx, if_pos h]
  · subst ha
    rw [exec_pfailChange (by simp [h])]
    rfl
  · subst ha
    rw [exec_pfailChange (by simp [h]), if_pos rfl, giveCause_not _ (by simp [State.takesCause, hc])]
    rfl
  · subst ha
    have ht : (s.updObs (fun o => { o with pfail := true })).takesCause .powerFail = true := by
      have hk' : (s.updObs (fun o => { o with pfail := true })).hasCause .powerFail = false := hk
      simp [State.takesCause, hc, hk']
    rw [exec_pfailChange (by simp [h]), if_pos rfl]
    refine ⟨_, rfl, ?_, ?_, fun he => ?_, ?_⟩
    · simp
    · exact giveCause_joined (s := s.updObs (fun o => { o with pfail := true })) .linePfail hc hk
    · exact giveCause_service .linePfail ht he rfl
    · simp [SameClocks, (giveCause_envelope (k := .powerFail) .linePfail _ (by decide)).2.2.2.2.2.2.2.2]

/-! ### The fault of a brake (R93 to R95) -/

theorem brakeFault_eq (b : Brake) (s : State) : brakeFault b s = giveCause (faultCause b).1 (faultCause b).2 s := by
  cases b <;> rfl

/-- A cause of severity EMERGENCY that is listed holds EMERGENCY braking (R86). -/
theorem braking_of_listed {k : CauseKind} {s : State} (h : s.hasCause k = true) (hk : k.severity = .emergency) :
    s.braking = .emergency := by
  have hmax (x y : Braking) : x.max y = .emergency ↔ x = .emergency ∨ y = .emergency := by
    cases x <;> cases y <;> decide
  have hlist (l : List CauseEntry) (before : Braking) :
      (l.any (fun e => decide (e.kind = k)) = true ∨ before = .emergency) →
      l.foldl (fun b e => b.max e.kind.severity) before = .emergency := by
    induction l generalizing before with
    | nil => simp
    | cons e rest ih =>
      intro he
      refine ih _ ?_
      rw [List.any_cons, Bool.or_eq_true, decide_eq_true_eq] at he
      rcases he with (he | he) | he
      · exact .inr ((hmax _ _).mpr (.inr (by rw [he, hk])))
      · exact .inl he
      · exact .inr ((hmax _ _).mpr (.inl he))
  exact hlist s.obs.causes .none (.inl h)

/-- A cause under EMERGENCY braking commands nothing (R86). -/
theorem giveCause_under_emergency (k : CauseKind) (src : CauseSource) {s : State} (hb : s.braking = .emergency) :
    (giveCause k src s).obs.brakes = s.obs.brakes ∧ (giveCause k src s).obs.railBrake = s.obs.railBrake ∧
    (giveCause k src s).tsq = s.tsq ∧ (giveCause k src s).srg = s.srg ∧ (giveCause k src s).bcu = s.bcu := by
  cases ht : s.takesCause k with
  | false => simp [giveCause_not src ht]
  | true =>
    have he : s.obs.causes ≠ [] := fun h => by simp [braking_of_no_cause h] at hb
    have hact : brakingAction .emergency (joinCause k src s) = joinCause k src s := by
      unfold brakingAction
      split
      · rw [if_neg (by decide)]
      · rw [if_neg (by decide)]
      · rfl
    rw [giveCause_later_eq src ht he, hb, hact]
    simp [joinCause]

theorem faultCause_emergency (b : Brake) : (faultCause b).1.severity = .emergency := by cases b <;> rfl

/-- A brake's record replaced and its fault cause given (R83, R86, R90). -/
theorem brakeFaulted (b : Brake) (r : BrakeRecord) (s : State) : BrakeFaulted b r s (brakeFault b (setBrake b r s)) := by
  have hsev := faultCause_emergency b
  have hcauses : (setBrake b r s).obs.causes = s.obs.causes := by simp
  have hbraking : (setBrake b r s).braking = s.braking := by rw [State.braking, hcauses, State.braking]
  have hhas (k : CauseKind) : (setBrake b r s).hasCause k = s.hasCause k := by rw [State.hasCause, hcauses, State.hasCause]
  have hcom : (setBrake b r s).lts.committed = s.lts.committed := by simp
  have hkind : (faultCause b).1 ≠ .stopDemand := by cases b <;> decide
  rw [brakeFault_eq]
  refine ⟨fun hc hk => ?_, fun h => ?_, fun hc hb => ?_, fun h => ?_, ?_, ?_, ?_, ?_⟩
  · have hj := giveCause_joined (faultCause b).2 (hcom.trans hc) ((hhas _).trans hk)
    simpa [CauseJoined, State.xs, State.speed] using hj
  · have hn : (setBrake b r s).takesCause (faultCause b).1 = false := by
      rcases h with h | h <;> simp [State.takesCause, hhas, h]
    rw [giveCause_not _ hn]
    simp
  · have ht : (setBrake b r s).takesCause (faultCause b).1 = true := by
      have hk : s.hasCause (faultCause b).1 = false := by
        cases hk : s.hasCause (faultCause b).1 with
        | false => rfl
        | true => exact absurd (braking_of_listed hk hsev) hb
      simp [State.takesCause, hc, hhas, hk]
    obtain ⟨hem, hbrakes⟩ := giveCause_emergency (faultCause b).2 ht hsev (by rwa [hbraking])
    have ha (x : BrakeRecord) : appliedBrake (setBrake b r s) x = appliedBrake s x := by simp [appliedBrake]
    refine ⟨hem, ?_, fun x hx => ?_⟩
    · rw [hbrakes, ha, setBrake_brakes, PerBrake.get_set, if_pos rfl]
    · rw [hbrakes, ha, setBrake_brakes, PerBrake.get_set, if_neg hx]
  · rcases h with h | h
    · rw [giveCause_not _ (by simp [State.takesCause, h])]
      simp
    · obtain ⟨h1, h2, h3, h4, h5⟩ := giveCause_under_emergency (faultCause b).1 (faultCause b).2 (hbraking.trans h)
      simp [h1, h2, h3, h4, h5]
  · simp
  · simp
  · simp [(giveCause_envelope (faultCause b).2 (setBrake b r s) hkind).2.2.2.2.2.2.2.2]
  · simp [SameClocks]

theorem proving_iff (s : State) (b : Brake) (c : BrakeCommand) : s.proving b c = true ↔
    (s.obs.brakes.get b).command = c ∧ (s.obs.brakes.get b).proof = .proving := by simp [State.proving]

/-- Settles O21: a proof that runs out fails, with the fault cause of its brake. -/
theorem proofTimeoutFaults : Obligations.ProofTimeoutFaults := by
  intro b s
  have ha : exec (.applyProofTimeout b) s =
      .next (if s.proving b .applied then failProof b (s.obs.brakes.get b) s else s) := rfl
  have hl : exec (.liftProofTimeout b) s =
      .next (if s.proving b .lifted then failProof b (s.obs.brakes.get b) s else s) := rfl
  refine ⟨fun h => ?_, fun h => ?_, fun h => ?_⟩
  · rw [ha, if_neg (by rwa [proving_iff])]
  · rw [hl, if_neg (by rwa [proving_iff])]
  · refine ⟨_, ?_, brakeFaulted b _ s⟩
    split
    next hc =>
      rw [ha, if_pos ((proving_iff _ _ _).mpr ⟨hc, h⟩)]
      rfl
    next hc =>
      have hlift : (s.obs.brakes.get b).command = .lifted := by
        cases hcmd : (s.obs.brakes.get b).command with
        | applied => exact absurd hcmd hc
        | lifted => rfl
      rw [hl, if_pos ((proving_iff _ _ _).mpr ⟨hlift, h⟩)]
      rfl

/-! ### A brake's reading (R95) -/

/-- A brake's record replaced, its command and proof as they were: no door is tested (R127). -/
theorem setBrake_same {b : Brake} {r : BrakeRecord} {s : State} (hc : r.command = (s.obs.brakes.get b).command)
    (hp : r.proof = (s.obs.brakes.get b).proof) :
    setBrake b r s = { s with obs := { s.obs with brakes := s.obs.brakes.set b r } } := by
  rw [setBrake, if_neg]
  · rfl
  · rintro ⟨rfl, h | h⟩
    · exact h hc
    · exact h hp

/-- A brake's record replaced: SBK's new proof tests the doors (R127). -/
theorem setBrake_tested {b : Brake} {r : BrakeRecord} {s : State} (hc : r.command = (s.obs.brakes.get b).command) :
    if b = .sbk ∧ (s.obs.brakes.get b).proof ≠ r.proof then DoorsTested s (setBrake b r s)
    else (setBrake b r s).dru = s.dru := by
  split
  next h =>
    obtain ⟨rfl, hp⟩ := h
    have ht := testDoors_tested (s.updObs (fun o => { o with brakes := o.brakes.set .sbk r }))
    rw [setBrake, if_pos ⟨rfl, .inr (fun he => hp he.symm)⟩]
    exact ht.congr rfl rfl (fun _ _ => rfl)
  next h =>
    rw [setBrake, if_neg]
    · rfl
    · rintro ⟨rfl, hn | hn⟩
      · exact hn hc
      · exact h ⟨rfl, fun he => hn he.symm⟩

theorem setBrake_lpu (b : Brake) (r : BrakeRecord) (s : State) :
    (setBrake b r s).lpu = (s.raising (eventIf (someReleased s (setBrake b r s)) .doorsReleased)).lpu := by
  have hl := testDoors_lpu (s.updObs (fun o => { o with brakes := o.brakes.set b r }))
  unfold setBrake
  dsimp only
  split
  · exact hl.trans (raising_lpu_congr _ rfl)
  · have hn : someReleased s (s.updObs (fun o => { o with brakes := o.brakes.set b r })) = false :=
      someReleased_of_same rfl
    rw [hn, eventIf_false, raising_nil]
    rfl

/-- A brake's record replaced while the line is not STOPPED: no side is released (R126). -/
theorem setBrake_not_stopped {s : State} (h : s.tsq.state ≠ .stopped) (b : Brake) (r : BrakeRecord) :
    setBrake b r s = { s with
      obs := { s.obs with brakes := s.obs.brakes.set b r }, dru := (setBrake b r s).dru } := by
  unfold setBrake
  dsimp only
  split
  · rw [testDoors_not_stopped (s := s.updObs _) h]
    rfl
  · rfl

theorem feedbackAgrees_eq (f : Feedback) (c : BrakeCommand) : feedbackAgrees f c =
    decide ((f = .lifted ∧ c = .lifted) ∨ (f = .dropped ∧ c = .applied)) := by
  cases f <;> cases c <;> rfl

theorem exec_brakeFeedbackChange {b : Brake} {x : Feedback} {s : State} (h : (s.obs.brakes.get b).reading ≠ x) :
    exec (.brakeFeedbackChange b x) s = .next (feedback b x s) := by
  have hx : exec (.brakeFeedbackChange b x) s =
      .next (if (s.obs.brakes.get b).reading = x then s else feedback b x s) := rfl
  rw [hx, if_neg h]

/-- A brake proven by its reading (R93, R94). -/
def BrakeRecord.provenBy (r : BrakeRecord) (x : Feedback) : BrakeRecord :=
  { r with reading := x, proof := .proven, timer := none }

/-- A reading that agrees with the command proves the brake, and the requests hear of it (R92 to R95). -/
theorem feedback_agrees {b : Brake} {x : Feedback} {s : State}
    (h : decide ((x = .lifted ∧ (s.obs.brakes.get b).command = .lifted) ∨
      (x = .dropped ∧ (s.obs.brakes.get b).command = .applied)) = true) :
    feedback b x s = reportApplied (reportLifted (setBrake b ((s.obs.brakes.get b).provenBy x) s)) := by
  rw [feedback, if_pos (by rw [feedbackAgrees_eq]; exact h)]
  rfl

/-- The last proof of a lift request is reported (R92). -/
theorem reportLifted_proven {b : Brake} {x : Feedback} {s : State} (hl : s.obs.liftPending = true)
    (hall : ∀ y, (s.obs.brakes.get y).command = .lifted ∧ (y ≠ b → (s.obs.brakes.get y).proof = .proven)) :
    reportLifted (setBrake b ((s.obs.brakes.get b).provenBy x) s) =
      brakesLifted ((setBrake b ((s.obs.brakes.get b).provenBy x) s).updObs (fun o => { o with liftPending := false })) := by
  have hproven (y : Brake) : (setBrake b ((s.obs.brakes.get b).provenBy x) s).provenAs y .lifted = true := by
    obtain ⟨hc, hp⟩ := hall y
    simp only [State.provenAs, setBrake_brakes, PerBrake.get_set]
    split
    next h => simp [BrakeRecord.provenBy, ← h, hc]
    next h => simp [hc, hp h]
  rw [reportLifted, if_pos]
  simp [hproven, hl]

/-- Settles O22: a reading that changes proves its brake, or fails a proven one. -/
theorem feedbackProvesOrFaults : Obligations.FeedbackProvesOrFaults := by
  intro b x s
  dsimp only
  refine ⟨fun h => ?_, fun h hagree hl ha => ?_, fun h hagree hc hl hr hall => ?_, fun h hagree hc hl hs hstep hall => ?_,
    fun hagree hp h => ?_, fun h hagree hp => ?_⟩
  · have hx : exec (.brakeFeedbackChange b x) s =
        .next (if (s.obs.brakes.get b).reading = x then s else feedback b x s) := rfl
    rw [hx, if_pos h]
  · have hlift : reportLifted (setBrake b ((s.obs.brakes.get b).provenBy x) s) =
        setBrake b ((s.obs.brakes.get b).provenBy x) s := by
      rw [reportLifted, if_neg (by simp [hl])]
    have happly : reportApplied (setBrake b ((s.obs.brakes.get b).provenBy x) s) =
        setBrake b ((s.obs.brakes.get b).provenBy x) s := by
      rw [reportApplied, if_neg (by simp [ha])]
    rw [exec_brakeFeedbackChange h, feedback_agrees hagree, hlift, happly]
    refine ⟨_, rfl, setBrake_tested (r := (s.obs.brakes.get b).provenBy x) rfl, ?_, ?_⟩
    · simp [BrakeRecord.provenBy]
    · simp [SameClocks, setBrake_lpu]
  · rw [exec_brakeFeedbackChange h, feedback_agrees hagree, reportLifted_proven hl hall]
    have hdep := state_of_releasing hr
    have hset := setBrake_not_stopped (s := s) (by simp [hdep]) b ((s.obs.brakes.get b).provenBy x)
    have hrun : ({ s with
        obs := { s.obs with brakes := s.obs.brakes.set b ((s.obs.brakes.get b).provenBy x), liftPending := false }
        dru := (setBrake b ((s.obs.brakes.get b).provenBy x) s).dru } : State).tsq.state ≠ .running := by simp [hdep]
    have hlift : brakesLifted ((setBrake b ((s.obs.brakes.get b).provenBy x) s).updObs
        (fun o => { o with liftPending := false })) = changeTrip .running none { s with
          obs := { s.obs with brakes := s.obs.brakes.set b ((s.obs.brakes.get b).provenBy x), liftPending := false }
          dru := (setBrake b ((s.obs.brakes.get b).provenBy x) s).dru } := by
      rw [brakesLifted, if_pos (by simpa [State.releasing] using hr)]
      conv_lhs => rw [hset]
      rfl
    have happly (t : State) (ht : t.obs.applyPending = false) : reportApplied t = t := by
      rw [reportApplied, if_neg (by simp [ht])]
    have hobs := changeTrip_obs none hrun
    have hbcu := changeTrip_bcu none hrun
    rw [hlift, happly _ (by rw [hobs]; rfl)]
    refine ⟨_, rfl, ?_, ?_, ?_, ?_, ?_, ?_, ?_, ?_, ?_, ?_, ?_⟩
    · simp [changeTrip_tsq none hrun, TripState.keepsDrive]
    · rw [hobs]
      simp [obsOnTrip, TripState.endsTravel, PerBrake.get_set, BrakeRecord.provenBy]
    · rw [hobs]
      rfl
    · simp
    · rw [hobs]
      rfl
    · simp
    · simp [changeTrip_rmu none hrun, TripState.endsTravel]
    · simp
    · rw [hbcu]
      rfl
    · rw [changeTrip_lpu_closed none hrun (by decide), hbcu]
      simp only [Bcu.onTrip, TripState.suspends, Bool.false_eq_true, if_false, batchChanged_self, eventIf_false]
      exact raising_lpu_congr _ rfl
    · simp [SameClocks]
  · rw [exec_brakeFeedbackChange h, feedback_agrees hagree, reportLifted_proven hl hall]
    have hset := setBrake_not_stopped (s := s) (by simp [hs]) b ((s.obs.brakes.get b).provenBy x)
    have hlift : brakesLifted ((setBrake b ((s.obs.brakes.get b).provenBy x) s).updObs
        (fun o => { o with liftPending := false })) = { s with
          tsq := { s.tsq with step := some .moving }
          obs := { s.obs with liftPending := false, brakes := s.obs.brakes.set b ((s.obs.brakes.get b).provenBy x) }
          dru := (setBrake b ((s.obs.brakes.get b).provenBy x) s).dru } := by
      rw [brakesLifted, if_neg (by simp [State.releasing, hs]), if_pos (by simp [hs, hstep])]
      conv_lhs => rw [hset]
      rfl
    have hsbk : ((s.obs.brakes.set b ((s.obs.brakes.get b).provenBy x)).get .sbk).command = .lifted := by
      rw [PerBrake.get_set]
      split
      · exact hc
      · exact (hall .sbk).1
    rw [hlift, reportApplied, if_neg (by simp [State.provenAs, hsbk])]
    refine ⟨_, rfl, ?_, rfl⟩
    have ht := setBrake_tested (b := b) (r := (s.obs.brakes.get b).provenBy x) (s := s) rfl
    split
    next hb =>
      rw [if_pos (by exact hb)] at ht
      refine ht.congr rfl rfl (fun c side => ?_)
      rw [mayRelease_not_stopped (by simp [hs]), mayRelease_not_stopped (by simp [hs])]
    next hb =>
      rw [if_neg (by exact hb)] at ht
      exact ht
  · rw [exec_brakeFeedbackChange h, feedback, if_neg (by rw [feedbackAgrees_eq, hagree]; decide), if_neg (by simp [hp])]
    exact congrArg _ (setBrake_same rfl rfl)
  · rw [exec_brakeFeedbackChange h, feedback, if_neg (by rw [feedbackAgrees_eq, hagree]; decide), if_pos hp]
    exact ⟨_, rfl, brakeFaulted b _ s⟩

end Sys2Proof.Machine
end

section
/-! The links that fall silent: the console, the gates and the cars (R118, R123, R184, R186). -/

namespace Sys2Proof.Machine

/-! ### The console and the gates (R123, R186) -/

theorem exec_consoleTimeout (s : State) : exec .consoleTimeout s =
    .next (if s.tsq.consoleTimer.isSome then consoleSilence s else s) := rfl

theorem exec_gateLinkTimeout (st : Station) (s : State) : exec (.gateLinkTimeout st) s =
    .next (if (s.lpu.gateLinks.get st).timer.isSome then gateSilence st s else s) := rfl

/-- The console silent, before what that does to a departure (R123). -/
def State.consoleDown (s : State) : State :=
  ({ s with tsq := { s.tsq with silent := true, consoleTimer := none } } : State).raisingLink .p0 .linkDown

theorem consoleSilence_eq (s : State) : consoleSilence s =
    if s.earlyDeparture then changeTrip .outOfService none s.consoleDown else s.consoleDown := by
  simp only [consoleSilence, raiseLink_eq]
  rfl

theorem earlyDeparture_iff (s : State) : s.earlyDeparture = true ↔
    s.tsq.state = .departing ∧ s.tsq.step ≠ some .brakeRelease := by
  simp [State.earlyDeparture]

/-- Settles O26: the console and the gate links that time out. -/
theorem consoleAndGateTimeouts : Obligations.ConsoleAndGateTimeouts := by
  refine ⟨fun s => ⟨fun h => ?_, fun h he => ?_, fun h he => ?_⟩, fun st s => ⟨fun h => ?_, fun h => ?_⟩⟩
  · rw [exec_consoleTimeout, if_neg (by simp [h])]
  · rw [exec_consoleTimeout, if_pos h, consoleSilence_eq, if_neg (by simp [he])]
    rfl
  · have hdep : s.consoleDown.tsq.state ≠ .outOfService := by
      have hs : s.consoleDown.tsq.state = .departing := ((earlyDeparture_iff s).mp he).1
      simp [hs]
    rw [exec_consoleTimeout, if_pos h, consoleSilence_eq, if_pos he]
    refine ⟨_, rfl, ?_, ?_, ?_, ?_, ?_, fun st => ?_, ?_, ?_, ?_, ?_⟩
    · simp
    · simp [changeTrip_tsq none hdep]
    · simp [State.consoleDown]
    · simp [State.consoleDown]
    · rw [changeTrip_srg_at_rest none hdep rfl (by decide)]
      rfl
    · rw [changeTrip_bcu none hdep]
      cases st <;> rfl
    · simp [State.consoleDown]
    · simp [State.consoleDown]
    · simp [State.consoleDown]
    · simp [SameClocks, State.consoleDown]
  · rw [exec_gateLinkTimeout, if_neg (by simp [h])]
  · rw [exec_gateLinkTimeout, if_pos h, gateSilence, raiseLink_eq]
    rfl

/-! ### The cars (R118, R184) -/

/-- A car link down, its car's records dropped (R39, R139, R184). -/
def State.carDown (c : Car) (s : State) : State := { s with
  cpt := { s.cpt with cars := s.cpt.cars.set c { s.cpt.cars.get c with lastOdo := none } }
  bcu := { s.bcu with loads := s.bcu.loads.set c { s.bcu.loads.get c with snap := none } }
  lpu := { (s.raisingLink c.port .linkDown).lpu with carLinks := s.lpu.carLinks.set c ⟨false, none⟩ } }

/-- A car link down, the records not yet dropped (R184). -/
def State.linkDown (c : Car) (s : State) : State :=
  { s with lpu := { (s.raisingLink c.port .linkDown).lpu with carLinks := s.lpu.carLinks.set c ⟨false, none⟩ } }

theorem linkLossTrips_eq (s : State) : s.linkLossTrips = s.moving := rfl

theorem carSilence_eq (c : Car) (s : State) : carSilence c s =
    let t := testDoors (dropCarData c
      (if s.moving then giveCause (linkLostKind c) (.port c.port) (s.linkDown c) else s.linkDown c))
    if t.earlyDeparture then abandonForLink t else t := by
  have hl : raiseLink .linkDown c.port
      (s.updLpu (fun l => { l with carLinks := l.carLinks.set c { up := false, timer := none } })) = s.linkDown c := by
    rw [raiseLink_eq]
    rfl
  rw [carSilence, hl]
  rfl

theorem exec_carLinkTimeout (c : Car) (s : State) : exec (.carLinkTimeout c) s =
    .next (if (s.lpu.carLinks.get c).timer.isSome then carSilence c s else s) := rfl

theorem carSilence_standing {c : Car} {s : State} (hm : s.moving = false) : carSilence c s =
    if (testDoors (s.carDown c)).earlyDeparture then abandonForLink (testDoors (s.carDown c))
    else testDoors (s.carDown c) := by
  rw [carSilence_eq]
  simp only [hm, Bool.false_eq_true, if_false]
  rfl

/-- Out of STOPPED a line that obeys the door law has no RELEASED side (R126). -/
theorem orderClose_of_doorLaw {s : State} (h : doorLaw s) (hs : s.tsq.state ≠ .stopped) :
    s.dru.mapCar (fun _ v => v.map orderClose) = s.dru := by
  have hside (c : Car) (side : Side) : orderClose ((s.dru.get c).get side) = (s.dru.get c).get side := by
    unfold orderClose
    split
    next hr =>
      have hm := h c side hr
      rw [mayRelease_not_stopped hs] at hm
      cases hm
    next => rfl
  have ha := hside .a .left
  have hb := hside .a .right
  have hc := hside .b .left
  have hd := hside .b .right
  simp only [PerCar.get, PerSide.get] at ha hb hc hd
  simp [PerCar.mapCar, PerSide.map, ha, hb, hc, hd]

theorem testDoors_lawful {s : State} (h : doorLaw s) (hs : s.tsq.state ≠ .stopped) : testDoors s = s := by
  rw [testDoors_not_stopped hs, State.updDru, orderClose_of_doorLaw h hs]

theorem doorLaw_carDown {c : Car} {s : State} (h : doorLaw s) (hs : s.tsq.state ≠ .stopped) : doorLaw (s.carDown c) := by
  intro x side hr
  have hm := h x side hr
  rw [mayRelease_not_stopped hs] at hm
  cases hm

/-- Settles O28: a car link that falls silent. -/
theorem carLinkLossTripsMovingLine : Obligations.CarLinkLossTripsMovingLine := by
  intro c s
  refine ⟨fun h => ?_, fun h hm he => ?_, fun h hm hcom hc => ?_, fun h he hlaw => ?_⟩
  · rw [exec_carLinkTimeout, if_neg (by simp [h])]
  · have hearly : (testDoors (s.carDown c)).earlyDeparture = false := by simpa [State.earlyDeparture, State.carDown] using he
    rw [exec_carLinkTimeout, if_pos h, carSilence_standing hm, hearly]
    refine ⟨_, rfl, (testDoors_tested (s.carDown c)).congr rfl rfl (fun _ _ => rfl), ?_, ?_, ?_, ?_⟩
    · simp [State.carDown]
    · simp [State.carDown]
    · exact (testDoors_lpu (s.carDown c)).trans rfl
    · simp [State.carDown, SameClocks]
  · have htakes : (s.linkDown c).takesCause (linkLostKind c) = true := by
      have hn : (s.linkDown c).hasCause (linkLostKind c) = false := by
        simp [State.hasCause, State.linkDown, hc]
      rw [State.takesCause, hn]
      simpa [State.linkDown] using hcom
    have hsev : (linkLostKind c).severity = .service := by cases c <;> rfl
    have hjoin : CauseJoined (linkLostKind c) (.port c.port) s
        (giveCause (linkLostKind c) (.port c.port) (s.linkDown c)) :=
      giveCause_joined (s := s.linkDown c) (.port c.port) hcom (by simp [State.hasCause, State.linkDown, hc])
    obtain ⟨⟨hsbk, hreq, hv, hh⟩, -, -⟩ := giveCause_service (.port c.port) htakes hc hsev
    have hstate : (giveCause (linkLostKind c) (.port c.port) (s.linkDown c)).tsq.state = .tripped :=
      (giveCause_first _ htakes hc).1
    have hearly : (testDoors (dropCarData c (giveCause (linkLostKind c) (.port c.port) (s.linkDown c)))).earlyDeparture
        = false := by
      simp [State.earlyDeparture, dropCarData, hstate]
    have hcpt : (giveCause (linkLostKind c) (.port c.port) (s.linkDown c)).cpt = s.cpt :=
      (giveCause_envelope (.port c.port) (s.linkDown c) (by cases c <;> decide)).2.2.2.2.2.2.2.2
    have hlinks : (giveCause (linkLostKind c) (.port c.port) (s.linkDown c)).lpu.carLinks =
        s.lpu.carLinks.set c ⟨false, none⟩ := (sansEvents_eq (giveCause_ports (linkLostKind c) (.port c.port) (s.linkDown c))).1
    rw [exec_carLinkTimeout, if_pos h, carSilence_eq]
    simp only [hm, if_true, hearly, Bool.false_eq_true, if_false]
    refine ⟨_, rfl, ?_, ⟨?_, ?_, ?_, ?_⟩, ?_, ?_, ?_, ?_, ?_, ?_⟩
    · have hj : CauseJoined (linkLostKind c) (.port c.port) s
          (testDoors (dropCarData c (giveCause (linkLostKind c) (.port c.port) (s.linkDown c)))) := by
        simpa [CauseJoined, dropCarData] using hjoin
      exact hj
    · simpa [dropCarData] using hsbk
    · simpa [dropCarData] using hreq
    · simpa [dropCarData] using hv
    · simpa [dropCarData] using hh
    · simp [dropCarData, hcpt]
    · simp [dropCarData, hcpt]
    · simpa [dropCarData] using hlinks
    · simp [dropCarData, State.linkDown]
    · simp [dropCarData, State.linkDown]
    · simp [dropCarData, State.linkDown, SameClocks]
  · obtain ⟨hs, hstep⟩ := (earlyDeparture_iff s).mp he
    have hm : s.moving = false := by simp [State.moving, State.releasing, hs, hstep]
    have hdown : testDoors (s.carDown c) = s.carDown c :=
      testDoors_lawful (doorLaw_carDown hlaw (by simp [hs])) (by simp [State.carDown, hs])
    have hout : (s.carDown c).tsq.state ≠ .stranded := by simp [State.carDown, hs]
    rw [exec_carLinkTimeout, if_pos h, carSilence_standing hm, hdown, if_pos (by exact he)]
    refine ⟨_, rfl, fun k hk hr => ?_, fun hr => ?_⟩
    · have hab : abandonForLink (s.carDown c) = raise .departureFailed (abandonToOrigin (s.carDown c)) := by
        rw [abandonForLink, if_neg (by simp [State.carDown, hr])]
      rw [hab]
      exact (abandonToOrigin_opened (s := s.carDown c) (by simp [State.carDown, hs]) hk).raise .departureFailed
    · have hab : abandonForLink (s.carDown c) = raise .departureFailed (changeTrip .stranded none (s.carDown c)) := by
        rw [abandonForLink, if_pos (by exact hr)]
      rw [hab, raise_eq]
      refine ⟨?_, ?_, ?_, ?_, ?_, ?_, ?_, ?_, ?_, ?_, ?_, ?_, ?_⟩
      · rw [raising_tsq, changeTrip_tsq none hout]
        simp [TripState.keepsDrive, State.carDown]
      · simp [changeTrip_obs none hout, obsOnTrip, TripState.endsTravel]
      · simp [changeTrip_obs none hout, obsOnTrip, TripState.endsTravel]
      · simp [State.carDown]
      · simp [State.carDown]
      · rw [raising_srg, changeTrip_srg_at_rest none hout rfl (by decide)]
        rfl
      · rw [raising_srg, changeTrip_srg_at_rest none hout rfl (by decide)]
      · rw [raising_dru, changeTrip_dru_closed none hout (by decide)]
        exact orderClose_of_doorLaw (s := s) hlaw (by simp [hs])
      · rw [raising_bcu, changeTrip_bcu none hout]
        rfl
      · simp [State.carDown]
      · simp [State.carDown]
      · have hp := changeTrip_lpu_closed none hout (by decide)
        rw [changeTrip_bcu none hout] at hp
        have hl := raising_lpu_congr [.departureFailed] hp
        rw [raising_raising] at hl
        simp only [Bcu.onTrip, TripState.suspends, Bool.false_eq_true, if_false, batchChanged_self, eventIf_false] at hl
        exact hl
      · simp [SameClocks, State.carDown]

end Sys2Proof.Machine
end

section
/-! INSPECT_MOVE (R121). -/

namespace Sys2Proof.Machine

/-- A line out of service goes to INSPECTING, in step LIFTING (R100, R121). -/
theorem changeTrip_inspecting {s : State} (h : s.tsq.state = .outOfService) :
    changeTrip .inspecting (some .lifting) s = ({ s with
      tsq := { s.tsq with
        state := .inspecting, step := some .lifting, resume := false, phase := none, lastChange := s.clock,
        warningEnded := false, closureTimer := none }
      srg := { s.srg with vRef := 0, holding := 0, warning := none, warn := false }
      obs := { s.obs with liftPending := false, applyPending := false }
      dru := s.dru.mapCar (fun _ v => v.map orderClose) } : State).raising [.tripStateChanged] := by
  have hs : s.tsq.state ≠ .inspecting := by simp [h]
  have hdoors : testDoors (obsOnTrip .inspecting (recordTrip .inspecting (some .lifting) s)) =
      (obsOnTrip .inspecting (recordTrip .inspecting (some .lifting) s)).updDru
        (fun d => d.mapCar (fun _ v => v.map orderClose)) :=
    testDoors_not_stopped (by simp [recordTrip])
  have hrest (u : State) (hu : u.tsq.state = .inspecting) (hstep : u.tsq.step = some .lifting) :
      restReference u = u.updSrg Srg.zeroed := by
    rw [restReference, if_neg (by simp [State.computesReference, State.rampsDown, hu, hstep])]
  rw [changeTrip, if_neg hs, hdoors, bcuOnTrip, if_neg (by decide), srgOnTrip, hrest]
  · simp [rmuOnTrip, obsOnTrip, recordTrip, raise_eq, Srg.onTrip, Srg.zeroed, TripState.endsTravel, TripState.keepsDrive,
      h, State.updRmu, State.updSrg, State.updDru, State.updObs, State.updTsq]
    rfl
  · simp [recordTrip]
  · simp [recordTrip]

theorem closedTwice (d : PerCar (PerSide DoorRecord)) :
    (d.mapCar (fun _ v => v.map orderClose)).mapCar (fun _ v => v.map orderClose) =
      d.mapCar (fun _ v => v.map orderClose) := by
  simp [PerCar.mapCar, PerSide.map]

/-- The line INSPECTING in step LIFTING over a distance, its envelope in force (R121, R71, R72). -/
def State.moveBegun (u : State) (d : Direction) (dist : Int) (band : Fin 4) : State :=
  let ends (x : Int) : Option Int := if u.rmu.known then some (ahead d u.xs x) else none
  ({ u with
    tsq := { u.tsq with
      state := .inspecting, step := some .lifting, resume := false, phase := none, lastChange := u.clock,
      move := some ⟨d, dist, u.rmu.known, ends dist, 2000 * dist⟩, warningEnded := false, closureTimer := none }
    srg := { u.srg with
      vRef := 0, holding := 0, warning := none, warn := false, band := some band, fRef := 256, insp := true,
      ctlTarget := none, frozen := true }
    obs := { u.obs with
      envelope := true, fSup := 256, inspSup := true, aSup := some (u.lts.band band).aSup.toNat, direction := d,
      ctlStop := false, rollback := .running 0, endpoint := ends (dist + u.lts.overrunAllow), eFrom := none,
      rE2 := 2000 * (dist + u.lts.overrunAllow), liftPending := false, applyPending := false }
    dru := u.dru.mapCar (fun _ v => v.map orderClose) } : State).raising [.tripStateChanged]

/-- The move recorded over a distance (R121). -/
def State.moveOver (u : State) (d : Direction) (dist : Int) : Move :=
  { direction := d, distance := dist, startKnown := u.rmu.known,
    endpoint := if u.rmu.known then some (ahead d u.xs dist) else none, remaining := 2000 * dist }

/-- The envelope of a move formed and its band frozen, before its direction is handed to the SRG (R54, R71, R121). -/
theorem moveBegun_eq {u : State} (d : Direction) (dist : Int) (ho : u.tsq.state = .outOfService)
    (hm : u.tsq.mode = .inspection) :
    envelopeForMove d dist (freeze d (changeTrip .inspecting (some .lifting)
      (u.updTsq (fun t => { t with move := some (u.moveOver d dist) })))) =
    u.moveBegun d dist (u.lts.selectBand (u.imbalance d)) := by
  rw [changeTrip_inspecting (by simpa using ho)]
  simp [freeze, envelopeForMove, State.moveBegun, State.moveOver, Obs.inForce, modeFactor, hm, State.updSrg,
    State.updObs, State.updTsq, State.aSupOfBand]
  rfl

/-- A direction that DIR shows, or may take at once (R68). -/
theorem handDirection_possible {d : Direction} {s : State}
    (h : s.srg.dir = d ∨ (s.srg.active = 0 ∧ s.tsq.driveRequest = false)) :
    handDirection d s = directionShown { s with srg := { s.srg with dir := d, dirPending := none } } := by
  by_cases hd : s.srg.dir = d
  · rw [handDirection, if_pos hd]
    subst hd
    rfl
  · obtain ⟨ha, hq⟩ := h.resolve_left hd
    rw [handDirection, if_neg hd, if_pos (by simp [State.den, ha, hq])]
    rfl

/-- The direction shown in step LIFTING, EBK lifted already and every side ordered closed (R121, R92). -/
theorem directionShown_move {s : State} (hs : s.tsq.state = .inspecting) (hstep : s.tsq.step = some .lifting)
    (hc : s.obs.causes = []) (hcmd : s.obs.brakes.sbk.command = .applied) (hread : s.obs.brakes.sbk.reading = .dropped)
    (hebk : s.obs.brakes.ebk.command = .lifted) (hdru : s.dru.mapCar (fun _ v => v.map orderClose) = s.dru) :
    directionShown s = { s with
      tsq := { s.tsq with driveRequest := true }
      obs := { s.obs with
        liftPending := true
        brakes := { s.obs.brakes with sbk := { s.obs.brakes.sbk with
          command := .lifted, proof := .proving, timer := some ⟨0, s.lts.tLift.toNat⟩ } } } } := by
  have hsbk : liftedBrake s s.obs.brakes.sbk = { s.obs.brakes.sbk with
      command := .lifted, proof := .proving, timer := some ⟨0, s.lts.tLift.toNat⟩ } := by
    simp [liftedBrake, hcmd, hread]
  have hlift : liftedBrake s s.obs.brakes.ebk = s.obs.brakes.ebk := by simp [liftedBrake, hebk]
  rw [directionShown_lifts (.inr ⟨hs, hstep⟩) hc hcmd hread, hsbk, hlift, hdru]

/-- A move whose direction DIR shows, or can show at once (R121, R68, R92). -/
theorem startMove_lifts {u : State} {d : Direction} {dist : Int} (ho : u.tsq.state = .outOfService)
    (hm : u.tsq.mode = .inspection) (hdir : u.srg.dir = d ∨ (u.srg.active = 0 ∧ u.tsq.driveRequest = false))
    (hc : u.obs.causes = []) (hcmd : u.obs.brakes.sbk.command = .applied) (hread : u.obs.brakes.sbk.reading = .dropped)
    (hebk : u.obs.brakes.ebk.command = .lifted) :
    let begun := u.moveBegun d dist (u.lts.selectBand (u.imbalance d))
    startMove d dist u = { begun with
      tsq := { begun.tsq with driveRequest := true }
      srg := { begun.srg with dir := d, dirPending := none }
      obs := { begun.obs with
        liftPending := true
        brakes := { u.obs.brakes with sbk := { u.obs.brakes.sbk with
          command := .lifted, proof := .proving, timer := some ⟨0, u.lts.tLift.toNat⟩ } } } } := by
  intro begun
  have hstart : startMove d dist u = handDirection d begun := congrArg (handDirection d) (moveBegun_eq d dist ho hm)
  rw [hstart, handDirection_possible (s := begun) hdir]
  exact directionShown_move rfl rfl hc hcmd hread hebk (closedTwice u.dru)

/-- A move whose direction waits (R121, R68). -/
theorem startMove_waits {u : State} {d : Direction} {dist : Int} (ho : u.tsq.state = .outOfService)
    (hm : u.tsq.mode = .inspection) (hdir : u.srg.dir ≠ d) (ha : u.srg.active ≠ 0) :
    let begun := u.moveBegun d dist (u.lts.selectBand (u.imbalance d))
    startMove d dist u = { begun with srg := { begun.srg with dirPending := some d } } := by
  intro begun
  have hstart : startMove d dist u = handDirection d begun := congrArg (handDirection d) (moveBegun_eq d dist ho hm)
  rw [hstart, handDirection, if_neg (show ¬ begun.srg.dir = d from hdir),
    if_neg (fun h => ha h.1)]
  rfl

/-- What INSPECT_MOVE refuses (R121). -/
theorem takeInspectMove_eq {direction : Byte} {d : Direction} (hd : Direction.ofCode direction = some d) (length : Long)
    (u : State) :
    takeInspectMove direction length u =
      if (length.toNat : Int) < 1 ∨ 50000 < (length.toNat : Int) then (.badArgument, u)
      else if u.tsq.state ≠ .outOfService then (.refusedState, u)
      else if u.tsq.mode ≠ .inspection then (.notClear condMode, u)
      else (.ok, startMove d length.toNat u) := by
  rw [takeInspectMove, hd]
  rfl

/-- Settles O46: INSPECT_MOVE's refusals, and the move begun with the lift or with its direction pending. -/
theorem inspectMoveBegins : Obligations.InspectMoveBegins := by
  intro direction d length s hd u dist refusal imbalance band ends
  have row : exec (.inspectMove .p0 direction length) s = .next
      ((takeInspectMove direction length u).2.answered .p0 15 (takeInspectMove direction length u).1.encode) :=
    exec_plain (c := .inspectMove .p0 direction length) (r := .inspectMove direction length)
      (x := takeInspectMove direction length u) rfl rfl (decide_eq_true (direction_le hd)) rfl
  rw [takeInspectMove_eq hd] at row
  have hband : u.lts.selectBand (u.imbalance d) = band := congrArg u.lts.selectBand (imbalance_eq u d)
  have taken (h : refusal = []) : u.tsq.state = .outOfService ∧ u.tsq.mode = .inspection ∧
      exec (.inspectMove .p0 direction length) s = .next ((startMove d dist u).answered .p0 15 [0]) := by
    by_cases h1 : dist < 1 ∨ 50000 < dist
    · simp [refusal, h1] at h
    by_cases h2 : u.tsq.state = .outOfService
    · by_cases h3 : u.tsq.mode = .inspection
      · rw [if_neg h1, if_neg (not_not.mpr h2), if_neg (not_not.mpr h3)] at row
        exact ⟨h2, h3, row⟩
      · simp [refusal, h1, h2, h3] at h
    · simp [refusal, h1, h2] at h
  refine ⟨fun h => ?_, fun h hdir hc hcmd hread hebk => ?_, fun h hdir ha => ?_⟩
  · rw [row]
    by_cases h1 : dist < 1 ∨ 50000 < dist
    · rw [if_pos h1]
      simp [refusal, h1, Status.encode, enc1]
    rw [if_neg h1]
    by_cases h2 : u.tsq.state = .outOfService
    · by_cases h3 : u.tsq.mode = .inspection
      · simp [refusal, h1, h2, h3] at h
      · rw [if_neg (not_not.mpr h2), if_pos h3]
        simp [refusal, h1, h2, h3, Status.encode, enc1, condMode]
    · rw [if_pos h2]
      simp [refusal, h1, h2, Status.encode, enc1]
  · obtain ⟨ho, hm, hrow⟩ := taken h
    rw [hrow, startMove_lifts ho hm hdir hc hcmd hread hebk, hband]
    rfl
  · obtain ⟨ho, hm, hrow⟩ := taken h
    rw [hrow, startMove_waits ho hm hdir ha, hband]
    rfl

end Sys2Proof.Machine
end

section
/-! ACKNOWLEDGE (R96, R97). -/

namespace Sys2Proof.Machine

/-- The causes cleared, the stop latch and the rail brake order clear, EBK commanded LIFTED (R97). -/
def State.cleared (s : State) : State :=
  ({ s with obs := { s.obs with
    causes := [], stopLatch := false, railBrake := false,
    brakes := { s.obs.brakes with ebk := liftedBrake s s.obs.brakes.ebk } } } : State).raising [.causesCleared]

theorem clearCauses_eq (s : State) :
    clearCauses s = (leaveTripped s.cleared).updObs (fun o => { o with trippedFrom := none }) := by
  rw [clearCauses, liftBrake_ebk, raise_eq]
  rfl

theorem liftedBrake_command (s : State) (b : BrakeRecord) : (liftedBrake s b).command = .lifted := by
  unfold liftedBrake
  split
  · assumption
  · split <;> rfl

/-- The events of leaving TRIPPED (R100, R112, R132, R153). -/
def leaveEvents (s t : State) : List EventKind :=
  .tripStateChanged :: (eventIf (someReleased s t) .doorsReleased ++
    eventIf (decide (t.tsq.halts ≠ s.tsq.halts)) .haltRequestServed ++
    eventIf (batchChanged s.bcu.batches t.bcu.batches) .batchStateChanged)

/-- From s to t the line has left TRIPPED for a state at rest (R97, R100). -/
structure LeftTripped (s t : State) : Prop where
  request : t.tsq.driveRequest = false
  since : t.tsq.lastChange = s.clock
  obs : t.obs = { s.obs with
    envelope := false, vPerm2 := none, endpoint := none, eFrom := none, ctlStop := false, excursion := false,
    rollback := .standing 0, liftPending := false, applyPending := false }
  reference : t.srg.vRef = 0 ∧ t.srg.ctlTarget = none
  rmu : t.rmu = { s.rmu with slipActive := false }
  rest : t.lts = s.lts ∧ t.cpt = s.cpt ∧ SameClocks s t ∧ t.bcu.loads = s.bcu.loads
  doors : DoorsTested s t
  ports : t.lpu = (s.raising (leaveEvents s t)).lpu

/-- Leaving TRIPPED for OUT_OF_SERVICE or STRANDED (R97). -/
theorem LeftTripped.of_trip {new : TripState} {s : State} (hs : s.tsq.state = .tripped) (hn : new ≠ .stopped)
    (he : new.endsTravel = true) : LeftTripped s (changeTrip new none s) := by
  have hne : s.tsq.state ≠ new := by
    rintro rfl
    rw [hs] at he
    cases he
  have hkeep : new.keepsDrive = false ∧ new.moves = false ∧ new ≠ .tripped ∧ new ≠ .inspecting := by
    cases new <;> simp_all [TripState.endsTravel, TripState.keepsDrive, TripState.moves]
  obtain ⟨hdrive, hmoves, ht, hi⟩ := hkeep
  have hsrg := changeTrip_srg_at_rest none hne hmoves ht
  constructor
  · simp [changeTrip_tsq none hne, hdrive]
  · simp [changeTrip_tsq none hne]
  · simp [changeTrip_obs none hne, obsOnTrip, he]
  · simp [hsrg, Srg.onTrip, hs]
  · simp [changeTrip_rmu none hne, he]
  · refine ⟨by simp, by simp, by simp [SameClocks], ?_⟩
    rw [changeTrip_bcu none hne, Bcu.onTrip]
    split <;> rfl
  · exact changeTrip_doorsTested none hne
  · rw [changeTrip_lpu none hne, tripEvents, leaveEvents]
    simp

/-- Leaving TRIPPED for STOPPED at the stop where the line stands (R97, R145). -/
theorem LeftTripped.of_stop {k : Nat} {s : State} (hs : s.tsq.state = .tripped) :
    LeftTripped s (openBatches (stopAt k s)) := by
  have hne : s.tsq.state ≠ .stopped := by simp [hs]
  have hbcu : (stopAt k s).bcu = s.bcu := by
    simp only [stopAt, serveHalt_eq, raising_bcu, updTsq_bcu]
    exact changeTrip_bcu (s := s.updTsq (fun t => { t with target := some k })) none hne
  obtain ⟨htsq, hobs, hrmu, hsrg, hdoors, hlts, hcpt, hclocks⟩ := stopAt_cameToStop k hne
  have hserved : decide ((stopAt k s).tsq.halts ≠ s.tsq.halts) = s.listed k := by
    rw [htsq, State.listed]
    rw [Bool.eq_iff_iff]
    simp [List.filter_eq_self]
  rw [openBatches_eq]
  constructor
  · simp [htsq]
  · simp [htsq]
  · simp [hobs]
  · simp [hsrg, hs]
  · simp [hrmu]
  · refine ⟨by simp, by simp, hclocks, ?_⟩
    simp [hbcu]
  · refine hdoors.congr rfl rfl (mayRelease_congr rfl rfl rfl rfl rfl rfl)
  · rw [leaveEvents]
    simp only [raising_tsq, raising_bcu, hserved, hbcu]
    have hd : someReleased s (({ stopAt k s with bcu := { s.bcu with batches := openedBatches s.bcu.batches } } : State).raising
        (eventIf (batchChanged s.bcu.batches (openedBatches s.bcu.batches)) .batchStateChanged)) =
        someReleased s (stopAt k s) := someReleased_congr rfl rfl
    rw [hd]
    have hp := raising_lpu_congr (eventIf (batchChanged s.bcu.batches (openedBatches s.bcu.batches)) .batchStateChanged)
      (stopAt_lpu k hne)
    rw [raising_raising, stopEvents] at hp
    exact hp

theorem leaveTripped_left {s : State} (hs : s.tsq.state = .tripped) : LeftTripped s (leaveTripped s) := by
  unfold leaveTripped
  split
  · exact .of_trip hs (by decide) rfl
  · split
    · exact .of_stop hs
    · exact .of_trip hs (by decide) rfl

/-- The state that an ACKNOWLEDGE taken leads to (R97). -/
theorem leaveTripped_to {u : State} (hs : u.tsq.state = .tripped) :
    let t := leaveTripped u.cleared
    if u.obs.trippedFrom = some .outOfService ∨ u.obs.trippedFrom = some .inspecting then
      t.tsq.state = .outOfService ∧ t.tsq.target = u.tsq.target ∧ t.tsq.halts = u.tsq.halts
    else match u.standingStop with
      | some k => t.tsq.state = .stopped ∧ t.tsq.target = some k ∧
          t.tsq.halts = u.tsq.halts.filter (fun e => decide (e.stopIndex ≠ k)) ∧
          t.bcu = { u.bcu with batches := openedBatches u.bcu.batches }
      | none => t.tsq.state = .stranded ∧ t.tsq.target = u.tsq.target ∧ t.bcu = u.bcu := by
  intro t
  have hstate (new : TripState) (hn : new ≠ .tripped) : u.cleared.tsq.state ≠ new := by
    rw [show u.cleared.tsq.state = .tripped from hs]
    exact hn.symm
  have ht : t = if u.obs.trippedFrom = some .outOfService ∨ u.obs.trippedFrom = some .inspecting then
        changeTrip .outOfService none u.cleared
      else match u.standingStop with
        | some k => openBatches (stopAt k u.cleared)
        | none => changeTrip .stranded none u.cleared := rfl
  split
  next h =>
    rw [ht, if_pos h]
    exact ⟨by simp, by simp [State.cleared], by simp [State.cleared]⟩
  next h =>
    rw [ht, if_neg h]
    cases u.standingStop with
    | some k =>
      obtain ⟨htsq, -⟩ := stopAt_cameToStop k (hstate .stopped (by decide))
      have hbcu : (stopAt k u.cleared).bcu = u.bcu := by
        simp only [stopAt, serveHalt_eq, raising_bcu, updTsq_bcu]
        exact changeTrip_bcu (s := u.cleared.updTsq (fun t => { t with target := some k })) none
          (hstate .stopped (by decide))
      dsimp only
      rw [openBatches_eq, raising_tsq, raising_bcu, hbcu]
      dsimp only
      rw [htsq]
      exact ⟨rfl, rfl, rfl, rfl⟩
    | none => exact ⟨by simp, by simp [State.cleared], changeTrip_bcu none (hstate .stranded (by decide))⟩

/-! ### The conditions (R96) and the result -/

/-- The conditions of Table 5-3 in their order. -/
theorem ackConditions_first (u : State) : firstCondition u.ackConditions = (acknowledgeBlock u).map BitVec.toNat := by
  have hopen (v : PerSide DoorRecord) :
      anyUnlocked v = decide ((v.get .left).locked ≠ some true ∨ (v.get .right).locked ≠ some true) := by
    rw [Bool.decide_or]
    rfl
  have hstuck (b : BrakeRecord) : appliedButLifted b = decide (b.command = .applied ∧ b.reading = .lifted) := by
    simp [appliedButLifted, Bool.decide_and]
  simp only [State.ackConditions, firstCondition_cons, firstCondition_nil, State.carLinkUp,
    show anyUnlocked u.dru.a = _ from hopen (u.dru.get .a), show anyUnlocked u.dru.b = _ from hopen (u.dru.get .b), hstuck,
    Bool.not_eq_true']
  dsimp only [acknowledgeBlock]
  simp only [apply_ite (Option.map BitVec.toNat), Option.map_some, Option.map_none]
  rfl

/-- What is raised in all by an ACKNOWLEDGE taken (R97). -/
theorem cleared_raising_leaveEvents (u t : State) : u.cleared.raising (leaveEvents u.cleared t) = State.raising
    { u with obs := u.cleared.obs } (.causesCleared :: leaveEvents u t) := by
  have he : leaveEvents u.cleared t = leaveEvents u t := by
    rw [leaveEvents, leaveEvents, someReleased_congr (s := u) (s' := u.cleared) rfl rfl]
    rfl
  rw [he, State.cleared, raising_raising]
  rfl

/-- An ACKNOWLEDGE taken (R97). -/
theorem clearCauses_acknowledged {u : State} (h : u.tsq.state = .tripped) :
    let t := clearCauses u
    t.obs.causes = [] ∧ t.obs.stopLatch = false ∧ t.obs.railBrake = false ∧ t.obs.trippedFrom = none ∧
    t.obs.brakes.ebk.command = .lifted ∧ t.obs.brakes.sbk = u.obs.brakes.sbk ∧
    t.tsq.driveRequest = false ∧ t.tsq.lastChange = u.clock ∧ t.srg.vRef = 0 ∧ t.srg.ctlTarget = none ∧
    t.obs.envelope = false ∧ t.lts = u.lts ∧ t.cpt = u.cpt ∧ SameClocks u t ∧
    t.rmu = { u.rmu with slipActive := false } ∧ t.bcu.loads = u.bcu.loads ∧ DoorsTested u t ∧
    t.lpu = (u.raising (.causesCleared :: leaveEvents u t)).lpu ∧
    (if u.obs.trippedFrom = some .outOfService ∨ u.obs.trippedFrom = some .inspecting then
      t.tsq.state = .outOfService ∧ t.tsq.target = u.tsq.target ∧ t.tsq.halts = u.tsq.halts
    else match u.standingStop with
      | some k => t.tsq.state = .stopped ∧ t.tsq.target = some k ∧
          t.tsq.halts = u.tsq.halts.filter (fun e => decide (e.stopIndex ≠ k)) ∧
          t.bcu = { u.bcu with batches := openedBatches u.bcu.batches }
      | none => t.tsq.state = .stranded ∧ t.tsq.target = u.tsq.target ∧ t.bcu = u.bcu) := by
  have hl := leaveTripped_left (s := u.cleared) h
  obtain ⟨hreq, hsince, hobs, href, hrmu, ⟨hlts, hcpt, hclocks, hloads⟩, hdoors, hports⟩ := hl
  rw [clearCauses_eq]
  refine ⟨?_, ?_, ?_, rfl, ?_, ?_, hreq, hsince, href.1, href.2, ?_, hlts, hcpt, hclocks, hrmu, hloads,
    hdoors.congr rfl rfl (mayRelease_congr rfl rfl rfl rfl rfl rfl), ?_, ?_⟩
  · exact congrArg Obs.causes hobs
  · exact congrArg Obs.stopLatch hobs
  · exact congrArg Obs.railBrake hobs
  · exact (congrArg (fun o : Obs => o.brakes.ebk.command) hobs).trans (liftedBrake_command u u.obs.brakes.ebk)
  · exact (congrArg (fun o : Obs => o.brakes.sbk) hobs).trans rfl
  · exact congrArg Obs.envelope hobs
  · rw [cleared_raising_leaveEvents] at hports
    exact hports.trans (raising_lpu_congr _ rfl)
  · exact leaveTripped_to h

/-- Settles O39: the conditions of ACKNOWLEDGE in their order, and what it clears when they hold. -/
theorem acknowledgeClears : Obligations.AcknowledgeClears := by
  intro s u
  have row : exec (.acknowledge .p0) s = .next
      ((takeAcknowledge u).2.answered .p0 8 (takeAcknowledge u).1.encode) :=
    exec_plain (c := .acknowledge .p0) (r := .acknowledge) (x := takeAcknowledge u) rfl rfl rfl rfl
  rw [row, takeAcknowledge, ackConditions_first]
  refine ⟨fun h => ?_, fun h c hc => ?_, fun h hn => ?_⟩
  · rw [if_pos h]
    rfl
  · rw [Option.mem_def] at hc
    rw [if_neg (not_not.mpr h), hc]
    simp only [Option.map_some]
    rw [encode_notClear c]
  · rw [if_neg (not_not.mpr h), hn]
    exact ⟨clearCauses u, rfl, clearCauses_acknowledged h⟩

end Sys2Proof.Machine
end

section
/-! A sample at which no cause is given (R57 to R66): every conditional cause of the sample then changes nothing, so that
the reference and the trip are read off the SRG's and the TSQ's own steps. -/

namespace Sys2Proof.Machine

/-! ### The integer square root -/

/-- Bit by bit the result stays the root rounded down, with what the bits left can still add. -/
theorem isqrtBits_spec (n : Nat) (k acc : Nat) (hlo : acc ^ 2 ≤ n) (hhi : n < (acc + 2 ^ k) ^ 2) :
    isqrtBits n k acc ^ 2 ≤ n ∧ n < (isqrtBits n k acc + 1) ^ 2 := by
  induction k generalizing acc with
  | zero => exact ⟨hlo, by simpa [isqrtBits] using hhi⟩
  | succ k ih =>
    simp only [isqrtBits]
    split
    next h =>
      refine ih _ (by rw [sq]; exact h) ?_
      rw [pow_succ] at hhi
      rwa [show acc + 2 ^ k + 2 ^ k = acc + 2 ^ k * 2 by ring]
    next h => exact ih _ hlo (by rw [sq]; omega)

theorem isqrt_spec (n : Nat) : isqrt n ^ 2 ≤ n ∧ n < (isqrt n + 1) ^ 2 := by
  refine isqrtBits_spec n _ 0 (by simp) ?_
  rw [Nat.zero_add, ← pow_mul]
  calc n < 2 ^ (Nat.log2 n + 1) := Nat.lt_log2_self
    _ ≤ 2 ^ ((Nat.log2 n / 2 + 1) * 2) := Nat.pow_le_pow_right (by decide) (by omega)

/-! ### Quiet samples -/

/-- A cause that leaves the list changes nothing (R83). -/
theorem giveCause_quiet {k : CauseKind} {src : CauseSource} {s : State}
    (h : (giveCause k src s).obs.causes = s.obs.causes) : giveCause k src s = s := by
  refine giveCause_not src (Bool.eq_false_iff.mpr fun ht => ?_)
  rw [giveCause_causes, if_pos ht] at h
  simp at h

theorem causeIf_quiet {cond : Bool} {k : CauseKind} {s : State} (h : (causeIf cond k s).obs.causes = s.obs.causes) :
    causeIf cond k s = s := by
  unfold causeIf at h ⊢
  split
  next hc =>
    rw [if_pos hc] at h
    exact giveCause_quiet h
  next => rfl

/-- A list between a list and itself in the order of prefixes is that list. -/
theorem prefix_between {α : Type} {l m : List α} (h : l <+: m) (h' : m <+: l) : m = l :=
  (h.eq_of_length (Nat.le_antisymm h.length_le h'.length_le)).symm

/-- The RMU at a sample that gives no cause leaves the other blocks. -/
theorem rmuSample_quiet {s : State} (h : (rmuSample s).obs.causes = s.obs.causes) :
    (rmuSample s).tsq = s.tsq ∧ (rmuSample s).srg = s.srg ∧ (rmuSample s).obs = s.obs ∧ (rmuSample s).cpt = s.cpt ∧
      (rmuSample s).bcu = s.bcu ∧ (rmuSample s).dru = s.dru := by
  have h1 := testDisagreement_prefix (s.updRmu (Rmu.sample s.lts))
  have h2 : (testDisagreement (s.updRmu (Rmu.sample s.lts))).obs.causes <+: (rmuSample s).obs.causes := causeIf_prefix _ _ _
  have hd : (testDisagreement (s.updRmu (Rmu.sample s.lts))).obs.causes = s.obs.causes :=
    prefix_between h1 (h ▸ h2)
  have hr : rmuSample s = testDisagreement (s.updRmu (Rmu.sample s.lts)) := by
    refine causeIf_quiet ?_
    rw [hd]
    exact h
  rw [hr]
  unfold testDisagreement at hd ⊢
  split
  next i j hi hj =>
    split
    next hc =>
      simp only [hi, hj, hc, if_true] at hd
      unfold recordDisagreement at hd ⊢
      rw [giveCause_quiet hd]
      exact ⟨rfl, rfl, rfl, rfl, rfl, rfl⟩
    next => exact ⟨rfl, rfl, rfl, rfl, rfl, rfl⟩
  next => exact ⟨rfl, rfl, rfl, rfl, rfl, rfl⟩

/-- The OBS's state at a sample when its standstill is counted: its causes are given (R81). -/
def counted (s : State) : State :=
  countStandstill (causeIf (supervised s).overran .overrun (beforeOverrun (supervised s)))

theorem sampleEnd_eq (s : State) : sampleEnd s = testDoors (tsqSample (followTarget (latchStop (counted s)))) := rfl

/-- From w to c the OBS has tested and counted a sample, and nothing else has changed that the trip reads. -/
structure CountedFrom (w c : State) : Prop where
  tsq          : c.tsq = w.tsq
  srg          : c.srg = w.srg
  cpt          : c.cpt = w.cpt
  lts          : c.lts = w.lts
  causes       : c.obs.causes = w.obs.causes
  brakes       : c.obs.brakes = w.obs.brakes
  stopLatch    : c.obs.stopLatch = w.obs.stopLatch
  trippedFrom  : c.obs.trippedFrom = w.obs.trippedFrom
  vPerm2       : c.obs.vPerm2 = w.obs.vPerm2
  applyPending : c.obs.applyPending = w.obs.applyPending

theorem CountedFrom.trans {u v w : State} (h : CountedFrom u v) (h' : CountedFrom v w) : CountedFrom u w :=
  ⟨h'.1.trans h.1, h'.2.trans h.2, h'.3.trans h.3, h'.4.trans h.4, h'.5.trans h.5, h'.6.trans h.6, h'.7.trans h.7,
    h'.8.trans h.8, h'.9.trans h.9, h'.10.trans h.10⟩

theorem CountedFrom.of_eq {u v : State} (h : v = u) : CountedFrom u v := by
  subst h
  exact ⟨rfl, rfl, rfl, rfl, rfl, rfl, rfl, rfl, rfl, rfl⟩

/-- The levels at a sample that gives no cause change the excursion mark at most (R75). -/
theorem testLevels_quiet {s : State} (h : (testLevels s).obs.causes = s.obs.causes) : CountedFrom s (testLevels s) := by
  unfold testLevels at h ⊢
  split
  next p he hp =>
    simp only [he, hp] at h
    dsimp only
    have hx := excursionMark_causes (levelExceeded s.speed p s.lts.margin1) s
    have h1 := causeIf_prefix (levelExceeded s.speed p s.lts.margin2 || levelExceeded s.speed p s.lts.margin3) .overspeed
      (excursionMark (levelExceeded s.speed p s.lts.margin1) s)
    have h2 := causeIf_prefix (levelExceeded s.speed p s.lts.margin3) .overspeedSevere
      (causeIf (levelExceeded s.speed p s.lts.margin2 || levelExceeded s.speed p s.lts.margin3) .overspeed
        (excursionMark (levelExceeded s.speed p s.lts.margin1) s))
    rw [h, ← hx] at h2
    have h1' := prefix_between h1 h2
    rw [causeIf_quiet (k := .overspeedSevere) (by rw [h, h1', hx]), causeIf_quiet h1']
    constructor <;> simp [excursionMark_travel]
  next => exact .of_eq rfl

/-- The state of the OBS after its line check at a sample (R77). -/
def lineChecked (s : State) : State := causeIf s.absoluteExceeded .overspeedSevere (testLevels s)

/-- The rollback check at a sample that gives no cause changes the measure alone (R78, R79). -/
theorem testRollback_quiet {s : State} (h : (testRollback s).obs.causes = s.obs.causes) : CountedFrom s (testRollback s) := by
  unfold testRollback at h ⊢
  dsimp only at h ⊢
  rw [causeIf_quiet h]
  exact ⟨rfl, rfl, rfl, rfl, rfl, rfl, rfl, rfl, rfl, rfl⟩

/-- A sample keeps the causes listed, in their order (R83). -/
theorem sampleEnd_prefix (s : State) : s.obs.causes <+: (sampleEnd s).obs.causes := by
  have p1 : s.obs.causes <+: (rmuSample (tick s)).obs.causes := rmuSample_prefix (tick s)
  have hw : (supervised s).obs.causes = (rmuSample (tick s)).obs.causes := by simp [supervised]
  rw [← hw] at p1
  rw [sampleEnd_causes]
  exact (((p1.trans (testLevels_prefix _)).trans (causeIf_prefix _ _ _)).trans (testRollback_prefix _)).trans
    (causeIf_prefix _ _ _)

/-- A sample that gives no cause: the RMU and the OBS leave the trip alone up to the standstill count. -/
theorem sampled_quiet {s : State} (h : (sampleEnd s).obs.causes = s.obs.causes) :
    (rmuSample (tick s)).obs.causes = (tick s).obs.causes ∧ CountedFrom (supervised s) (counted s) := by
  have p1 : s.obs.causes <+: (rmuSample (tick s)).obs.causes := rmuSample_prefix (tick s)
  have hw : (supervised s).obs.causes = (rmuSample (tick s)).obs.causes := by simp [supervised]
  have p2 := testLevels_prefix (supervised s)
  have p3 : (testLevels (supervised s)).obs.causes <+: (lineChecked (supervised s)).obs.causes := causeIf_prefix _ _ _
  have p4 : (lineChecked (supervised s)).obs.causes <+: (beforeOverrun (supervised s)).obs.causes := testRollback_prefix _
  have p5 := causeIf_prefix (supervised s).overran .overrun (beforeOverrun (supervised s))
  rw [sampleEnd_causes] at h
  rw [h] at p5
  rw [hw] at p2
  have e1 := prefix_between p1 (((p2.trans p3).trans p4).trans p5)
  have e2 := prefix_between (p1.trans p2) ((p3.trans p4).trans p5)
  have e3 := prefix_between ((p1.trans p2).trans p3) (p4.trans p5)
  have e4 := prefix_between (((p1.trans p2).trans p3).trans p4) p5
  have q1 : CountedFrom (supervised s) (testLevels (supervised s)) := testLevels_quiet (by rw [e2, hw, e1])
  have q2 : CountedFrom (testLevels (supervised s)) (lineChecked (supervised s)) := .of_eq (causeIf_quiet (e3.trans e2.symm))
  have q3 : CountedFrom (lineChecked (supervised s)) (beforeOverrun (supervised s)) := testRollback_quiet (e4.trans e3.symm)
  have q4 : CountedFrom (beforeOverrun (supervised s))
      (causeIf (supervised s).overran .overrun (beforeOverrun (supervised s))) := .of_eq (causeIf_quiet (h.trans e4.symm))
  have q5 (u : State) : CountedFrom u (countStandstill u) := ⟨rfl, rfl, rfl, rfl, rfl, rfl, rfl, rfl, rfl, rfl⟩
  exact ⟨e1, (((q1.trans q2).trans q3).trans q4).trans (q5 _)⟩

end Sys2Proof.Machine
end

section
/-! The reference at a sample (R57 to R66), the target reached (R61, R120, R122), and what the end of a sample leaves of
both. -/

namespace Sys2Proof.Machine

/-! ### The state in which the reference is formed -/

/-- The state of a sample in which the SRG forms its reference: the clock, the RMU, a move's travel and the permitted
speed have gone before (assumption 7). -/
def referred (s : State) : State := formPermitted (moveTravel (rmuSample (tick s)))

theorem supervised_eq (s : State) : supervised s = srgSample (referred s) := rfl

@[simp] theorem referred_place (s : State) : (referred s).lts = s.lts ∧ (referred s).xs = (sampleEnd s).xs := by
  constructor
  · simp [referred]
  · simp [referred, sampleEnd, supervised, State.xs, Rmu.xsMm, Rmu.xsUm]

/-- At a quiet sample the reference is formed from the trip, the SRG and the OBS as they were. -/
theorem referred_quiet {s : State} (hq : (rmuSample (tick s)).obs.causes = (tick s).obs.causes) :
    (referred s).tsq = { s.tsq with
      closureTimer := tickTimer s.tsq.closureTimer, consoleTimer := tickTimer s.tsq.consoleTimer
      move := s.tsq.move.map (fun m => { m with remaining := m.remaining - travel m.direction (sampleEnd s).rmu.dx2 }) } ∧
    (referred s).srg = { s.srg with warning := tickTimer s.srg.warning } ∧ (referred s).cpt = s.cpt ∧
    (referred s).obs.causes = s.obs.causes ∧ (referred s).obs.stopLatch = s.obs.stopLatch ∧
    (referred s).obs.trippedFrom = s.obs.trippedFrom ∧ (referred s).obs.applyPending = s.obs.applyPending ∧
    (referred s).obs.brakes = (tick s).obs.brakes := by
  obtain ⟨ht, hs, ho, hc, -, -⟩ := rmuSample_quiet hq
  have hdx : (sampleEnd s).rmu.dx2 = (rmuSample (tick s)).rmu.dx2 := by simp [sampleEnd, supervised]
  simp [referred, moveTravel, ht, hs, ho, hc, hdx]

theorem referred_den {s : State} (hq : (rmuSample (tick s)).obs.causes = (tick s).obs.causes) :
    (referred s).braking = s.braking ∧ (referred s).den = s.den := by
  obtain ⟨ht, -, -, hca, hl, -⟩ := referred_quiet hq
  have hb : (referred s).braking = s.braking := by simp [State.braking, hca]
  exact ⟨hb, by simp [State.den, State.permission, hb, hl, ht]⟩

/-! ### The end of a sample -/

/-- The TSQ has nothing to ask for at a sample outside step STANDSTILL and step HOLDING (R120, R122). -/
theorem tsqSample_idle {s : State} (ha : ¬ (s.tsq.state = .arriving ∧ s.tsq.step = some .standstill))
    (hi : ¬ (s.tsq.state = .inspecting ∧ s.tsq.step = some .holding)) : tsqSample s = s := by
  rw [tsqSample_eq]
  split
  · rfl
  · rw [if_neg (fun h => hi ⟨h.1, h.2.1⟩)]

theorem restReference_holding (s : State) :
    (restReference s).srg.holding = s.srg.holding ∨ (restReference s).srg.holding = 0 := by
  unfold restReference
  split <;> simp [Srg.zeroed]

/-- The reference and the holding duty are as they were or 0. -/
def SlowedFrom (s t : State) : Prop :=
  (t.srg.vRef = s.srg.vRef ∨ t.srg.vRef = 0) ∧ (t.srg.holding = s.srg.holding ∨ t.srg.holding = 0)

theorem SlowedFrom.of_srg {s t : State} (h : t.srg = s.srg) : SlowedFrom s t := by
  unfold SlowedFrom
  rw [h]
  exact ⟨.inl rfl, .inl rfl⟩

theorem SlowedFrom.trans {s t u : State} (h : SlowedFrom s t) (h' : SlowedFrom t u) : SlowedFrom s u := by
  obtain ⟨h1, h2⟩ := h
  obtain ⟨h1', h2'⟩ := h'
  refine ⟨?_, ?_⟩
  · rcases h1' with h | h <;> rw [h]
    · exact h1
    · exact .inr rfl
  · rcases h2' with h | h <;> rw [h]
    · exact h2
    · exact .inr rfl

theorem restReference_slowed (s : State) : SlowedFrom s (restReference s) :=
  ⟨restReference_vRef s, restReference_holding s⟩

theorem changeTrip_slowed (new : TripState) (step : Option Step) (s : State) : SlowedFrom s (changeTrip new step s) := by
  unfold changeTrip
  split
  · exact .of_srg rfl
  · have h := restReference_slowed
      ((bcuOnTrip new (testDoors (obsOnTrip new (recordTrip new step s)))).updSrg (Srg.onTrip s.tsq.state new))
    have hb : SlowedFrom s
        ((bcuOnTrip new (testDoors (obsOnTrip new (recordTrip new step s)))).updSrg (Srg.onTrip s.tsq.state new)) := by
      unfold SlowedFrom
      simp [Srg.onTrip]
    exact (hb.trans h).trans (.of_srg rfl)

theorem dropDrive_slowed (s : State) : SlowedFrom s (dropDrive s) := ⟨.inl rfl, .inr rfl⟩

theorem EndsTrip.slowed {s t : State} (h : EndsTrip s t) : SlowedFrom s t := by
  have hr : SlowedFrom s (sbkRequested false s) := .of_srg (by simp [sbkRequested])
  cases h with
  | arrival =>
    have hs : SlowedFrom s (stopAt ((sbkRequested false s).tsq.target.getD 0) (dropDrive (sbkRequested false s))) := by
      refine (hr.trans (dropDrive_slowed _)).trans ?_
      have hc := changeTrip_slowed .stopped none ((dropDrive (sbkRequested false s)).updTsq
        (fun t => { t with target := some ((sbkRequested false s).tsq.target.getD 0) }))
      exact hc.trans (.of_srg (by simp [stopAt]))
    unfold arrivalEnd
    dsimp only
    split
    · exact (hs.trans (.of_srg (by simp))).trans (changeTrip_slowed _ _ _)
    · exact hs.trans (.of_srg (by simp))
  | move => exact (hr.trans (dropDrive_slowed _)).trans (changeTrip_slowed _ _ _)

theorem tsqSample_slowed (s : State) : SlowedFrom s (tsqSample s) := by
  obtain ⟨u, hu, h⟩ := tsqSample_ends s
  have hs : SlowedFrom s u := by rcases hu with rfl | rfl <;> exact .of_srg rfl
  rcases h with h | ⟨w, h⟩ | h
  · rw [h]
    exact hs
  · rw [h]
    exact hs.trans (.of_srg (by simp [sbkRequested]))
  · exact hs.trans h.slowed

theorem latchStop_slowed (s : State) : SlowedFrom s (latchStop s) := by
  unfold latchStop
  split
  · refine SlowedFrom.trans ?_ (restReference_slowed _)
    exact ⟨.inl (by simp), .inr (by simp [dropDrive])⟩
  · exact .of_srg rfl

/-- At a quiet sample the target speed and the phase are those that the SRG formed, and the reference and the duty are, or
are 0. -/
theorem sampled_reference {s : State} (h : (sampleEnd s).obs.causes = s.obs.causes) :
    (sampleEnd s).srg.vTgt = (formReference (referred s)).srg.vTgt ∧
    (sampleEnd s).srg.phase = (formReference (referred s)).srg.phase ∧
    SlowedFrom (writeDuty (formReference (referred s))) (sampleEnd s) := by
  obtain ⟨hq, hc⟩ := sampled_quiet h
  have hsup : (supervised s).srg.vTgt = (formReference (referred s)).srg.vTgt ∧
      (supervised s).srg.phase = (formReference (referred s)).srg.phase ∧
      SlowedFrom (writeDuty (formReference (referred s))) (supervised s) := by
    rw [supervised_eq, srgSample]
    split
    · refine ⟨by simp [writeDuty], by simp [writeDuty], ?_⟩
      unfold reportReached
      split
      · exact (SlowedFrom.of_srg (by simp)).trans (changeTrip_slowed _ _ _)
      · split <;> exact .of_srg (by simp)
    · exact ⟨by simp [writeDuty], by simp [writeDuty], .of_srg (by simp)⟩
  obtain ⟨h1, h2, h3⟩ := hsup
  rw [sampleEnd_eq]
  refine ⟨by simp [hc.srg, h1], by simp [hc.srg, h2], ?_⟩
  refine (h3.trans (.of_srg hc.srg)).trans ((latchStop_slowed _).trans ?_)
  refine SlowedFrom.trans (t := followTarget (latchStop (counted s))) (.of_srg (by simp)) ((tsqSample_slowed _).trans ?_)
  exact .of_srg (by simp)

end Sys2Proof.Machine
end

section
/-! The end of an arrival and of an inspection move (R51, R92, R120, R122, R123, R145). -/

namespace Sys2Proof.Machine

/-! ### Which kinds a raising holds -/

theorem code_injective {e f : EventKind} (h : e.code = f.code) : e = f := by
  cases e <;> cases f <;> simp [EventKind.code] at h ⊢

/-- A kind is in a set where it is in the list (R182). -/
theorem eventMask_getLsbD (es : List EventKind) (e : EventKind) :
    (eventMask es).getLsbD e.code = decide (e ∈ es) := by
  induction es with
  | nil => simp [eventMask]
  | cons f rest ih =>
    have hf : (e.code = f.code) ↔ e = f := ⟨code_injective, congrArg EventKind.code⟩
    simp [eventMask, bit_getLsbD, ih, hf, Bool.decide_or]

/-- The ports after a raising, but for the kinds in it (R182). -/
def RaisedFrom (e : EventKind) (b : Bool) (s t : State) : Prop :=
  ∃ es, t.lpu = (s.raising es).lpu ∧ decide (e ∈ es) = b

theorem RaisedFrom.trans {e : EventKind} {b c : Bool} {s t u : State} (h : RaisedFrom e b s t) (h' : RaisedFrom e c t u) :
    RaisedFrom e (b || c) s u := by
  obtain ⟨es, hes, hb⟩ := h
  obtain ⟨fs, hfs, hc⟩ := h'
  refine ⟨es ++ fs, ?_, ?_⟩
  · rw [hfs, ← raising_raising]
    exact raising_lpu_congr _ hes
  · rw [← hb, ← hc]
    simp [Bool.decide_or]

theorem RaisedFrom.of_lpu {s t : State} (e : EventKind) (h : t.lpu = s.lpu) : RaisedFrom e false s t :=
  ⟨[], by rw [raising_nil, h], by simp⟩

/-- The event set of a port after a raising (R182). -/
theorem RaisedFrom.port {e : EventKind} {b : Bool} {s t : State} (h : RaisedFrom e b s t) (p : PortId) :
    (t.lpu.ports.get p).events.getLsbD e.code = ((s.lpu.ports.get p).events.getLsbD e.code ||
      ((s.lpu.ports.get p).subs.getLsbD e.code && b)) := by
  obtain ⟨es, hes, hb⟩ := h
  rw [hes, raising_port]
  simp [eventMask_getLsbD, hb, Bool.and_comm]

/-! ### The arrival test (R51) -/

/-- Both cars' records with their arrival results (R51). -/
def Cpt.arrived (c : Cpt) (r : Car → ArrivalRecord) : Cpt :=
  { c with cars := ⟨{ c.cars.a with arrival := some (r .a) }, { c.cars.b with arrival := some (r .b) }⟩ }

theorem arrivalTest_eq {s : State} {g : StopTarget} (hg : s.cpt.target = some g) :
    arrivalTest s = ({ s with cpt := s.cpt.arrived (fun c => arrivalOf s c g.stopIndex) } : State).raising
      (eventIf (decide ((arrivalOf s .a g.stopIndex).result = .misaligned ∨
        (arrivalOf s .b g.stopIndex).result = .misaligned)) .misalignedStop) := by
  unfold arrivalTest
  simp only [hg]
  split
  next h => rw [decide_eq_true h, eventIf_true, raise_eq]; rfl
  next h => rw [decide_eq_false h, eventIf_false, raising_nil]; rfl

/-- An arrival result read in a state that stands where another does (R51). -/
theorem arrivalOf_congr {s t : State} (hl : t.lts = s.lts) (hx : t.rmu.x2 = s.rmu.x2 ∧ t.rmu.known = s.rmu.known)
    (ho : ∀ c, (t.cpt.cars.get c).offset = (s.cpt.cars.get c).offset) (c : Car) (k : Nat) :
    arrivalOf t c k = arrivalOf s c k := by
  have hoa := ho .a
  have hob := ho .b
  simp only [PerCar.get] at hoa hob
  have he : t.stopError c k = s.stopError c k := by
    cases c <;> simp [State.stopError, State.estimate, State.xs, Rmu.xsMm, Rmu.xsUm, hl, hx, hoa, hob]
  simp [arrivalOf, State.aligned, he, hl, hx]

/-- A car's arrival result by the stop error (R51). -/
theorem arrivalOf_result (s : State) (c : Car) (k : Nat) :
    (arrivalOf s c k).result = (if s.lts.hasPlatform c k = false then .noPlatform
      else if s.rmu.known = true ∧ ((arrivalOf s c k).error.natAbs : Int) ≤ s.lts.platformWindow then .aligned
      else .misaligned) := by
  cases hp : s.lts.hasPlatform c k <;> simp [arrivalOf, State.aligned, hp]

/-! ### The end of an arrival (R120, R123) -/

/-- What the end of an arrival leaves in its trip record (R120, R123). -/
def Tsq.arrived (t : Tsq) (k : Nat) (clock : Long) : Tsq :=
  { t with
    state := if t.silent then .outOfService else .stopped
    step := none, resume := false, phase := none, target := some k, lastChange := clock, move := none,
    halts := t.halts.filter (fun e => decide (e.stopIndex ≠ k)), driveRequest := false,
    warningEnded := false, closureTimer := none }

/-- A car that did not stop aligned (R51). -/
def State.misaligned (s : State) (g : StopTarget) : Bool :=
  decide ((arrivalOf s .a g.stopIndex).result = .misaligned ∨ (arrivalOf s .b g.stopIndex).result = .misaligned)

/-- From s to t an arrival at stop k has ended (R120, R51, R123, R145). -/
structure ArrivalEnded (k : Nat) (g : StopTarget) (s t : State) : Prop where
  reference : t.srg.vRef = 0 ∧ t.srg.holding = 0
  cpt : t.cpt = s.cpt.arrived (fun c => arrivalOf s c g.stopIndex)
  events : RaisedFrom .misalignedStop (s.misaligned g) s t
  rmu : t.rmu = { s.rmu with slipActive := false }
  doors : ∃ u, DoorsTested u t
  loads : t.bcu.loads = s.bcu.loads
  batches : t.bcu.batches = if s.tsq.silent then
      s.bcu.batches.mapStation (fun _ b => { b with state := .suspended, settle := none })
    else if s.lts.isTerminal k then openedBatches s.bcu.batches else s.bcu.batches
  rest : t.lts = s.lts ∧ SameClocks s t

/-- The line STOPPED at its target, the arrival tested and the batches of a terminal opened, before the console's silence
is heeded (R120, R51, R145). -/
def stopArrived (k : Nat) (s : State) : State := openAtTerminal k (arrivalTest (stopAt k (dropDrive s)))

theorem arrivalEnd_eq {k : Nat} {s : State} (hk : s.tsq.target = some k) :
    arrivalEnd s = if (stopArrived k s).tsq.silent then changeTrip .outOfService none (stopArrived k s)
      else stopArrived k s := by
  simp only [arrivalEnd, hk, Option.getD_some, stopArrived]
  rfl

/-- The trip record and the OBS of a line STOPPED at its target (R120). -/
theorem stopArrived_record (k : Nat) {s : State} (hs : s.tsq.state = .arriving) :
    (stopArrived k s).tsq = { s.tsq with
      state := .stopped, step := none, resume := false, phase := none, target := some k, lastChange := s.clock,
      move := none, halts := s.tsq.halts.filter (fun e => decide (e.stopIndex ≠ k)), driveRequest := false,
      warningEnded := false, closureTimer := none } ∧
    (stopArrived k s).obs = { s.obs with
      envelope := false, vPerm2 := none, endpoint := none, eFrom := none, ctlStop := false, excursion := false,
      rollback := .standing 0, liftPending := false, applyPending := false } := by
  obtain ⟨htsq, hobs, -⟩ := stopAt_cameToStop k (s := dropDrive s) (by simp [hs])
  unfold stopArrived
  exact ⟨by simp [htsq], by simp [hobs]⟩

/-- The trip record and the OBS at the end of an arrival, the console silent or not (R120, R123). -/
theorem arrivalEnd_record {k : Nat} {s : State} (hs : s.tsq.state = .arriving) (hk : s.tsq.target = some k) :
    (arrivalEnd s).tsq = s.tsq.arrived k s.clock ∧
    (arrivalEnd s).obs = { s.obs with
      envelope := false, vPerm2 := none, endpoint := none, eFrom := none, ctlStop := false, excursion := false,
      rollback := .standing 0, liftPending := false, applyPending := false } := by
  rw [arrivalEnd_eq hk]
  obtain ⟨htsq, hobs⟩ := stopArrived_record k hs
  have hclock : (stopArrived k s).clock = s.clock := by simp [stopArrived]
  generalize stopArrived k s = u at *
  have hsilent : u.tsq.silent = s.tsq.silent := by rw [htsq]
  rw [hsilent]
  by_cases hb : s.tsq.silent = true
  · have hne : u.tsq.state ≠ .outOfService := by simp [htsq]
    rw [if_pos hb]
    refine ⟨?_, ?_⟩
    · rw [changeTrip_tsq none hne, htsq]
      simp [Tsq.arrived, hb, hclock, TripState.keepsDrive]
    · rw [changeTrip_obs none hne, obsOnTrip]
      simp [hobs, TripState.endsTravel]
  · rw [if_neg hb]
    exact ⟨by rw [htsq]; simp only [Tsq.arrived, if_neg hb], hobs⟩

/-- From s to t the line has come to its target and tested its arrival (R120, R51, R145). -/
structure ArrivedAtStop (k : Nat) (g : StopTarget) (s t : State) : Prop where
  reference : t.srg.vRef = 0 ∧ t.srg.holding = 0
  cpt : t.cpt = s.cpt.arrived (fun c => arrivalOf s c g.stopIndex)
  events : RaisedFrom .misalignedStop (s.misaligned g) s t
  rmu : t.rmu = { s.rmu with slipActive := false }
  doors : ∃ u, DoorsTested u t
  bcu : t.bcu = if s.lts.isTerminal k then { s.bcu with batches := openedBatches s.bcu.batches } else s.bcu
  rest : t.lts = s.lts ∧ SameClocks s t

theorem stopArrived_arrived {k : Nat} {g : StopTarget} {s : State} (hs : s.tsq.state = .arriving)
    (hg : s.cpt.target = some g) : ArrivedAtStop k g s (stopArrived k s) := by
  unfold stopArrived
  have hne : (dropDrive s).tsq.state ≠ .stopped := by simp [hs]
  obtain ⟨htsq, hobs, hrmu, hsrg, hdoors, hlts, hcpt, hclocks⟩ := stopAt_cameToStop k hne
  have hlpu := stopAt_lpu k hne
  have hbcu : (stopAt k (dropDrive s)).bcu = s.bcu := by
    simp only [stopAt, serveHalt_eq, raising_bcu, updTsq_bcu]
    exact changeTrip_bcu (s := (dropDrive s).updTsq (fun t => { t with target := some k })) none hne
  generalize stopAt k (dropDrive s) = u at *
  have hof (c : Car) (j : Nat) : arrivalOf u c j = arrivalOf s c j :=
    arrivalOf_congr hlts (by simp [hrmu]) (fun c => by simp [hcpt]) c j
  have htest := arrivalTest_eq (s := u) (g := g) (by rw [hcpt]; exact hg)
  have hcars (c : Car) : ((arrivalTest u).cpt.cars.get c).offset = (u.cpt.cars.get c).offset := by
    rw [htest]
    cases c <;> rfl
  have hcpt' : (arrivalTest u).cpt = s.cpt.arrived (fun c => arrivalOf s c g.stopIndex) := by
    rw [htest]
    simp only [raising_cpt, hof, hcpt]
    rfl
  have hevents : RaisedFrom .misalignedStop (s.misaligned g) u (arrivalTest u) := by
    refine ⟨_, by conv_lhs => rw [htest]
                  exact raising_lpu_congr (s := u) _ rfl, ?_⟩
    simp only [hof]
    rw [← State.misaligned]
    cases s.misaligned g <;> simp
  have hstop : RaisedFrom .misalignedStop false s u := by
    refine ⟨_, hlpu.trans (raising_lpu_congr _ rfl), ?_⟩
    simp [stopEvents, eventIf]
  have hopen : RaisedFrom .misalignedStop false (arrivalTest u) (openAtTerminal k (arrivalTest u)) := by
    refine ⟨_, by conv_lhs => rw [openAtTerminal_eq]
                  exact raising_lpu_congr (s := arrivalTest u) _ rfl, ?_⟩
    simp [eventIf]
  refine ⟨?_, ?_, ?_, ?_, ⟨_, hdoors.congr rfl (by simp) (mayRelease_of_same ?_ ?_ ?_ ?_ ?_ ?_ ?_)⟩, ?_, ?_⟩
  · simp [hsrg]
  · simpa using hcpt'
  · simpa using (hstop.trans hevents).trans hopen
  · simp [hrmu]
  · simp
  · simp
  · simp
  · simp
  · intro c
    simpa using hcars c
  · simp
  · rw [(sansEvents_eq (openAtTerminal_ports k _)).1, (sansEvents_eq (arrivalTest_ports u)).1]
  · rw [openAtTerminal_eq, raising_bcu, htest]
    simp [hlts, hbcu]
  · obtain ⟨h1, h2, h3, h4, h5⟩ := hclocks
    exact ⟨by simpa using hlts, by simpa using h1, by simpa using h2, by simpa using h3, by simpa using h4,
      by simpa using h5⟩

/-- The end of an arrival, the console silent or not (R120, R123). -/
theorem arrivalEnd_ended {k : Nat} {g : StopTarget} {s : State} (hs : s.tsq.state = .arriving)
    (hk : s.tsq.target = some k) (hg : s.cpt.target = some g) : ArrivalEnded k g s (arrivalEnd s) := by
  rw [arrivalEnd_eq hk]
  obtain ⟨htsq, -⟩ := stopArrived_record k hs
  obtain ⟨href, hcpt, hevents, hrmu, hdoors, hbcu, hlts, hclocks⟩ := stopArrived_arrived (k := k) hs hg
  generalize stopArrived k s = u at *
  have hsilent : u.tsq.silent = s.tsq.silent := by rw [htsq]
  rw [hsilent]
  by_cases hb : s.tsq.silent = true
  swap
  · rw [if_neg hb]
    refine ⟨href, hcpt, hevents, hrmu, hdoors, ?_, ?_, hlts, hclocks⟩
    · rw [hbcu]
      split <;> rfl
    · rw [hbcu, if_neg hb]
      split <;> rfl
  · have hne : u.tsq.state ≠ .outOfService := by simp [htsq]
    have hsrg := changeTrip_srg_at_rest none hne rfl (by decide)
    obtain ⟨h1, h2, h3, h4, h5⟩ := hclocks
    have hev : RaisedFrom .misalignedStop false u (changeTrip .outOfService none u) :=
      ⟨_, changeTrip_lpu_closed none hne (by decide), by simp [eventIf]⟩
    rw [if_pos hb]
    refine ⟨?_, ?_, ?_, ?_, ⟨_, changeTrip_doorsTested none hne⟩, ?_, ?_, by simpa using hlts,
      by simpa using h1, by simpa using h2, by simpa using h3, by simpa using h4, by simpa using h5⟩
    · simp [hsrg]
    · simpa using hcpt
    · simpa using hevents.trans hev
    · rw [changeTrip_rmu none hne, hrmu]
      simp
    · rw [changeTrip_bcu none hne, hbcu]
      split <;> rfl
    · rw [changeTrip_bcu none hne, hbcu, if_pos hb]
      split <;> simp [Bcu.onTrip, TripState.suspends, openedBatches, PerStation.mapStation]

/-- The end of an inspection move (R122). -/
theorem moveEnd_ended {s : State} (hs : s.tsq.state = .inspecting) :
    let t := moveEnd s
    t.tsq = { s.tsq with
      state := .outOfService, step := none, resume := false, phase := none, lastChange := s.clock, move := none,
      driveRequest := false, warningEnded := false, closureTimer := none } ∧
    t.obs = { s.obs with
      envelope := false, vPerm2 := none, endpoint := none, eFrom := none, ctlStop := false, excursion := false,
      rollback := .standing 0, liftPending := false, applyPending := false } ∧
    t.srg.vRef = 0 ∧ t.srg.holding = 0 ∧ t.srg.frozen = false ∧ t.rmu = { s.rmu with slipActive := false } ∧
    (∀ st, t.bcu.batches.get st = { s.bcu.batches.get st with state := .suspended, settle := none }) ∧
    t.bcu.loads = s.bcu.loads ∧ t.lts = s.lts ∧ t.cpt = s.cpt ∧ SameClocks s t := by
  have hne : (dropDrive s).tsq.state ≠ .outOfService := by simp [hs]
  have hsrg := changeTrip_srg_at_rest none hne rfl (by decide)
  have hbcu := changeTrip_bcu none hne
  simp only [moveEnd]
  refine ⟨?_, ?_, by simp [hsrg], by simp [hsrg], ?_, ?_, fun st => ?_, ?_, by simp, by simp, by simp [SameClocks]⟩
  · rw [changeTrip_tsq none hne]
    simp [dropDrive]
  · rw [changeTrip_obs none hne, obsOnTrip]
    simp [TripState.endsTravel]
  · simp [hsrg, Srg.onTrip, TripState.endsTravel]
  · rw [changeTrip_rmu none hne]
    simp [TripState.endsTravel]
  · rw [hbcu]
    cases st <;> rfl
  · rw [hbcu]
    rfl

/-! ### SBK's proof at the end of an arrival or a move (R95, R120, R122) -/

/-- The state in which SBK's proof, waited for by an apply request, is reported (R92, R95). -/
def State.sbkDropped (s : State) : State :=
  { s with
    obs := { s.obs with
      applyPending := false
      brakes := { s.obs.brakes with sbk := { s.obs.brakes.sbk with reading := .dropped, proof := .proven, timer := none } } }
    dru := (setBrake .sbk ((s.obs.brakes.get .sbk).provenBy .dropped) s).dru }

theorem exec_sbkDropped {s : State} (hs : s.tsq.state ≠ .stopped) (hp : s.obs.applyPending = true)
    (hl : s.obs.liftPending = false) (hc : s.obs.brakes.sbk.command = .applied)
    (hr : s.obs.brakes.sbk.reading = .lifted) :
    exec (.brakeFeedbackChange .sbk .dropped) s = .next (sbkProven s.sbkDropped) := by
  rw [exec_brakeFeedbackChange (by simp [PerBrake.get, hr]),
    feedback_agrees (by simp [PerBrake.get, hc])]
  have hset := setBrake_not_stopped hs .sbk ((s.obs.brakes.get .sbk).provenBy .dropped)
  have hlift : reportLifted (setBrake .sbk ((s.obs.brakes.get .sbk).provenBy .dropped) s) =
      setBrake .sbk ((s.obs.brakes.get .sbk).provenBy .dropped) s := by
    rw [reportLifted, if_neg (by simp [hl])]
  rw [hlift, reportApplied, if_pos]
  · rw [hset]
    rfl
  · rw [hset]
    simp [hp, State.provenAs, PerBrake.get, PerBrake.set, BrakeRecord.provenBy, hc]

/-- The doors of a line after a test moment show RELEASED where the conditions hold (R126). -/
theorem DoorsTested.released_iff {s t : State} (h : DoorsTested s t) (c : Car) (side : Side) :
    ((t.dru.get c).get side).command = .released ↔ t.mayRelease c side = true := by
  have hside := h c side
  dsimp only at hside
  split at hside
  next hm =>
    rw [hside]
    refine ⟨fun _ => hm, fun _ => ?_⟩
    split
    · assumption
    · rfl
  next hm =>
    rw [hside]
    refine ⟨fun hr => ?_, fun h => absurd h hm⟩
    split at hr
    · cases hr
    · contradiction

/-- The proof of SBK ends an arrival (R120). -/
theorem arrival_proven {s : State} (hs : s.tsq.state = .arriving) (hstep : s.tsq.step = some .apply)
    (hp : s.obs.applyPending = true) (hl : s.obs.liftPending = false) (hc : s.obs.brakes.sbk.command = .applied)
    (hr : s.obs.brakes.sbk.reading = .lifted) :
    exec (.brakeFeedbackChange .sbk .dropped) s = .next (arrivalEnd s.sbkDropped) := by
  rw [exec_sbkDropped (by simp [hs]) hp hl hc hr, sbkProven, if_pos ⟨hs, hstep⟩]

/-- The proof of SBK ends an inspection move (R122). -/
theorem move_proven {s : State} (hs : s.tsq.state = .inspecting) (hstep : s.tsq.step = some .holding)
    (hp : s.obs.applyPending = true) (hl : s.obs.liftPending = false) (hc : s.obs.brakes.sbk.command = .applied)
    (hr : s.obs.brakes.sbk.reading = .lifted) :
    exec (.brakeFeedbackChange .sbk .dropped) s = .next (moveEnd s.sbkDropped) := by
  have hna : ¬ (s.sbkDropped.tsq.state = .arriving ∧ s.sbkDropped.tsq.step = some .apply) := by
    simp [State.sbkDropped, hs]
  rw [exec_sbkDropped (by simp [hs]) hp hl hc hr, sbkProven, if_neg hna, if_pos ⟨hs, hstep⟩]

/-! ### The apply request at a sample (R92, R120, R122) -/

/-- The state in which the TSQ reads the standstill indication of a sample that lists no cause. -/
def askedAt (s : State) : State := followTarget (counted s)

/-- A sample of a line that stands in ARRIVING, or in step HOLDING of a move, with no cause listed: the TSQ reads the trip
record, the brakes and the request as they were. -/
structure AskedFrom (s c : State) : Prop where
  tsq : c.tsq.state = s.tsq.state ∧ c.tsq.step = s.tsq.step ∧ c.tsq.target = s.tsq.target ∧ c.tsq.halts = s.tsq.halts ∧
    c.tsq.silent = s.tsq.silent ∧ c.tsq.driveRequest = s.tsq.driveRequest
  pending : c.obs.applyPending = s.obs.applyPending
  sbk : c.obs.brakes.sbk.command = s.obs.brakes.sbk.command ∧
    (appliedBrake c c.obs.brakes.sbk).proof = (appliedBrake s s.obs.brakes.sbk).proof ∧
    (s.obs.brakes.sbk.command = .lifted → appliedBrake c c.obs.brakes.sbk = appliedBrake s s.obs.brakes.sbk)
  ebk : c.obs.brakes.ebk.command = s.obs.brakes.ebk.command
  sampled : sampleEnd s = testDoors (tsqSample c)

/-- The SRG at a sample reports a target to a running trip and a moving move alone (R61, R64). -/
theorem srgSample_elsewhere {u : State} (hr : u.tsq.state ≠ .running)
    (hm : ¬ (u.tsq.state = .inspecting ∧ u.tsq.step = some .moving)) :
    (srgSample u).tsq = u.tsq ∧ (srgSample u).obs = u.obs := by
  have hhand : handPhase (writeDuty (formReference u)) = writeDuty (formReference u) := by
    rw [handPhase, if_neg (by simpa using hr)]
  have hreach : reportReached (writeDuty (formReference u)) = writeDuty (formReference u) := by
    rw [reportReached, if_neg (by simpa using hr), if_neg (by simpa using hm)]
  simp only [srgSample, hhand, hreach, ite_self]
  exact ⟨by simp, by simp⟩

theorem appliedBrake_command (s : State) (b : BrakeRecord) : (appliedBrake s b).command = .applied := by
  unfold appliedBrake
  split
  · assumption
  · split <;> rfl

theorem appliedBrake_tick (s : State) (b : BrakeRecord) (t : Option Timer) :
    (appliedBrake s { b with timer := t }).proof = (appliedBrake s b).proof ∧
    (b.command = .lifted → appliedBrake s { b with timer := t } = appliedBrake s b) := by
  unfold appliedBrake
  refine ⟨?_, fun h => ?_⟩
  · dsimp only
    split
    · rfl
    · split <;> rfl
  · simp [h]

theorem appliedBrake_congr {s t : State} (h : t.lts = s.lts) (b : BrakeRecord) : appliedBrake t b = appliedBrake s b := by
  simp only [appliedBrake, h]

theorem askedAt_from {s : State} (hc : (sampleEnd s).obs.causes = [])
    (hs : s.tsq.state = .arriving ∨ (s.tsq.state = .inspecting ∧ s.tsq.step = some .holding)) :
    AskedFrom s (askedAt s) := by
  have hnone : s.obs.causes = [] := by simpa [hc] using sampleEnd_prefix s
  obtain ⟨hq, hcount⟩ := sampled_quiet (hc.trans hnone.symm)
  obtain ⟨ht, -, -, hcauses, -, -, hpend, hbrakes⟩ := referred_quiet hq
  have hr : (referred s).tsq.state ≠ .running := by
    rw [ht]
    rcases hs with h | ⟨h, -⟩ <;> simp [h]
  have hm : ¬ ((referred s).tsq.state = .inspecting ∧ (referred s).tsq.step = some .moving) := by
    rw [ht]
    rcases hs with h | ⟨-, h⟩ <;> simp [h]
  obtain ⟨hsup, hsobs⟩ := srgSample_elsewhere hr hm
  have hlatch : latchStop (counted s) = counted s := by
    have hb : (counted s).braking = .none := braking_of_no_cause (by rw [hcount.causes, supervised_eq, hsobs, hcauses, hnone])
    rw [latchStop, if_neg (by simp [hb])]
  have htsq : (askedAt s).tsq = (referred s).tsq := by
    rw [← hsup, ← supervised_eq, ← hcount.tsq]
    simp [askedAt]
  have hb : (askedAt s).obs.brakes = (tick s).obs.brakes := by
    rw [← hbrakes, ← hsobs, ← supervised_eq, ← hcount.brakes]
    simp [askedAt]
  have hlts : (askedAt s).lts = s.lts := by
    have := hcount.lts
    simp [askedAt, this, supervised_eq]
  have hp : (askedAt s).obs.applyPending = s.obs.applyPending := by
    rw [← hpend, ← hsobs, ← supervised_eq, ← hcount.applyPending]
    simp [askedAt]
  obtain ⟨hproof, heq⟩ := appliedBrake_tick s s.obs.brakes.sbk (tickTimer s.obs.brakes.sbk.timer)
  refine ⟨?_, hp, ⟨by rw [hb]; rfl, ?_, fun h => ?_⟩, by rw [hb]; rfl, ?_⟩
  · rw [htsq, ht]
    exact ⟨rfl, rfl, rfl, rfl, rfl, rfl⟩
  · rw [appliedBrake_congr hlts, hb]
    exact hproof
  · rw [appliedBrake_congr hlts, hb]
    exact heq h
  · rw [sampleEnd_eq, hlatch]
    rfl

/-- SBK answers an apply request at once where the request finds or leaves it proven (R92, R93). -/
theorem sbkProves_iff (s : State) : s.sbkProves = true ↔ (appliedBrake s s.obs.brakes.sbk).proof = .proven := by
  simp [State.sbkProves, State.provenAs, applyBrake_brakes, PerBrake.get, PerBrake.set, appliedBrake_command]

/-- What an apply request leaves of the line, but for its report (R92). -/
theorem sbkRequested_record (w : Bool) (s : State) : (sbkRequested w s).tsq = s.tsq ∧
    (sbkRequested w s).obs = { s.obs with
      applyPending := w, brakes := { s.obs.brakes with sbk := appliedBrake s s.obs.brakes.sbk } } := by
  refine ⟨by simp [sbkRequested], ?_⟩
  have hb := applyBrake_brakes .sbk s
  have ho : (applyBrake .sbk s).obs = { s.obs with brakes := (applyBrake .sbk s).obs.brakes } := by
    unfold applyBrake setBrake
    dsimp only
    split
    · rfl
    · split <;> simp
  rw [sbkRequested, updObs_obs, ho, hb]
  rfl

theorem applyRequest_waits {s : State} (h : (appliedBrake s s.obs.brakes.sbk).proof ≠ .proven) :
    applyRequest s = sbkRequested true s := by
  rw [applyRequest_eq, if_neg (by rwa [sbkProves_iff])]

theorem applyRequest_arrives {s : State} (h : (appliedBrake s s.obs.brakes.sbk).proof = .proven)
    (hs : s.tsq.state = .arriving ∧ s.tsq.step = some .apply) : applyRequest s = arrivalEnd (sbkRequested false s) := by
  rw [applyRequest_eq, if_pos (by rwa [sbkProves_iff]), if_pos hs]

theorem applyRequest_stops {s : State} (h : (appliedBrake s s.obs.brakes.sbk).proof = .proven)
    (hs : s.tsq.state = .inspecting ∧ s.tsq.step = some .holding) : applyRequest s = moveEnd (sbkRequested false s) := by
  rw [applyRequest_eq, if_pos (by rwa [sbkProves_iff]), if_neg (fun ha => by rw [hs.1] at ha; cases ha.1), if_pos hs]

theorem sbkRequested_still (w : Bool) (s : State) : (sbkRequested w s).standstill = s.standstill := by
  simp [State.standstill, (sbkRequested_record w s).2]

theorem EndsTrip.still {s t : State} (h : EndsTrip s t) : t.standstill = s.standstill := by
  rw [← sbkRequested_still false s]
  cases h with
  | arrival =>
    unfold arrivalEnd
    dsimp only
    split <;> simp [State.standstill]
  | move => simp [State.standstill, moveEnd]

/-- The TSQ's part of a sample leaves the standstill indication (R81). -/
theorem tsqSample_still (s : State) : (tsqSample s).standstill = s.standstill := by
  obtain ⟨u, hu, h⟩ := tsqSample_ends s
  have hus : u.standstill = s.standstill := by rcases hu with rfl | rfl <;> rfl
  rw [← hus]
  rcases h with h | ⟨w, h⟩ | h
  · rw [h]
  · rw [h, sbkRequested_still]
  · exact h.still

/-- The trip record, the OBS and the standstill indication after a sample, of what the TSQ has left (R127). -/
theorem AskedFrom.ends {s c : State} (h : AskedFrom s c) : (sampleEnd s).tsq = (tsqSample c).tsq ∧
    (sampleEnd s).obs = (tsqSample c).obs ∧ (sampleEnd s).standstill = c.standstill := by
  rw [h.sampled]
  refine ⟨by simp, by simp, ?_⟩
  rw [← tsqSample_still c]
  simp [State.standstill]

/-- Without standstill nothing is asked (R120, R122). -/
theorem AskedFrom.moving {s c : State} (h : AskedFrom s c) (hn : (sampleEnd s).standstill = false) :
    (sampleEnd s).tsq = c.tsq ∧ (sampleEnd s).obs = c.obs := by
  obtain ⟨ht, ho, hstill⟩ := h.ends
  rw [ht, ho, tsqSample_eq, if_pos (hstill ▸ hn)]
  exact ⟨rfl, rfl⟩

/-- The state in which the apply request of an arrival is made (R120). -/
def State.atApply (c : State) : State := c.updTsq (fun t => { t with step := some .apply })

/-- At standstill in step STANDSTILL the request is made in step APPLY (R120). -/
theorem AskedFrom.arriving {s c : State} (h : AskedFrom s c) (hn : (sampleEnd s).standstill = true)
    (hs : s.tsq.state = .arriving) (hstep : s.tsq.step = some .standstill) :
    (sampleEnd s).tsq = (applyRequest c.atApply).tsq ∧ (sampleEnd s).obs = (applyRequest c.atApply).obs := by
  obtain ⟨ht, ho, hstill⟩ := h.ends
  obtain ⟨cs, cstep, -⟩ := h.tsq
  rw [ht, ho, tsqSample_eq, if_neg (by simp [← hstill, hn]), if_pos ⟨cs.trans hs, cstep.trans hstep⟩]
  exact ⟨rfl, rfl⟩

/-- At standstill in step HOLDING the request is made once (R122). -/
theorem AskedFrom.holding {s c : State} (h : AskedFrom s c) (hn : (sampleEnd s).standstill = true)
    (hs : s.tsq.state = .inspecting) (hstep : s.tsq.step = some .holding) (hp : s.obs.applyPending = false) :
    (sampleEnd s).tsq = (applyRequest c).tsq ∧ (sampleEnd s).obs = (applyRequest c).obs := by
  obtain ⟨ht, ho, hstill⟩ := h.ends
  obtain ⟨cs, cstep, -⟩ := h.tsq
  rw [ht, ho, tsqSample_eq, if_neg (by simp [← hstill, hn]), if_neg (by simp [cs, hs]),
    if_pos ⟨cs.trans hs, cstep.trans hstep, h.pending.trans hp⟩]
  exact ⟨rfl, rfl⟩

/-- A request made in step HOLDING is not made again (R122). -/
theorem AskedFrom.asked {s c : State} (h : AskedFrom s c) (hs : s.tsq.state = .inspecting)
    (hp : s.obs.applyPending = true) : (sampleEnd s).tsq = c.tsq ∧ (sampleEnd s).obs = c.obs := by
  obtain ⟨ht, ho, -⟩ := h.ends
  have hidle : tsqSample c = c := by
    rw [tsqSample_eq]
    split
    · rfl
    · rw [if_neg (by simp [h.tsq.1, hs]), if_neg (by simp [h.pending, hp])]
  rw [ht, ho, hidle]
  exact ⟨rfl, rfl⟩

/-- At a sample the step and what is asked of SBK, in step STANDSTILL of an arrival (R120). -/
theorem arrival_waits {s : State} (hc : (sampleEnd s).obs.causes = []) (hs : s.tsq.state = .arriving)
    (hstep : s.tsq.step = some .standstill) (hn : (sampleEnd s).standstill = true) (hw : sbkHasToProve s) :
    let t := sampleEnd s
    t.tsq.state = s.tsq.state ∧ t.tsq.step = some .apply ∧ t.obs.applyPending = true ∧
    t.obs.brakes.sbk.command = .applied ∧
    (s.obs.brakes.sbk.command = .lifted → t.obs.brakes.sbk = appliedBrake s s.obs.brakes.sbk) ∧
    t.obs.brakes.ebk.command = s.obs.brakes.ebk.command ∧ t.tsq.driveRequest = s.tsq.driveRequest := by
  have ha := askedAt_from hc (.inl hs)
  obtain ⟨ht, ho⟩ := ha.arriving hn hs hstep
  obtain ⟨htsq, -, ⟨-, hproof, hsame⟩, hebk, -⟩ := ha
  obtain ⟨cstate, -, -, -, -, cdrive⟩ := htsq
  have hne := hproof.trans_ne hw
  rw [applyRequest_waits (s := (askedAt s).atApply) hne] at ht ho
  rw [(sbkRequested_record _ _).1] at ht
  rw [(sbkRequested_record _ _).2] at ho
  dsimp only
  rw [ht, ho]
  exact ⟨cstate, rfl, rfl, appliedBrake_command _ _, hsame, hebk, cdrive⟩

/-- The same in step HOLDING of a move (R122). -/
theorem move_waits {s : State} (hc : (sampleEnd s).obs.causes = []) (hs : s.tsq.state = .inspecting)
    (hstep : s.tsq.step = some .holding) (hp : s.obs.applyPending = false) (hn : (sampleEnd s).standstill = true)
    (hw : sbkHasToProve s) :
    let t := sampleEnd s
    t.tsq.state = s.tsq.state ∧ t.tsq.step = some .holding ∧ t.obs.applyPending = true ∧
    t.obs.brakes.sbk.command = .applied ∧
    (s.obs.brakes.sbk.command = .lifted → t.obs.brakes.sbk = appliedBrake s s.obs.brakes.sbk) ∧
    t.obs.brakes.ebk.command = s.obs.brakes.ebk.command ∧ t.tsq.driveRequest = s.tsq.driveRequest := by
  have ha := askedAt_from hc (.inr ⟨hs, hstep⟩)
  obtain ⟨ht, ho⟩ := ha.holding hn hs hstep hp
  obtain ⟨htsq, -, ⟨-, hproof, hsame⟩, hebk, -⟩ := ha
  obtain ⟨cstate, cstep, -, -, -, cdrive⟩ := htsq
  have hne := hproof.trans_ne hw
  rw [applyRequest_waits hne] at ht ho
  rw [(sbkRequested_record _ _).1] at ht
  rw [(sbkRequested_record _ _).2] at ho
  dsimp only
  rw [ht, ho]
  exact ⟨cstate, cstep.trans hstep, rfl, appliedBrake_command _ _, hsame, hebk, cdrive⟩

/-- An arrival that ends at the sample (R120, R123). -/
theorem arrival_ends {s : State} {k : Nat} (hc : (sampleEnd s).obs.causes = []) (hs : s.tsq.state = .arriving)
    (hstep : s.tsq.step = some .standstill) (hk : s.tsq.target = some k) (hn : (sampleEnd s).standstill = true)
    (hw : ¬ sbkHasToProve s) :
    let t := sampleEnd s
    t.tsq.state = (if s.tsq.silent then .outOfService else .stopped) ∧ t.tsq.step = none ∧
    t.tsq.target = some k ∧ t.tsq.halts = s.tsq.halts.filter (fun e => decide (e.stopIndex ≠ k)) ∧
    t.tsq.driveRequest = false ∧ t.obs.envelope = false ∧ t.obs.applyPending = false ∧
    t.obs.brakes.sbk.command = .applied ∧ t.obs.brakes.sbk.proof = .proven := by
  have ha := askedAt_from hc (.inl hs)
  obtain ⟨ht, ho⟩ := ha.arriving hn hs hstep
  obtain ⟨⟨cstate, -, ctarget, chalts, csilent, -⟩, -, ⟨-, hproof, -⟩, -, -⟩ := ha
  have hproven := hproof.trans (not_not.mp hw)
  rw [applyRequest_arrives (s := (askedAt s).atApply) hproven ⟨cstate.trans hs, rfl⟩] at ht ho
  obtain ⟨rt, ro⟩ := arrivalEnd_record (k := k)
    (s := sbkRequested false (askedAt s).atApply)
    (by rw [(sbkRequested_record _ _).1]; exact cstate.trans hs) (by rw [(sbkRequested_record _ _).1]; exact ctarget.trans hk)
  rw [rt, (sbkRequested_record _ _).1] at ht
  rw [ro, (sbkRequested_record _ _).2] at ho
  dsimp only
  rw [ht, ho]
  refine ⟨?_, rfl, rfl, congrArg (List.filter _) chalts, rfl, rfl, rfl, appliedBrake_command _ _, hproven⟩
  simp only [Tsq.arrived, State.atApply, updTsq_tsq, csilent]

/-- A move that ends at the sample (R122). -/
theorem move_ends {s : State} (hc : (sampleEnd s).obs.causes = []) (hs : s.tsq.state = .inspecting)
    (hstep : s.tsq.step = some .holding) (hp : s.obs.applyPending = false) (hn : (sampleEnd s).standstill = true)
    (hw : ¬ sbkHasToProve s) :
    let t := sampleEnd s
    t.tsq.state = .outOfService ∧ t.tsq.step = none ∧ t.tsq.move = none ∧ t.tsq.driveRequest = false ∧
    t.obs.envelope = false ∧ t.obs.applyPending = false ∧
    t.obs.brakes.sbk.command = .applied ∧ t.obs.brakes.sbk.proof = .proven := by
  have ha := askedAt_from hc (.inr ⟨hs, hstep⟩)
  obtain ⟨ht, ho⟩ := ha.holding hn hs hstep hp
  obtain ⟨⟨cstate, cstep, -⟩, -, ⟨-, hproof, -⟩, -, -⟩ := ha
  have hproven := hproof.trans (not_not.mp hw)
  rw [applyRequest_stops hproven ⟨cstate.trans hs, cstep.trans hstep⟩] at ht ho
  obtain ⟨rt, ro, -⟩ := moveEnd_ended (s := sbkRequested false (askedAt s))
    (by rw [(sbkRequested_record _ _).1]; exact cstate.trans hs)
  rw [rt] at ht
  rw [ro, (sbkRequested_record _ _).2] at ho
  dsimp only
  rw [ht, ho]
  exact ⟨rfl, rfl, rfl, rfl, rfl, rfl, appliedBrake_command _ _, hproven⟩

/-- The records of both cars after an arrival test (R51). -/
theorem arrived_record (s : State) (k : Nat) (c : Car) :
    ∃ r, (((s.cpt.arrived (fun c => arrivalOf s c k)).cars).get c).arrival = some r ∧ r.stopIndex = k ∧
      r.error = s.estimate c - s.lts.stopMark c k ∧
      r.result = (if s.lts.hasPlatform c k = false then .noPlatform
        else if s.rmu.known = true ∧ (r.error.natAbs : Int) ≤ s.lts.platformWindow then .aligned
        else .misaligned) ∧
      (((s.cpt.arrived (fun c => arrivalOf s c k)).cars).get c).offset = (s.cpt.cars.get c).offset := by
  refine ⟨arrivalOf s c k, ?_, rfl, rfl, arrivalOf_result s c k, ?_⟩ <;> cases c <;> rfl

/-- Settles O23: the apply request at standstill, and SBK's proof that ends an arrival or a move. -/
theorem arrivalEndsStopped : Obligations.ArrivalEndsStopped := by
  refine ⟨fun s k g hs hstep hk hg hp hl hc hr => ⟨_, arrival_proven hs hstep hp hl hc hr, ?_⟩,
    fun s hs hstep hp hl hc hr => ⟨_, move_proven hs hstep hp hl hc hr, ?_⟩, fun s t hexec hcauses => ?_⟩
  · obtain ⟨htsq, hobs⟩ := arrivalEnd_record (s := s.sbkDropped) hs hk
    obtain ⟨href, hcpt, hevents, hrmu, ⟨u, hdoors⟩, hloads, hbatches, hlts, hclocks⟩ :=
      arrivalEnd_ended (s := s.sbkDropped) hs hk hg
    refine ⟨htsq, by rw [hobs]; rfl, by rw [hobs], href.1, href.2, fun c => ?_, fun p => ?_, hrmu, by rw [hobs]; rfl,
      hdoors.released_iff, hloads, hbatches, hlts, hclocks⟩
    · rw [hcpt]
      exact arrived_record s.sbkDropped g.stopIndex c
    · rw [hcpt]
      refine (hevents.port p).trans ?_
      simp [State.misaligned, Cpt.arrived, PerCar.get]
      rfl
  · obtain ⟨htsq, hobs, hmore⟩ := moveEnd_ended (s := s.sbkDropped) hs
    exact ⟨htsq, by rw [hobs]; simp only [State.sbkDropped, hl], hmore⟩
  · have ht : t = sampleEnd s := by
      rw [exec_measurementSample_supervised s] at hexec
      cases hexec
      rfl
    subst ht
    refine ⟨fun hwhere hn => ?_, fun hwhere hn hw => ?_, fun k hat hk hn hw => ?_, fun hat hp hn hw => ?_, fun hat hp => ?_⟩
    · have ha := askedAt_from hcauses (hwhere.imp (·.1) id)
      obtain ⟨ht, ho⟩ := ha.moving hn
      rw [ht, ho]
      exact ⟨ha.tsq.1, ha.tsq.2.1, ha.pending, ha.sbk.1⟩
    · rcases hwhere with ⟨hs, hstep⟩ | ⟨⟨hs, hstep⟩, hp⟩
      · rw [if_pos hs]
        exact arrival_waits hcauses hs hstep hn hw
      · rw [if_neg (by simp [hs])]
        exact move_waits hcauses hs hstep hp hn hw
    · exact arrival_ends hcauses hat.1 hat.2 hk hn hw
    · exact move_ends hcauses hat.1 hat.2 hp hn hw
    · have ha := askedAt_from hcauses (.inr hat)
      obtain ⟨ht, ho⟩ := ha.asked hat.1 hp
      rw [ht, ho]
      exact ⟨ha.tsq.1.trans hat.1, ha.tsq.2.1.trans hat.2, ha.pending.trans hp, ha.sbk.1⟩

end Sys2Proof.Machine
end

section
/-! STOP and EMERGENCY (R113), the controlled stop (R88), and the stop latch at a sample (R87). -/

namespace Sys2Proof.Machine

/-! ### Causes of a sample are none of a STOP -/

theorem brakingOf_mono (l m : List CauseEntry) : (brakingOf l).code ≤ (brakingOf (l ++ m)).code := by
  induction m generalizing l with
  | nil => simp
  | cons e rest ih =>
    rw [List.append_cons]
    refine le_trans ?_ (ih (l ++ [e]))
    rw [brakingOf_append, Braking.max_code]
    exact Nat.le_max_left _ _

/-- From s to t a cause list has stayed, or has put SERVICE or EMERGENCY braking in force (R86). -/
def QuietOrRaised (s t : State) : Prop :=
  t.obs.causes = s.obs.causes ∨ (s.obs.causes <+: t.obs.causes ∧ Braking.service.code ≤ t.braking.code)

theorem QuietOrRaised.of_causes {s t : State} (h : t.obs.causes = s.obs.causes) : QuietOrRaised s t := .inl h

theorem QuietOrRaised.trans {s t u : State} (h : QuietOrRaised s t) (h' : QuietOrRaised t u) : QuietOrRaised s u := by
  rcases h' with h' | ⟨hp', hb'⟩
  · rcases h with h | ⟨hp, hb⟩
    · exact .inl (h'.trans h)
    · exact .inr ⟨h' ▸ hp, by rwa [State.braking, h']⟩
  · have hp : s.obs.causes <+: t.obs.causes := by
      rcases h with h | ⟨hp, -⟩
      · exact h ▸ List.prefix_refl _
      · exact hp
    exact .inr ⟨hp.trans hp', hb'⟩

theorem giveCause_quietOrRaised {k : CauseKind} (src : CauseSource) (s : State) (h : k ≠ .stopDemand) :
    QuietOrRaised s (giveCause k src s) := by
  have hsev : Braking.service.code ≤ k.severity.code := by
    revert h
    cases k <;> decide
  by_cases ht : s.takesCause k = true
  · refine .inr ⟨giveCause_prefix _ _ _, ?_⟩
    rw [State.braking, giveCause_causes, if_pos ht, brakingOf_append, Braking.max_code]
    exact le_trans hsev (Nat.le_max_right _ _)
  · rw [giveCause_not src (by simpa using ht)]
    exact .inl rfl

theorem causeIf_quietOrRaised (cond : Bool) {k : CauseKind} (s : State) (h : k ≠ .stopDemand) :
    QuietOrRaised s (causeIf cond k s) := by
  unfold causeIf
  split
  · exact giveCause_quietOrRaised _ s h
  · exact .inl rfl

theorem testDisagreement_quietOrRaised (s : State) : QuietOrRaised s (testDisagreement s) := by
  unfold testDisagreement
  split
  · split
    · unfold recordDisagreement
      refine QuietOrRaised.trans ?_ (giveCause_quietOrRaised (k := .encoderDisagree) _ _ (by decide))
      exact .of_causes rfl
    · exact .inl rfl
  · exact .inl rfl

theorem testLevels_quietOrRaised (s : State) : QuietOrRaised s (testLevels s) := by
  unfold testLevels
  split
  · exact ((QuietOrRaised.of_causes (excursionMark_causes _ s)).trans (causeIf_quietOrRaised _ _ (by decide))).trans
      (causeIf_quietOrRaised _ _ (by decide))
  · exact .inl rfl

theorem testRollback_quietOrRaised (s : State) : QuietOrRaised s (testRollback s) :=
  (QuietOrRaised.of_causes rfl).trans (causeIf_quietOrRaised _ _ (by decide))

theorem rmuSample_quietOrRaised (s : State) : QuietOrRaised s (rmuSample s) := by
  have hsample : QuietOrRaised s (s.updRmu (Rmu.sample s.lts)) := .of_causes rfl
  unfold rmuSample
  exact (hsample.trans (testDisagreement_quietOrRaised _)).trans (causeIf_quietOrRaised _ _ (by decide))

theorem beforeOverrun_quietOrRaised (s : State) : QuietOrRaised s (beforeOverrun s) := by
  have h := testLevels_quietOrRaised s
  exact (h.trans (causeIf_quietOrRaised _ _ (by decide))).trans (testRollback_quietOrRaised _)

/-- A sample lists nothing new, or raises the braking above STOP (R86). -/
theorem sampleEnd_quietOrRaised (s : State) : QuietOrRaised s (sampleEnd s) := by
  have h1 : QuietOrRaised s (rmuSample (tick s)) :=
    (QuietOrRaised.of_causes (s := s) (t := tick s) rfl).trans (rmuSample_quietOrRaised _)
  have h2 : QuietOrRaised s (supervised s) := h1.trans (.of_causes (by simp [supervised]))
  have h3 := (beforeOverrun_quietOrRaised (supervised s)).trans
    (causeIf_quietOrRaised (supervised s).overran (k := .overrun) _ (by decide))
  exact (h2.trans h3).trans (.of_causes (sampleEnd_causes s))

/-- A sample at whose end STOP braking is in force has listed nothing new. -/
theorem sampleEnd_stop_quiet {s : State} (h : (sampleEnd s).braking = .stop) :
    (sampleEnd s).obs.causes = s.obs.causes := by
  rcases sampleEnd_quietOrRaised s with hq | ⟨-, hb⟩
  · exact hq
  · rw [h] at hb
    exact absurd hb (by decide)

/-! ### What the TSQ's part of a sample leaves of the brakes and the drive request -/

/-- From s to t an apply request at most has been acted on (R92, R120, R122). -/
structure SbkAsked (s t : State) : Prop where
  still : t.standstill = s.standstill
  latch : t.obs.stopLatch = s.obs.stopLatch
  drive : t.tsq.driveRequest = s.tsq.driveRequest ∨ t.tsq.driveRequest = false
  ebk : t.obs.brakes.ebk = s.obs.brakes.ebk
  sbk : t.obs.brakes.sbk = s.obs.brakes.sbk ∨ t.obs.brakes.sbk = appliedBrake s s.obs.brakes.sbk

theorem sbkRequested_asked (w : Bool) (s : State) : SbkAsked s (sbkRequested w s) := by
  obtain ⟨ht, ho⟩ := sbkRequested_record w s
  exact ⟨by simp [State.standstill, ho], by rw [ho], .inl (by rw [ht]), by rw [ho], .inr (by rw [ho])⟩

/-- The end of an arrival or a move drops the drive request and leaves the brakes (R119, R120, R122). -/
theorem arrivalEnd_rest {s : State} (hs : s.tsq.state = .arriving) : (arrivalEnd s).tsq.driveRequest = false ∧
    (arrivalEnd s).obs.brakes = s.obs.brakes ∧ (arrivalEnd s).obs.stopLatch = s.obs.stopLatch := by
  obtain ⟨ht, -⟩ := stopArrived_record (s.tsq.target.getD 0) hs
  have harr : arrivalEnd s = if (stopArrived (s.tsq.target.getD 0) s).tsq.silent then
      changeTrip .outOfService none (stopArrived (s.tsq.target.getD 0) s) else stopArrived (s.tsq.target.getD 0) s := rfl
  rw [harr]
  split
  · refine ⟨changeTrip_no_request none rfl (by simp [ht]), by simp [stopArrived], by simp [stopArrived]⟩
  · exact ⟨by rw [ht], by simp [stopArrived], by simp [stopArrived]⟩

theorem moveEnd_rest {s : State} (hs : s.tsq.state = .inspecting) : (moveEnd s).tsq.driveRequest = false ∧
    (moveEnd s).obs.brakes = s.obs.brakes ∧ (moveEnd s).obs.stopLatch = s.obs.stopLatch := by
  refine ⟨changeTrip_no_request none rfl (by simp [hs]), by simp [moveEnd], by simp [moveEnd]⟩

theorem EndsTrip.asked {s t : State} (h : EndsTrip s t) : SbkAsked s t := by
  have hstill := h.still
  obtain ⟨ht, ho⟩ := sbkRequested_record false s
  obtain ⟨hd, hb, hl⟩ : t.tsq.driveRequest = false ∧ t.obs.brakes = (sbkRequested false s).obs.brakes ∧
      t.obs.stopLatch = (sbkRequested false s).obs.stopLatch := by
    cases h with
    | arrival hs => exact arrivalEnd_rest (by rw [ht]; exact hs)
    | move hs => exact moveEnd_rest (by rw [ht]; exact hs)
  exact ⟨hstill, by rw [hl, ho], .inr hd, by rw [hb, ho], .inr (by rw [hb, ho])⟩

theorem tsqSample_asked (s : State) : SbkAsked s (tsqSample s) := by
  obtain ⟨u, hu, h⟩ := tsqSample_ends s
  have hus : SbkAsked u (tsqSample s) := by
    rcases h with h | ⟨w, h⟩ | h
    · rw [h]
      exact ⟨rfl, rfl, .inl rfl, rfl, .inl rfl⟩
    · rw [h]
      exact sbkRequested_asked w u
    · exact h.asked
  rcases hu with rfl | rfl
  · exact hus
  · exact ⟨hus.still, hus.latch, hus.drive, hus.ebk, hus.sbk⟩

/-! ### The stop latch (R87) -/

/-- The latch at a sample is set once, under STOP braking at standstill (R87). -/
theorem latchStop_eq (s : State) : latchStop s = if s.braking = .stop ∧ s.standstill = true ∧ s.obs.stopLatch = false then
    restReference (applyBrake .sbk (dropDrive (s.updObs (fun o => { o with stopLatch := true })))) else s := by
  simp only [latchStop, Bool.not_eq_true']

/-- The end of a sample, of the state with its standstill counted. -/
theorem sampleEnd_latched (s : State) : (sampleEnd s).tsq = (tsqSample (followTarget (latchStop (counted s)))).tsq ∧
    (sampleEnd s).obs = (tsqSample (followTarget (latchStop (counted s)))).obs := by
  rw [sampleEnd_eq]
  exact ⟨by simp, by simp⟩

/-- What the latch reads, at the end of the sample. -/
theorem sampleEnd_reads (s : State) : (counted s).braking = (sampleEnd s).braking ∧
    (counted s).standstill = (sampleEnd s).standstill ∧ (counted s).obs.stopLatch = s.obs.stopLatch := by
  have hasked := tsqSample_asked (followTarget (latchStop (counted s)))
  refine ⟨?_, ?_, ?_⟩
  · rw [State.braking, State.braking, sampleEnd_causes]
    simp [counted]
  · rw [State.standstill, State.standstill, (sampleEnd_latched s).2]
    refine Eq.trans ?_ hasked.still.symm
    rw [latchStop_eq]
    split <;> simp [State.standstill]
  · simp [counted, supervised, beforeOverrun]

/-- The latch at the end of a sample (R87). -/
theorem sampleEnd_latch (s : State) : (sampleEnd s).obs.stopLatch =
    (if (sampleEnd s).braking = .stop ∧ (sampleEnd s).standstill = true ∧ s.obs.stopLatch = false then true
      else s.obs.stopLatch) := by
  obtain ⟨hb, hs, hl⟩ := sampleEnd_reads s
  have hf : (followTarget (latchStop (counted s))).obs.stopLatch = (latchStop (counted s)).obs.stopLatch := by simp
  rw [(sampleEnd_latched s).2, (tsqSample_asked _).latch, hf, latchStop_eq, hb, hs, hl]
  split
  · simp
  · exact hl

/-- The brakes when the latch is set or not, at a sample under STOP braking. -/
theorem counted_brakes {s : State} (h : (sampleEnd s).braking = .stop) : (counted s).lts = s.lts ∧
    (counted s).obs.brakes = (tick s).obs.brakes := by
  obtain ⟨hq, hc⟩ := sampled_quiet (sampleEnd_stop_quiet h)
  obtain ⟨-, -, -, -, -, -, -, hb⟩ := referred_quiet hq
  refine ⟨by simp [hc.lts, supervised_eq], ?_⟩
  rw [hc.brakes, ← hb, supervised_eq]
  simp

theorem appliedBrake_of_applied (s : State) {b : BrakeRecord} (h : b.command = .applied) : appliedBrake s b = b :=
  if_pos h

/-- The first sample at standstill under STOP braking (R87, R119). -/
theorem sampleEnd_latching {s : State} (hb : (sampleEnd s).braking = .stop) (hs : (sampleEnd s).standstill = true)
    (hl : s.obs.stopLatch = false) :
    let t := sampleEnd s
    t.tsq.driveRequest = false ∧ t.den = false ∧ t.obs.brakes.sbk.command = .applied ∧
    (s.obs.brakes.sbk.command = .lifted → t.obs.brakes.sbk = appliedBrake s s.obs.brakes.sbk) ∧
    t.obs.brakes.ebk.command = s.obs.brakes.ebk.command := by
  obtain ⟨rb, rs, rl⟩ := sampleEnd_reads s
  obtain ⟨hlts, hbrakes⟩ := counted_brakes hb
  obtain ⟨ht, ho⟩ := sampleEnd_latched s
  have hlatch : latchStop (counted s) =
      restReference (applyBrake .sbk (dropDrive ((counted s).updObs (fun o => { o with stopLatch := true })))) := by
    rw [latchStop_eq, if_pos ⟨rb.trans hb, rs.trans hs, rl.trans hl⟩]
  have hL : (followTarget (latchStop (counted s))).obs.brakes =
      (counted s).obs.brakes.set .sbk (appliedBrake (counted s) (counted s).obs.brakes.sbk) := by
    rw [hlatch]
    simp [applyBrake_brakes, PerBrake.get, appliedBrake]
  have hD : (followTarget (latchStop (counted s))).tsq.driveRequest = false := by
    rw [hlatch]
    simp [dropDrive]
  have hasked := tsqSample_asked (followTarget (latchStop (counted s)))
  obtain ⟨hproof, htick⟩ := appliedBrake_tick s s.obs.brakes.sbk (tickTimer s.obs.brakes.sbk.timer)
  have hsbk : (sampleEnd s).obs.brakes.sbk = appliedBrake (counted s) (counted s).obs.brakes.sbk := by
    rw [ho]
    rcases hasked.sbk with h | h <;> rw [h, hL]
    · rfl
    · exact appliedBrake_of_applied _ (appliedBrake_command _ _)
  have hdrive : (sampleEnd s).tsq.driveRequest = false := by
    rw [ht]
    rcases hasked.drive with h | h
    · rw [h, hD]
    · exact h
  refine ⟨hdrive, by simp [State.den, hdrive], by rw [hsbk, appliedBrake_command], fun h => ?_, ?_⟩
  · rw [hsbk, appliedBrake_congr hlts, hbrakes]
    exact htick h
  · rw [ho, hasked.ebk, hL, hbrakes]
    rfl

/-- A tripped line whose latch stands, or that still moves, keeps its brakes and its drive request (R87). -/
theorem sampleEnd_tripped {s : State} (hb : (sampleEnd s).braking = .stop)
    (hn : (sampleEnd s).standstill = false ∨ s.obs.stopLatch = true) (hs : s.tsq.state = .tripped) :
    let t := sampleEnd s
    t.obs.brakes.sbk.command = s.obs.brakes.sbk.command ∧ t.obs.brakes.ebk.command = s.obs.brakes.ebk.command ∧
      t.tsq.driveRequest = s.tsq.driveRequest := by
  obtain ⟨hq, hc⟩ := sampled_quiet (sampleEnd_stop_quiet hb)
  obtain ⟨rt, -⟩ := referred_quiet hq
  obtain ⟨-, rs, rl⟩ := sampleEnd_reads s
  obtain ⟨-, hbrakes⟩ := counted_brakes hb
  obtain ⟨ht, ho⟩ := sampleEnd_latched s
  have hlatch : latchStop (counted s) = counted s := by
    rw [latchStop_eq, if_neg]
    rintro ⟨-, h1, h2⟩
    rw [rs] at h1
    rw [rl] at h2
    rcases hn with h | h
    · rw [h] at h1
      cases h1
    · rw [h] at h2
      cases h2
  have href : (referred s).tsq.state = .tripped := by rw [rt, ← hs]
  have hsup : (supervised s).tsq = (referred s).tsq :=
    (srgSample_elsewhere (u := referred s) (by rw [href]; decide) (fun h => by rw [href] at h; cases h.1)).1
  have hstate : (counted s).tsq.state = .tripped := by rw [hc.tsq, hsup, href]
  have hidle : tsqSample (followTarget (latchStop (counted s))) = followTarget (latchStop (counted s)) :=
    tsqSample_idle (by simp [hlatch, hstate]) (by simp [hlatch, hstate])
  have hbr : (sampleEnd s).obs.brakes = (tick s).obs.brakes := by rw [ho, hidle, hlatch, ← hbrakes]; simp
  have htsq : (sampleEnd s).tsq = (referred s).tsq := by rw [ht, hidle, hlatch, ← hsup, ← hc.tsq]; simp
  dsimp only
  rw [hbr, htsq, rt]
  exact ⟨rfl, rfl, rfl⟩

/-! ### STOP and EMERGENCY taken (R113) -/

theorem exec_stop {p : PortId} {s : State} (hp : permitted p 6 = true) : exec (.stop p) s = .next
    ((takeDemand .stopDemand p (s.ready p)).2.answered p 6 (takeDemand .stopDemand p (s.ready p)).1.encode) :=
  exec_plain (c := .stop p) (r := .stop) (x := takeDemand .stopDemand p (s.ready p)) rfl hp rfl rfl

theorem exec_emergency {p : PortId} {s : State} (hp : permitted p 7 = true) : exec (.emergency p) s = .next
    ((takeDemand .emergencyDemand p (s.ready p)).2.answered p 7 (takeDemand .emergencyDemand p (s.ready p)).1.encode) :=
  exec_plain (c := .emergency p) (r := .emergency) (x := takeDemand .emergencyDemand p (s.ready p)) rfl hp rfl rfl

/-- The first cause, that of a STOP (R84, R87). -/
theorem giveCause_stop {src : CauseSource} {s : State} (h : s.takesCause .stopDemand = true) (he : s.obs.causes = []) :
    giveCause .stopDemand src s = trip (stopAction (joinCause .stopDemand src s)) := by
  have hb (u : State) (hu : u.obs.causes = (joinCause .stopDemand src s).obs.causes) : brakingAction .none u = u := by
    have hstop : u.braking = .stop := by
      rw [State.braking, hu]
      show (joinCause .stopDemand src s).braking = .stop
      rw [joinCause_braking, braking_of_no_cause he]
      rfl
    rw [brakingAction, hstop]
  simp only [State.takesCause, Bool.and_eq_true, Bool.not_eq_true'] at h
  simp only [giveCause, h.1, h.2, he, Bool.not_true, Bool.or_false, Bool.false_eq_true, if_false, if_true,
    show CauseKind.stopDemand.severity = .stop from rfl]
  exact congrArg trip (hb _ (by unfold stopAction; split <;> simp [controlledStop]))

theorem trip_driveRequest (s : State) : (trip s).tsq.driveRequest = s.tsq.driveRequest := by
  by_cases h : s.tsq.state = .tripped
  · rw [trip, changeTrip_same (s := s.updObs _) none h]
    rfl
  · rw [trip, changeTrip_tsq (s := s.updObs _) none h]
    simp [TripState.keepsDrive]

/-- The trip of a line that was not TRIPPED keeps the controlled stop (R65, R88). -/
theorem trip_controlledStop {s : State} (h : s.tsq.state ≠ .tripped) : (trip s).srg.ctlTarget = s.srg.ctlTarget ∧
    (trip s).obs.endpoint = s.obs.endpoint ∧ (trip s).obs.rE2 = s.obs.rE2 ∧ (trip s).obs.ctlStop = s.obs.ctlStop := by
  have hne : (s.updObs (fun o => { o with trippedFrom := some s.tsq.state })).tsq.state ≠ .tripped := h
  have hobs := changeTrip_obs none hne
  have hsrg := changeTrip_srg none hne
  refine ⟨?_, ?_, ?_, ?_⟩
  · rw [trip, hsrg, srgOnTrip]
    simp [Srg.onTrip, h]
  all_goals
    rw [trip, hobs]
    simp [obsOnTrip, TripState.endsTravel]

/-- A STOP taken on a running trip forms the controlled stop (R88, R65, R48). -/
theorem stop_running {src : CauseSource} {u : State} (ht : u.takesCause .stopDemand = true) (hr : u.tsq.state = .running)
    (he : u.obs.causes = []) :
    let t := giveCause .stopDemand src u
    let v := u.srg.vRef / 1000
    let q : Int := (v * v / (2 * u.aDec) : Nat)
    t.srg.ctlTarget = some (ahead u.obs.direction u.xs q) ∧
    t.obs.endpoint = some (ahead u.obs.direction u.xs (q + u.lts.overrunAllow)) ∧
    t.obs.rE2 = 2000 * (q + u.lts.overrunAllow) ∧ t.obs.ctlStop = true ∧
    t.cpt.target = u.cpt.target.map (fun g => { g with frozen := true }) := by
  have hj : (joinCause .stopDemand src u).tsq.state = .running := by simpa using hr
  have hact : stopAction (joinCause .stopDemand src u) = controlledStop (joinCause .stopDemand src u) := by
    rw [stopAction, hj]
  obtain ⟨h1, h2, h3, h4⟩ := trip_controlledStop (s := controlledStop (joinCause .stopDemand src u)) (by simp [hr])
  dsimp only
  rw [giveCause_stop ht he, hact, h1, h2, h3, h4]
  exact ⟨rfl, rfl, rfl, rfl, by simp [controlledStop]⟩

/-- A cause leaves the tables, the RMU, the cars, the loads and the links (R83). -/
theorem giveCause_rest (k : CauseKind) (src : CauseSource) (u : State) :
    let t := giveCause k src u
    t.lts = u.lts ∧ t.rmu = u.rmu ∧ t.cpt.cars = u.cpt.cars ∧ t.bcu.loads = u.bcu.loads ∧
      t.lpu.carLinks = u.lpu.carLinks ∧ t.lpu.gateLinks = u.lpu.gateLinks ∧ SameClocks u t := by
  obtain ⟨hcar, hgate⟩ := sansEvents_eq (giveCause_ports k src u)
  exact ⟨by simp, by simp, by simp, by simp, hcar, hgate.1, by simp [SameClocks]⟩

theorem takesCause_of {k : CauseKind} {u : State} (hk : u.hasCause k = false) (hc : u.lts.committed = true) :
    u.takesCause k = true := by simp [State.takesCause, hc, hk]

theorem stopAction_brakes (s : State) : (stopAction s).obs.brakes = s.obs.brakes := by
  unfold stopAction
  split <;> simp [controlledStop]

/-- STOP taken, the cause not listed yet (R113, R87). -/
theorem stop_taken {src : CauseSource} {u : State} (hk : u.hasCause .stopDemand = false) (hc : u.lts.committed = true) :
    let t := giveCause .stopDemand src u
    CauseJoined .stopDemand src u t ∧
    (u.obs.causes = [] → t.obs.brakes = u.obs.brakes ∧ t.tsq.driveRequest = u.tsq.driveRequest) := by
  refine ⟨giveCause_joined src hc hk, fun he => ?_⟩
  rw [giveCause_stop (takesCause_of hk hc) he, trip_brakes, trip_driveRequest, stopAction_brakes]
  simp [joinCause]

/-- EMERGENCY taken, the cause not listed yet (R113, R90). -/
theorem emergency_taken {src : CauseSource} {u : State} (hk : u.hasCause .emergencyDemand = false)
    (hc : u.lts.committed = true) :
    let t := giveCause .emergencyDemand src u
    CauseJoined .emergencyDemand src u t ∧ (u.braking ≠ .emergency → EmergencyBraked t) ∧ t.cpt = u.cpt :=
  ⟨giveCause_joined src hc hk,
    fun hb => (giveCause_emergency src (takesCause_of hk hc) rfl hb).1,
    (giveCause_envelope src u (by decide)).2.2.2.2.2.2.2.2⟩

/-- A demand refused, or taken while its cause is listed (R113, R83). -/
theorem takeDemand_again {k : CauseKind} {p : PortId} {u : State} (hs : u.tsq.state ≠ .configuring)
    (hk : u.hasCause k = true) : takeDemand k p u = (.ok, u) := by
  rw [takeDemand, if_neg hs, giveCause_not _ (by simp [State.takesCause, hk])]

/-- Settles O38: STOP and EMERGENCY taken, and the stop latch at a sample. -/
theorem demandsTrip : Obligations.DemandsTrip := by
  refine ⟨fun p s hp => ?_, fun p s hp => ?_, fun s hb => ⟨sampleEnd s, exec_measurementSample_supervised s, ?_, ?_, ?_⟩⟩
  · intro u
    rw [exec_stop hp]
    refine ⟨fun hs => ?_, fun hs hk => ?_, fun hs hk hc => ?_⟩
    · rw [takeDemand, if_pos hs]
      rfl
    · rw [takeDemand_again hs hk]
      rfl
    · rw [takeDemand, if_neg hs]
      obtain ⟨hj, hb⟩ := stop_taken (src := .port p) hk hc
      obtain ⟨r1, r2, r3, r4, r5, r6, r7⟩ := giveCause_rest .stopDemand (.port p) u
      exact ⟨_, rfl, hj, hb, r1, r2, r3, r4, r5, r6, r7,
        fun hr he => stop_running (takesCause_of hk hc) hr he⟩
  · intro u
    rw [exec_emergency hp]
    refine ⟨fun hs => ?_, fun hs hk => ?_, fun hs hk hc => ?_⟩
    · rw [takeDemand, if_pos hs]
      rfl
    · rw [takeDemand_again hs hk]
      rfl
    · rw [takeDemand, if_neg hs]
      obtain ⟨hj, hb, hcpt⟩ := emergency_taken (src := .port p) hk hc
      obtain ⟨r1, r2, -, r4, r5, r6, r7⟩ := giveCause_rest .emergencyDemand (.port p) u
      exact ⟨_, rfl, hj, hb, r1, r2, hcpt, r4, r5, r6, r7⟩
  · intro h1 h2 h3
    exact ⟨by rw [sampleEnd_latch, if_pos ⟨h1, h2, h3⟩], sampleEnd_latching h1 h2 h3⟩
  · intro h
    rw [sampleEnd_latch, if_neg]
    rintro ⟨h1, h2, h3⟩
    rcases h with h | h | h
    · exact h h1
    · rw [h] at h2
      cases h2
    · rw [h] at h3
      cases h3
  · exact fun h1 h2 h3 => sampleEnd_tripped h1 h2 h3

end Sys2Proof.Machine
end

section
/-! PASSAGE (R149, R146, R148). -/

namespace Sys2Proof.Machine

theorem exec_passage (st : Station) (gate ref persons : Byte) (s : State) :
    exec (.passage st.port gate ref persons) s = .next
      ((takePassage st gate.toNat ref.toNat persons.toNat (s.ready st.port)).2.answered st.port 22
        (takePassage st gate.toNat ref.toNat persons.toNat (s.ready st.port)).1) := by
  refine exec_fixed (c := .passage st.port gate ref persons) (r := .passage gate ref persons) rfl ?_ rfl ?_
  · cases st <;> rfl
  · cases st <;> rfl

/-- The entry that a passage names (R149). -/
theorem entryFor_some {b : Batch} {gate ref : Nat} {e : Admission} (he : e ∈ b.pending)
    (hn : e.reference = ref ∧ e.gate = gate) (hu : ∀ x ∈ b.pending, x.reference = e.reference → x = e) :
    b.entryFor gate ref = some e := by
  cases hf : b.entryFor gate ref with
  | none =>
    rw [Batch.entryFor, List.find?_eq_none] at hf
    exact absurd (decide_eq_true hn) (hf e he)
  | some x =>
    rw [Batch.entryFor] at hf
    have hx := List.find?_some hf
    rw [decide_eq_true_eq] at hx
    rw [hu x (List.mem_of_find?_eq_some hf) (hx.1.trans hn.1.symm)]

theorem entryFor_none {b : Batch} {gate ref : Nat}
    (h : ∀ e ∈ b.pending, decide (e.reference = ref ∧ e.gate = gate) = false) : b.entryFor gate ref = none := by
  rw [Batch.entryFor, List.find?_eq_none]
  intro e he
  rw [h e he]
  simp

/-- A batch under a passage closes where it was CLOSING and keeps no entry (R146). -/
theorem passedUnder_eq (e : Admission) (persons : Nat) (b : Batch) :
    let rest := b.pending.filter (fun x => decide (x.reference ≠ e.reference))
    let ends := decide (b.state = .closing ∧ rest = [])
    b.passedUnder e persons = { b with
      passed := b.passed + min persons e.persons, pending := rest
      state := if ends then .closed else b.state, settle := if ends then none else b.settle } := by
  have hends : (decide (b.state = .closing) && (b.pending.filter (fun x => decide (x.reference ≠ e.reference))).isEmpty) =
      decide (b.state = .closing ∧ b.pending.filter (fun x => decide (x.reference ≠ e.reference)) = []) := by
    rw [Bool.decide_and]
    cases b.pending.filter (fun x => decide (x.reference ≠ e.reference)) <;> rfl
  simp only [Batch.passedUnder, hends]

/-- A batch changes its state in a passage where it closes (R153). -/
theorem passedUnder_changes (e : Admission) (persons : Nat) (b : Batch) :
    decide ((b.passedUnder e persons).state ≠ b.state) =
      decide (b.state = .closing ∧ b.pending.filter (fun x => decide (x.reference ≠ e.reference)) = []) := by
  rw [passedUnder_eq]
  by_cases h : b.state = .closing ∧ b.pending.filter (fun x => decide (x.reference ≠ e.reference)) = []
  · rw [decide_eq_true h]
    simp [h.1]
  · rw [decide_eq_false h]
    simp

/-- The refusals of a PASSAGE in their order (R149). -/
theorem takePassage_eq (st : Station) (gate ref persons : Byte) (u : State) :
    takePassage st gate.toNat ref.toNat persons.toNat u =
      if decide (7 < gate.toNat ∨ ref.toNat = 0 ∨ 15 < persons.toNat) = true then ([3], u)
      else if u.tsq.state = .configuring then ([1], u)
      else match (u.bcu.batches.get st).entryFor gate.toNat ref.toNat with
        | none => ([8, BitVec.ofNat 8 (u.bcu.batches.get st).state.code,
            BitVec.ofNat 8 (u.bcu.batches.get st).platformCount], u)
        | some e =>
          let b' := (u.bcu.batches.get st).passedUnder e persons.toNat
          ([0, BitVec.ofNat 8 b'.state.code, BitVec.ofNat 8 b'.passed, BitVec.ofNat 8 b'.platformCount],
            endWarningStep (setBatch st b' u)) := by
  have hbad : (7 < gate.toNat ∨ ref.toNat < 1 ∨ 255 < ref.toNat ∨ 15 < persons.toNat) ↔
      decide (7 < gate.toNat ∨ ref.toNat = 0 ∨ 15 < persons.toNat) = true := by
    have hr := ref.isLt
    rw [decide_eq_true_eq]
    omega
  rw [takePassage]
  simp only [hbad]
  rfl

/-- Settles O54: the conditions of PASSAGE in their order, the count, and the end of step WARNING with the last batch. -/
theorem passageCounts : Obligations.PassageCounts := by
  intro st gate ref persons s p u b bad named
  rw [exec_passage, takePassage_eq]
  refine ⟨fun h => ?_, fun h hs => ?_, fun h hs hnone => ?_, fun h hs e he hn hu => ?_⟩
  · rw [if_pos h]
  · rw [if_neg (by rw [show decide _ = false from h]; simp), if_pos hs]
  · have hf : b.entryFor gate.toNat ref.toNat = none := entryFor_none hnone
    rw [if_neg (by rw [show decide _ = false from h]; simp), if_neg hs]
    rw [show (s.ready st.port).bcu.batches.get st = b from rfl, hf]
  · intro rest ends b' bcu v reply
    have hf : b.entryFor gate.toNat ref.toNat = some e := entryFor_some he (of_decide_eq_true hn) hu
    have hb' : b.passedUnder e persons.toNat = b' := passedUnder_eq e persons.toNat b
    have hset : setBatch st b' u = v := by
      rw [setBatch_eq]
      have hc : decide (b'.state ≠ (u.bcu.batches.get st).state) = ends := by
        rw [← hb']
        exact passedUnder_changes e persons.toNat b
      rw [hc]
    rw [if_neg (by rw [show decide _ = false from h]; simp), if_neg hs]
    rw [show (s.ready st.port).bcu.batches.get st = b from rfl, hf]
    dsimp only
    rw [hb', show s.ready st.port = u from rfl, hset]
    refine ⟨fun hgo => ?_, fun k hd hstep hw hr ho hb => ?_⟩
    · rw [endWarningStep_not]
      rw [← Bool.not_eq_true, warningStepDone_iff]
      rintro ⟨h1, h2, h3, h4⟩
      rcases hgo with hn | hn | hn | ⟨hr, ht, x, hn⟩
      · exact hn h1
      · exact hn h2
      · exact Bool.noConfusion (hn.symm.trans h3)
      · rcases h4 with hb | hb | hb
        · exact Bool.noConfusion (hr.symm.trans hb)
        · exact Bool.noConfusion (ht.symm.trans hb)
        · exact hn ((bothClosed_iff _).mp hb x)
    · refine ⟨_, rfl, warningStepEnded (warningStepDone_started hd hstep hw ho fun ht => ?_) hr ho⟩
      exact (bothClosed_iff _).mpr (hb ht)

end Sys2Proof.Machine
end

section
/-! The key of a ticket, the match of the rule table and its hit counters (R157 to R165). -/

namespace Sys2Proof.Machine

/-! ### A rule that matches a key (R163) -/

theorem and_eq_iff {n : Nat} (v w m : BitVec n) : v &&& m = w &&& m ↔ agreesUnder m w v := by
  constructor
  · intro h i _ hm
    have hi := congrArg (fun x => x.getLsbD i) h
    simpa [hm] using hi
  · intro h
    apply BitVec.eq_of_getLsbD_eq
    intro i hi
    have hb := h i hi
    rw [BitVec.getLsbD_and, BitVec.getLsbD_and]
    cases hm : m.getLsbD i
    · simp
    · rw [hb hm]

theorem Masked.agrees_iff (m : Masked) (v : Byte) : m.agrees v = true ↔ agreesUnder m.mask m.value v := by
  rw [Masked.agrees, decide_eq_true_eq, and_eq_iff]

theorem MaskedHalf.agrees_iff (m : MaskedHalf) (v : Half) : m.agrees v = true ↔ agreesUnder m.mask m.value v := by
  rw [MaskedHalf.agrees, decide_eq_true_eq, and_eq_iff]

theorem Cared.agrees_iff (c : Cared) (v : Nat) : c.agrees v = true ↔ c.care = 0 ∨ c.value.toNat = v := by
  simp [Cared.agrees]

/-- A rule agrees with a key as R163 says. -/
theorem agrees_iff (r : RuleEntry) (k : Key) : r.agrees k = true ↔ KeyMatched r k := by
  simp only [RuleEntry.agrees, KeyMatched, Bool.and_eq_true, decide_eq_true_eq, Masked.agrees_iff,
    MaskedHalf.agrees_iff, Cared.agrees_iff, and_assoc]

/-! ### The key (R157 to R161) -/

/-- A source of a range checker, by its code (R160). -/
theorem sourceValue_eq (source : Byte) (t : Ticket) (count : Nat) (tod : Option Nat) :
    sourceValue source t count tod =
      ([tod, some t.product.toNat, some t.groupSize.toNat, some t.rides.toNat, some t.days.toNat, some count,
        some t.concession.toNat][source.toNat]?).join := by
  unfold sourceValue
  split
  next h => rw [h]; rfl
  next h => rw [h]; rfl
  next h => rw [h]; rfl
  next h => rw [h]; rfl
  next h => rw [h]; rfl
  next h => rw [h]; rfl
  next h => rw [h]; rfl
  next h0 h1 h2 h3 h4 h5 h6 =>
    have hlen : 7 ≤ source.toNat := by
      simp only [imp_false] at h0 h1 h2 h3 h4 h5 h6
      omega
    rw [List.getElem?_eq_none (by simpa using hlen)]
    rfl

/-- A mark of the range mask (R161). -/
theorem rangeMark_iff (e : Slot RangeEntry) (t : Ticket) (count : Nat) (tod : Option Nat) :
    rangeMark e t count tod = true ↔ e.valid = true ∧ ∃ v ∈ sourceValue e.val.source t count tod,
      e.val.low.toNat ≤ v ∧ v ≤ e.val.high.toNat := by
  unfold rangeMark
  split
  next v h => simp [h]
  next h => simp [h]

theorem rangeMask_getLsbD (lts : Lts) (t : Ticket) (count : Nat) (tod : Option Nat) (k : Fin 8) :
    (rangeMask lts t count tod).getLsbD k = rangeMark (lts.ranges.get k) t count tod := by
  rw [rangeMask, BitVec.getLsbD_setWidth, BitVec.getLsbD_ofBoolListLE]
  simp
  rfl

/-- The stage-1 key is formed by R157 to R161. -/
theorem stage1Key_formed (st : Station) (tk : Ticket) (u : State) : KeyFormed st tk u (stage1Key st tk u) := by
  refine ⟨rfl, ?_, rfl, rfl, rfl, rfl, rfl, ?_, ?_, ?_, rfl, rfl, ?_, fun k => ?_⟩
  · cases st <;> rfl
  · cases st <;> rfl
  · simp only [stage1Key, ridesFlagOf, ← BitVec.toNat_inj]
    rfl
  · simp only [stage1Key, directionMatchOf, ← BitVec.toNat_inj]
    cases st <;> rfl
  · simp only [stage1Key, fillLevelOf, gt_iff_lt]
    rfl
  · rw [stage1Key, rangeMask_getLsbD, rangeMark_iff, sourceValue_eq]
    rfl

/-! ### The search of the rule table (R163, R164) -/

theorem searchRules_none {k : Key} {l : List RuleSlot} (h : ∀ e ∈ l, ruleHit e k = false) (n : Nat) :
    searchRules k n l = none := by
  induction l generalizing n with
  | nil => rfl
  | cons e rest ih =>
    have he : (e.slot.valid && e.slot.val.agrees k) = false := h e (by simp)
    rw [searchRules, he, if_neg (by simp)]
    exact ih (fun x hx => h x (by simp [hx])) _

theorem searchRules_some {k : Key} {l : List RuleSlot} {i : Nat} (hi : i < l.length) (h : ruleHit l[i] k = true)
    (hlow : ∀ j (hj : j < i), ruleHit (l[j]'(by omega)) k = false) (n : Nat) :
    searchRules k n l = some (n + i, l[i].slot.val) := by
  induction l generalizing i n with
  | nil => simp at hi
  | cons e rest ih =>
    cases i with
    | zero =>
      have he : (e.slot.valid && e.slot.val.agrees k) = true := h
      rw [searchRules, he, if_pos rfl]
      rfl
    | succ i =>
      have he : (e.slot.valid && e.slot.val.agrees k) = false := hlow 0 (by omega)
      rw [searchRules, he, if_neg (by simp), ih (by simpa using hi) (by simpa using h)
        (fun j hj => by simpa using hlow (j + 1) (by omega)) (n + 1)]
      simp only [List.getElem_cons_succ]
      congr 2
      omega

theorem matchRule_none {t : Lts} {k : Key} (h : NoHit t k) : matchRule t k = none := searchRules_none h 0

theorem matchRule_some {t : Lts} {k : Key} {i : Fin 128} (h : FirstHit t k i) :
    matchRule t k = some (i.val, (t.rules.get i).slot.val) := by
  obtain ⟨hhit, hlow⟩ := h
  have hget (j : Fin 128) (hj : j.val < t.rules.toList.length) : t.rules.toList[j.val] = t.rules.get j := by
    simp [Vector.get]
  have hi : i.val < t.rules.toList.length := by simp
  have hs := searchRules_some (k := k) hi (by rw [hget]; exact hhit) (fun j hj => by
    rw [hget ⟨j, by omega⟩]
    exact hlow _ (Fin.lt_def.mpr hj)) 0
  rw [matchRule, hs, hget, Nat.zero_add]

/-! ### The hit counters (R165) -/

theorem countHit_some (t : Lts) (i : Fin 128) : t.countHit (some i.val) = hitAt t i := by
  have hget : t.rules[i.val]? = some (t.rules.get i) := by simp [Vector.get]
  have hset (e : RuleSlot) : t.rules.setIfInBounds i.val e = t.rules.set i e := by
    ext j hj : 1
    rw [Vector.getElem_setIfInBounds, Vector.getElem_set]
  simp only [Lts.countHit, hget, hset, hitAt]
  rfl

/-! ### The classification (R164) -/

theorem continues_iff (r : RuleEntry) : r.continues = true ↔ r.actionKind = 1 := by
  rw [RuleEntry.continues, decide_eq_true_eq, ← BitVec.toNat_inj]
  rfl

theorem continues_false {r : RuleEntry} (h : r.actionKind ≠ 1) : r.continues = false := by
  rw [← Bool.not_eq_true, continues_iff]
  exact h

theorem classify_none {t : Lts} {k : Key} (h : NoHit t k) : classify t k = ⟨none, none, none⟩ := by
  rw [classify, matchRule_none h]

theorem classify_continued_none {t : Lts} {k : Key} {i : Fin 128} (h : FirstHit t k i)
    (hc : (t.rules.get i).slot.val.actionKind = 1) (hn : NoHit t (continued k (t.rules.get i).slot.val)) :
    classify t k = ⟨some i.val, none, none⟩ := by
  have h2 := matchRule_none hn
  rw [continued] at h2
  simp only [classify, matchRule_some h, (continues_iff _).mpr hc, if_true, h2]

theorem classify_continued {t : Lts} {k : Key} {i j : Fin 128} (h : FirstHit t k i)
    (hc : (t.rules.get i).slot.val.actionKind = 1) (hj : FirstHit t (continued k (t.rules.get i).slot.val) j) :
    classify t k = ⟨some i.val, some j.val,
      if (t.rules.get j).slot.val.continues then none else some (t.rules.get j).slot.val⟩ := by
  have h2 := matchRule_some hj
  rw [continued] at h2
  simp only [classify, matchRule_some h, (continues_iff _).mpr hc, if_true, h2]

/-- The rule that decides, and the indices reached (R164). -/
theorem classify_decided {t : Lts} {k : Key} {i : Fin 128} {j : Option (Fin 128)} {r : RuleEntry} (h : Decides t k i j r) :
    classify t k = ⟨some i.val, j.map Fin.val, some r⟩ := by
  obtain ⟨hi, hr, hj⟩ := h
  cases j with
  | none =>
    subst hj
    simp only [classify, matchRule_some hi, continues_false hr, Bool.false_eq_true, if_false]
    rfl
  | some j =>
    obtain ⟨hc, hj, rfl⟩ := hj
    rw [classify_continued hi hc hj, continues_false hr]
    rfl

end Sys2Proof.Machine
end

section
/-! References, the overriding checks and the VERDICT of a ticket (R141, R142, R166 to R170). -/

namespace Sys2Proof.Machine

/-! ### References (R141) -/

/-- The reference n steps after the one that follows a last reference (R141). -/
def refAfter (last n : Nat) : Nat := ((if last < 255 then last else 0) + n) % 255 + 1

theorem nextRef_last (last : Nat) : nextRef last = refAfter last 0 := by
  unfold nextRef refAfter
  split <;> split <;> omega

theorem nextRef_after (last n : Nat) : nextRef (refAfter last n) = refAfter last (n + 1) := by
  unfold nextRef refAfter
  generalize (if last < 255 then last else 0) = m
  split <;> omega

theorem refHeld_iff (l : List Admission) (ref : Nat) : refHeld l ref = true ↔ ∃ x ∈ l, x.reference = ref := by
  simp [refHeld]

/-- The search goes forward to the first reference that no entry holds (R141). -/
theorem firstFreeRef_eq {l : List Admission} {last n : Nat} (fuel m : Nat) (hm : n ≤ m + fuel) (hle : m ≤ n)
    (hheld : ∀ k < n, ∃ x ∈ l, x.reference = refAfter last k) (hfree : ∀ x ∈ l, x.reference ≠ refAfter last n) :
    firstFreeRef l fuel (refAfter last m) = refAfter last n := by
  have hn : refHeld l (refAfter last n) = false := by
    rw [← Bool.not_eq_true, refHeld_iff]
    rintro ⟨x, hx, h⟩
    exact hfree x hx h
  induction fuel generalizing m with
  | zero =>
    have : m = n := by omega
    subst this
    rfl
  | succ fuel ih =>
    rw [firstFreeRef]
    by_cases hmn : m = n
    · subst hmn
      rw [hn, if_neg (by simp)]
    · rw [(refHeld_iff _ _).mpr (hheld m (by omega)), if_pos rfl, nextRef_after]
      exact ih (m + 1) (by omega) (by omega)

/-- References that follow one another are distinct up to 255 (R141). -/
theorem refAfter_injective {last a b : Nat} (ha : a < 255) (hb : b < 255) (h : refAfter last a = refAfter last b) : a = b := by
  unfold refAfter at h
  omega

/-- A list of fewer than 16 entries leaves one of 16 references that follow one another free (R141, R142). -/
theorem held_lt {l : List Admission} {last n : Nat} (hl : l.length < 16)
    (hheld : ∀ k < n, ∃ x ∈ l, x.reference = refAfter last k) : n < 16 := by
  by_contra hn
  have hsub : (Finset.range 16).image (refAfter last) ⊆ (l.map (·.reference)).toFinset := by
    intro r hr
    obtain ⟨k, hk, rfl⟩ := Finset.mem_image.mp hr
    obtain ⟨x, hx, he⟩ := hheld k (by have := Finset.mem_range.mp hk; omega)
    simp only [List.mem_toFinset, List.mem_map]
    exact ⟨x, hx, he⟩
  have hcard : ((Finset.range 16).image (refAfter last)).card = 16 := by
    rw [Finset.card_image_of_injOn, Finset.card_range]
    intro a ha b hb h
    have ha' := Finset.mem_range.mp (Finset.mem_coe.mp ha)
    have hb' := Finset.mem_range.mp (Finset.mem_coe.mp hb)
    exact refAfter_injective (by omega) (by omega) h
  have hle := (Finset.card_le_card hsub).trans (List.toFinset_card_le _)
  rw [hcard, List.length_map] at hle
  omega

/-- The reference issued is the first that no entry holds (R141). -/
theorem issue_eq {b : Batch} {n : Nat} (hl : b.pending.length < 16)
    (hheld : ∀ k < n, ∃ x ∈ b.pending, x.reference = refAfter b.lastRef k)
    (hfree : ∀ x ∈ b.pending, x.reference ≠ refAfter b.lastRef n) : b.issue = refAfter b.lastRef n := by
  have hn := held_lt hl hheld
  rw [Batch.issue, nextRef_last]
  exact firstFreeRef_eq _ 0 (by simp only [Config.pendingDepth]; omega) (by omega) hheld hfree

/-! ### Admissions (R142, R143) -/

/-- The list of recent serials after an admission (R142). -/
theorem appendSerial_eq (serial now : Long) (l : List RecentSerial) :
    appendSerial serial now l = (if l.any (fun x => decide (x.serial = serial))
      then l.filter (fun x => decide (x.serial ≠ serial))
      else if l.length < 64 then l else l.tail) ++ [⟨serial, now⟩] := by
  unfold appendSerial
  split
  · rfl
  · by_cases h : l.length < 64
    · rw [if_neg (by simp only [Config.recentDepth]; omega), if_pos h]
    · rw [if_pos (by simp only [Config.recentDepth]; omega), if_neg h]

/-- A part reason, of a code that is 0 where no check has failed. -/
def asReason (n : Nat) : Option Nat := if n = 0 then none else some n

/-- The overriding checks (R167, R168), 0 where all pass. -/
theorem denialReason_eq (r : RuleEntry) (t : Ticket) (b : Batch) (u : State) :
    denialReason r t b u = asReason (overriding u b r t.serial (r.personsFor t)) := by
  have hpass : passbackFound u.lts u.clock t.serial b = b.recent.any (fun x =>
      decide (x.serial = t.serial ∧ ((u.clock - x.time).toNat : Int) < u.lts.passbackTime * 60000)) := by
    simp only [passbackFound, Bool.decide_and]
  have hexempt : yes r.passbackExempt = decide (r.passbackExempt = 1) := by
    simp only [yes, ← BitVec.toNat_inj]
    rfl
  have hback : (passbackFound u.lts u.clock t.serial b && !yes r.passbackExempt) = true ↔
      b.recent.any (fun x => decide (x.serial = t.serial ∧
        ((u.clock - x.time).toNat : Int) < u.lts.passbackTime * 60000)) = true ∧ r.passbackExempt ≠ 1 := by
    rw [hpass, hexempt]
    simp
  simp only [denialReason, overriding, hback, State.capacity, Batch.platformCount, Batch.pendingPersons,
    Config.pendingDepth]
  simp only [apply_ite asReason]
  rfl

/-! ### The VERDICT (R170) -/

theorem verdictReply_eq (d : Decision) (reason ref persons : Nat) (deduct : Bool) (i j : Option (Fin 128))
    (r : Option RuleEntry) (b : Batch) :
    verdictReply ⟨d, reason, ref, persons, deduct⟩ ⟨i.map Fin.val, j.map Fin.val, r⟩ b =
      verdict d.code reason ref persons r deduct i j b := by
  have hopt (x : Option (Fin 128)) : optField 1 (x.map (fun x => (x.val : Int))) = encOpt 1 ((x.map Fin.val).map enc1) := by
    rw [optField_one]
    cases x <;> simp [be_one_nat]
  have hz : be 1 0 = enc1 0 := be_one_nat 0
  simp only [verdictReply, verdict, be_one_nat, hopt, yesNo_eq, hz]
  rfl

/-! ### The ticket judged -/

/-- A batch that the judgment leaves is not set (R153). -/
theorem setBatch_unchanged (st : Station) (b : Batch) {u : State} (h : u.bcu.batches.get st = b) : setBatch st b u = u := by
  subst h
  rw [setBatch_eq, PerStation.set_get]
  simp

/-- The hits of a classification counted (R165). -/
theorem countHits_eq (t : Lts) (i : Fin 128) (j : Option (Fin 128)) :
    (t.countHit (some i.val)).countHit (j.map Fin.val) = match j with
      | none => hitAt t i
      | some j => hitAt (hitAt t i) j := by
  cases j with
  | none => simp only [countHit_some]; rfl
  | some j => simp only [Option.map_some, countHit_some]

/-- A ticket that no rule decides (R164). -/
theorem takeTicket_undecided {st : Station} {tk : Ticket} {u : State} {i j : Option Nat}
    (ha : ticketArgumentsBad tk = false) (hm : classify u.lts (stage1Key st tk u) = ⟨i, j, none⟩) :
    takeTicket st tk u = (verdictReply ⟨.deny, 1, 0, 0, false⟩ ⟨i, j, none⟩ (u.bcu.batches.get st),
      u.updLts (fun l => (l.countHit i).countHit j)) := by
  simp only [takeTicket, ha, Bool.false_eq_true, if_false, hm, judge]
  rw [setBatch_unchanged st (u.bcu.batches.get st) (u := u.updLts (fun l => (l.countHit i).countHit j)) rfl]
  rfl

theorem takeTicket_judged {st : Station} {tk : Ticket} {u : State} {m : Match} {v : Verdict} {b : Batch}
    (ha : ticketArgumentsBad tk = false) (hm : classify u.lts (stage1Key st tk u) = m) (hj : judge st tk m u = (v, b)) :
    takeTicket st tk u =
      (verdictReply v m b, setBatch st b (u.updLts (fun l => (l.countHit m.stage1).countHit m.stage2))) := by
  simp only [takeTicket, ha, Bool.false_eq_true, if_false, hm, hj]

/-- A verdict that leaves the batch (R166, R168). -/
theorem takeTicket_turned {st : Station} {tk : Ticket} {u : State} {m : Match} {v : Verdict}
    (ha : ticketArgumentsBad tk = false) (hm : classify u.lts (stage1Key st tk u) = m)
    (hj : judge st tk m u = (v, u.bcu.batches.get st)) :
    takeTicket st tk u = (verdictReply v m (u.bcu.batches.get st),
      u.updLts (fun l => (l.countHit m.stage1).countHit m.stage2)) := by
  rw [takeTicket_judged ha hm hj]
  rw [setBatch_unchanged st (u.bcu.batches.get st) (u := u.updLts _) rfl]

theorem decision_of (r : RuleEntry) : (r.outcome = 0 → r.decision = .letIn) ∧ (r.outcome = 1 → r.decision = .refer) ∧
    (2 ≤ r.outcome.toNat → r.decision = .deny) := by
  unfold RuleEntry.decision
  refine ⟨fun h => by rw [h]; rfl, fun h => by rw [h]; rfl, fun h => ?_⟩
  split
  next h0 => rw [h0] at h; omega
  next h0 => rw [h0] at h; omega
  next => rfl

theorem personsFor_eq (r : RuleEntry) (tk : Ticket) :
    r.personsFor tk = if r.persons = 0 then tk.groupSize.toNat else r.persons.toNat := by
  simp only [RuleEntry.personsFor, ← BitVec.toNat_inj]
  rfl

section
variable {st : Station} {tk : Ticket} {u : State} {i : Fin 128} {j : Option (Fin 128)} {r : RuleEntry}

/-- What a deciding rule's outcome gives (R166, R167). -/
theorem judge_decided (m : Match) (hm : m.decides = some r) :
    judge st tk m u = match r.decision with
      | .deny => (⟨.deny, 0, 0, 0, false⟩, u.bcu.batches.get st)
      | .refer => (⟨.refer, 0, 0, 0, false⟩, u.bcu.batches.get st)
      | .letIn => match asReason (overriding u (u.bcu.batches.get st) r tk.serial (r.personsFor tk)) with
        | some why => (⟨.deny, why, 0, 0, false⟩, u.bcu.batches.get st)
        | none => (⟨.letIn, 0, (u.bcu.batches.get st).issue, r.personsFor tk, yes r.deductRide⟩,
            (u.bcu.batches.get st).taken tk.gate.toNat (r.personsFor tk) tk.serial u.clock) := by
  simp only [judge, hm, denialReason_eq]
  cases r.decision <;> rfl

end

/-- A batch after an admission (R142, R143, R141). -/
theorem taken_eq {b : Batch} {gate persons n : Nat} {serial now : Long} (hn : b.issue = refAfter b.lastRef n) :
    b.taken gate persons serial now = { b with
      lastRef := refAfter b.lastRef n
      pending := b.pending ++ [⟨refAfter b.lastRef n, gate, persons, serial, now⟩]
      recent := (if b.recent.any (fun x => decide (x.serial = serial))
        then b.recent.filter (fun x => decide (x.serial ≠ serial))
        else if b.recent.length < 64 then b.recent else b.recent.tail) ++ [⟨serial, now⟩] } := by
  simp only [Batch.taken, hn, appendSerial_eq]

/-! ### The outcomes of a ticket -/

section
variable {st : Station} {tk : Ticket} {u : State} (ha : ticketArgumentsBad tk = false)
include ha

theorem takeTicket_noHit (hn : NoHit u.lts (stage1Key st tk u)) :
    takeTicket st tk u = (verdict 2 1 0 0 none false none none (u.bcu.batches.get st), u) := by
  rw [takeTicket_undecided ha (classify_none hn)]
  exact congrArg₂ Prod.mk (verdictReply_eq .deny 1 0 0 false none none none _) rfl

theorem takeTicket_noSecondHit {i : Fin 128} (hi : FirstHit u.lts (stage1Key st tk u) i)
    (hc : (u.lts.rules.get i).slot.val.actionKind = 1)
    (hn : NoHit u.lts (continued (stage1Key st tk u) (u.lts.rules.get i).slot.val)) :
    takeTicket st tk u = (verdict 2 1 0 0 none false (some i) none (u.bcu.batches.get st),
      { u with lts := hitAt u.lts i }) := by
  rw [takeTicket_undecided ha (classify_continued_none hi hc hn)]
  refine congrArg₂ Prod.mk (verdictReply_eq .deny 1 0 0 false (some i) none none _) ?_
  simp only [State.updLts, countHit_some]
  rfl

theorem takeTicket_continuesTwice {i j : Fin 128} (hi : FirstHit u.lts (stage1Key st tk u) i)
    (hc : (u.lts.rules.get i).slot.val.actionKind = 1)
    (hj : FirstHit u.lts (continued (stage1Key st tk u) (u.lts.rules.get i).slot.val) j)
    (hcj : (u.lts.rules.get j).slot.val.actionKind = 1) :
    takeTicket st tk u = (verdict 2 1 0 0 none false (some i) (some j) (u.bcu.batches.get st),
      { u with lts := hitAt (hitAt u.lts i) j }) := by
  have hm := classify_continued hi hc hj
  rw [(continues_iff _).mpr hcj, if_pos rfl] at hm
  rw [takeTicket_undecided ha hm]
  refine congrArg₂ Prod.mk (verdictReply_eq .deny 1 0 0 false (some i) (some j) none _) ?_
  simp only [State.updLts, countHit_some]

/-- The tables with the hits of a deciding match counted (R165). -/
def decidedLts (t : Lts) (i : Fin 128) (j : Option (Fin 128)) : Lts :=
  match j with
  | none => hitAt t i
  | some j => hitAt (hitAt t i) j

/-- A deciding rule whose verdict leaves the batch (R166, R167). -/
theorem takeTicket_reply {i : Fin 128} {j : Option (Fin 128)} {r : RuleEntry} {d : Decision} {why : Nat}
    (hd : Decides u.lts (stage1Key st tk u) i j r)
    (hj : judge st tk ⟨some i.val, j.map Fin.val, some r⟩ u = (⟨d, why, 0, 0, false⟩, u.bcu.batches.get st)) :
    takeTicket st tk u = (verdict d.code why 0 0 (some r) false (some i) j (u.bcu.batches.get st),
      { u with lts := decidedLts u.lts i j }) := by
  rw [takeTicket_turned ha (classify_decided hd) hj]
  refine congrArg₂ Prod.mk (verdictReply_eq d why 0 0 false (some i) j (some r) _) ?_
  simp only [State.updLts, countHits_eq]
  rfl

/-- A ticket let in (R141, R142, R143, R169). -/
theorem takeTicket_letIn {i : Fin 128} {j : Option (Fin 128)} {r : RuleEntry} {b' : Batch} {ref persons : Nat}
    (hd : Decides u.lts (stage1Key st tk u) i j r) (hs : b'.state = (u.bcu.batches.get st).state)
    (hj : judge st tk ⟨some i.val, j.map Fin.val, some r⟩ u = (⟨.letIn, 0, ref, persons, yes r.deductRide⟩, b')) :
    takeTicket st tk u = (verdict 0 0 ref persons (some r) (decide (r.deductRide = 1)) (some i) j b',
      { u with lts := decidedLts u.lts i j, bcu := { u.bcu with batches := u.bcu.batches.set st b' } }) := by
  have hyes : yes r.deductRide = decide (r.deductRide = 1) := by
    simp only [yes, ← BitVec.toNat_inj]
    rfl
  rw [takeTicket_judged ha (classify_decided hd) hj, setBatch_eq]
  have hev : decide (b'.state ≠ ((u.updLts (fun l => (l.countHit (some i.val)).countHit (j.map Fin.val))).bcu.batches.get st).state) =
      false := by simp [hs]
  rw [hev, eventIf_false, raising_nil, ← hyes]
  refine congrArg₂ Prod.mk (verdictReply_eq .letIn 0 ref persons _ (some i) j (some r) _) ?_
  simp only [State.updLts, countHits_eq]
  rfl

end

/-- Where all checks pass, the list of admissions has room (R142, R167). -/
theorem pending_of_overriding {u : State} {b : Batch} {r : RuleEntry} {serial : Long} {persons : Nat}
    (h : overriding u b r serial persons = 0) : b.pending.length < 16 := by
  by_contra hn
  simp only [overriding] at h
  rw [if_pos (show 16 ≤ b.pending.length by omega)] at h
  split at h
  · cases h
  · split at h
    · cases h
    · split at h
      · cases h
      · split at h <;> cases h

theorem exec_ticket {st : Station} {tk : Ticket} (he : encodingOk (.ticket tk) = true) (s : State) :
    exec (.ticket st.port tk) s = .next ((takeTicket st tk (s.ready st.port)).2.answered st.port 21
      (takeTicket st tk (s.ready st.port)).1) := by
  refine exec_fixed (c := .ticket st.port tk) (r := .ticket tk) rfl ?_ he ?_
  · cases st <;> rfl
  · cases st <;> rfl

/-- Settles O53: the key and its match, the classification, the overriding checks and the admission. -/
theorem ticketJudged : Obligations.TicketJudged := by
  refine ⟨agrees_iff, fun st tk s => ?_⟩
  intro p u b key
  refine ⟨stage1Key_formed st tk u, fun he => ?_⟩
  rw [exec_ticket he]
  refine ⟨fun ha => ?_, fun ha => ⟨fun hn => ?_, fun i hi hc => ?_, fun i j r hd => ?_⟩⟩
  · simp only [takeTicket, ha, if_true]
    rfl
  · rw [takeTicket_noHit ha hn]
  · refine ⟨fun hn => ?_, fun j hj hcj => ?_⟩
    · rw [takeTicket_noSecondHit ha hi hc hn]
    · rw [takeTicket_continuesTwice ha hi hc hj hcj]
  · intro lts persons why reply
    obtain ⟨hin, href, hdeny⟩ := decision_of r
    have hjudge := judge_decided (st := st) (tk := tk) (u := u) ⟨some i.val, j.map Fin.val, some r⟩ (r := r) rfl
    rw [personsFor_eq] at hjudge
    refine ⟨fun h => ?_, fun h => ?_, fun h hw => ?_, ?_⟩
    · rw [href h] at hjudge
      rw [takeTicket_reply ha hd hjudge]
      rfl
    · rw [hdeny h] at hjudge
      rw [takeTicket_reply ha hd hjudge]
      rfl
    · have hreason : asReason why = some why := if_neg hw
      rw [hin h] at hjudge
      simp only [show overriding u (u.bcu.batches.get st) r tk.serial
        (if r.persons = 0 then tk.groupSize.toNat else r.persons.toNat) = why from rfl, hreason] at hjudge
      rw [takeTicket_reply ha hd hjudge]
      rfl
    · intro after n h hw hheld hfree ref kept b'
      have hreason : asReason why = none := if_pos hw
      have hlen : b.pending.length < 16 := pending_of_overriding hw
      have htaken : b.taken tk.gate.toNat persons tk.serial u.clock = b' := taken_eq (issue_eq hlen hheld hfree)
      have hissue : b.issue = ref := issue_eq hlen hheld hfree
      rw [hin h] at hjudge
      simp only [show overriding u (u.bcu.batches.get st) r tk.serial
        (if r.persons = 0 then tk.groupSize.toNat else r.persons.toNat) = why from rfl, hreason] at hjudge
      rw [show u.bcu.batches.get st = b from rfl, hissue] at hjudge
      rw [takeTicket_letIn (b' := b') ha hd rfl (hjudge.trans (congrArg _ htaken))]
      rfl

end Sys2Proof.Machine
end

section
/-! Bytes and frames at a receiver (R172 to R177). -/

namespace Sys2Proof.Machine

theorem exec_receivedByte (p : PortId) (b : Byte) (s : State) : exec (.receivedByte p b) s = .next (receive p b s) := rfl

theorem exec_frameComplete (p : PortId) (b : Byte) (s : State) : exec (.frameComplete p b) s =
    .next (if (s.lpu.ports.get p).awaitsLast then receive p b s else s) := rfl

/-- The last byte of a frame (R173, R175). -/
theorem receive_last {p : PortId} {lo : Byte} {len : Nat} {bytes : List Byte} {s : State}
    (hl : (s.lpu.ports.get p).lineLow = false) (hr : (s.lpu.ports.get p).rx = .collecting len bytes)
    (hn : bytes.length = len + 1) : receive p lo s = completeFrame p len (bytes ++ [lo]) s := by
  simp only [receive, hl, Bool.false_eq_true, if_false, hr, hn, if_true]

/-- A byte of a frame before its last (R173). -/
theorem receive_more {p : PortId} {b : Byte} {len : Nat} {bytes : List Byte} {s : State}
    (hl : (s.lpu.ports.get p).lineLow = false) (hr : (s.lpu.ports.get p).rx = .collecting len bytes)
    (hn : bytes.length ≠ len + 1) :
    receive p b s = s.updPort p (fun r => { r with rx := .collecting len (bytes ++ [b]) }) := by
  simp only [receive, hl, Bool.false_eq_true, if_false, hr, hn]

theorem awaitsLast_iff (r : PortRecord) : r.awaitsLast = true ↔
    ∃ len bytes, r.rx = .collecting len bytes ∧ r.lineLow = false ∧ bytes.length = len + 1 := by
  unfold PortRecord.awaitsLast
  split
  next len bytes h =>
    simp only [Bool.and_eq_true, Bool.not_eq_true', decide_eq_true_eq]
    refine ⟨fun ⟨h1, h2⟩ => ⟨len, bytes, h, h1, h2⟩, fun ⟨len', bytes', h', h1, h2⟩ => ?_⟩
    rw [h] at h'
    cases h'
    exact ⟨h1, h2⟩
  next h => simp [h]
  next h => simp [h]

/-- A frame whose bytes after LEN are KIND, payload and CHECK (R173, R175). -/
theorem completeFrame_eq (p : PortId) (kind hi lo : Byte) (payload : List Byte) (s : State) :
    completeFrame p (payload.length + 1) (kind :: payload ++ [hi] ++ [lo]) s =
      if crc16 (BitVec.ofNat 8 (payload.length + 1) :: kind :: payload) = half hi lo then
        joinFrame p kind payload (hunt p s) else hunt p s := by
  have hsplit : kind :: payload ++ [hi] ++ [lo] = (kind :: payload) ++ [hi, lo] := by simp
  have htake : (kind :: payload ++ [hi] ++ [lo]).take (payload.length + 1) = kind :: payload := by
    rw [hsplit, List.take_left' (by simp)]
  have hdrop : (kind :: payload ++ [hi] ++ [lo]).drop (payload.length + 1) = [hi, lo] := by
    rw [hsplit, List.drop_left' (by simp)]
  simp only [completeFrame, htake, hdrop]

/-! ### A frame that completes (R175, R177) -/

/-- Nothing begins while a reply is being sent (R177). -/
theorem beginReply_busy {p : PortId} {s : State} (h : (s.lpu.ports.get p).tx.isSome = true) : beginReply p s = s := by
  obtain ⟨f, hf⟩ := Option.isSome_iff_exists.mp h
  simp only [beginReply, hf]

/-- A frame that waits behind another that is taken (R175). -/
theorem joinFrame_behind {p : PortId} {kind : Byte} {payload : List Byte} {s : State} {e : QueueEntry}
    (hq : (s.lpu.ports.get p).queue = [e]) (he : e.reply.isSome = true) (ht : (s.lpu.ports.get p).tx.isSome = true) :
    joinFrame p kind payload s = s.updPort p (fun r => { r with queue := r.queue ++ [⟨kind, payload, none⟩] }) := by
  obtain ⟨k, pl, reply⟩ := e
  obtain ⟨body, rfl⟩ := Option.isSome_iff_exists.mp he
  have hq' : ((s.updPort p (fun r => { r with queue := r.queue ++ [⟨kind, payload, none⟩] })).lpu.ports.get p).queue =
      ⟨k, pl, some body⟩ :: [⟨kind, payload, none⟩] := by simp [hq]
  rw [joinFrame, if_pos (by simp [hq, Config.queueDepth]), servePort, takeOldest_taken hq', beginReply_busy (by simpa using ht),
    takeOldest_taken hq']

/-- A frame that finds the queue full is discarded (R175). -/
theorem joinFrame_full {p : PortId} {kind : Byte} {payload : List Byte} {s : State}
    (hq : 2 ≤ (s.lpu.ports.get p).queue.length) : joinFrame p kind payload s = s := by
  rw [joinFrame, if_neg (by simp only [Config.queueDepth]; omega)]

/-- The state in which a frame that finds the queue empty is taken (R175). -/
def State.queued (s : State) (p : PortId) (kind : Byte) (payload : List Byte) : State :=
  s.updPort p (fun r => { r with queue := [⟨kind, payload, none⟩] })

/-- A frame on an empty queue is taken at once (R175). -/
theorem joinFrame_taken {p : PortId} (kind : Byte) (payload : List Byte) {s : State}
    (hq : (s.lpu.ports.get p).queue = []) :
    let taken := takeFrame p kind payload (s.queued p kind payload)
    joinFrame p kind payload s = takeOldest p (beginReply p
      (taken.2.updPort p (fun r => { r with queue := [⟨kind, payload, some taken.1⟩] }))) := by
  have hs : s.updPort p (fun r => { r with queue := r.queue ++ [⟨kind, payload, none⟩] }) = s.queued p kind payload := by
    simp only [State.queued, State.updPort, State.updLpu, hq, List.nil_append]
  have hw : takeOldest p (s.queued p kind payload) = (takeFrame p kind payload (s.queued p kind payload)).2.updPort p
      (fun r => { r with queue := [⟨kind, payload, some (takeFrame p kind payload (s.queued p kind payload)).1⟩] }) :=
    takeOldest_waiting (by simp [State.queued])
  rw [joinFrame, if_pos (by simp [hq, Config.queueDepth]), servePort, hs, hw]

/-- Its reply waits for a busy transmitter (R177). -/
theorem joinFrame_waits {p : PortId} (kind : Byte) (payload : List Byte) {s : State}
    (hq : (s.lpu.ports.get p).queue = []) (ht : (s.lpu.ports.get p).tx.isSome = true) :
    let taken := takeFrame p kind payload (s.queued p kind payload)
    joinFrame p kind payload s = taken.2.updPort p (fun r => { r with queue := [⟨kind, payload, some taken.1⟩] }) := by
  intro taken
  have htx : (taken.2.lpu.ports.get p).tx = (s.lpu.ports.get p).tx :=
    ((samePorts_takeTested p _ _ (s.queued p kind payload) p).2.2.2).trans (by simp [State.queued])
  have hbusy : (taken.2.lpu.ports.get p).tx.isSome = true := by rw [htx, ht]
  rw [joinFrame_taken kind payload hq, beginReply_busy (by simpa using hbusy),
    takeOldest_taken (kind := kind) (payload := payload) (body := taken.1) (rest := []) (by simp [taken])]

/-- Its reply begins on an idle transmitter (R177). -/
theorem joinFrame_answers {p : PortId} (kind : Byte) (payload : List Byte) {s : State}
    (hq : (s.lpu.ports.get p).queue = []) (ht : (s.lpu.ports.get p).tx = none) :
    let taken := takeFrame p kind payload (s.queued p kind payload)
    joinFrame p kind payload s = sendReply p kind taken.1 (taken.2.updPort p (fun r => { r with queue := [] })) := by
  intro taken
  have htx : (taken.2.lpu.ports.get p).tx = (s.lpu.ports.get p).tx :=
    ((samePorts_takeTested p _ _ (s.queued p kind payload) p).2.2.2).trans (by simp [State.queued])
  rw [joinFrame_taken kind payload hq, beginReply_taken (kind := kind) (payload := payload) (body := taken.1) (rest := [])
    (by simpa using htx.trans ht) (by simp [taken]), updPort_updPort]
  obtain ⟨f, hf⟩ := sendReply_ports p kind taken.1 (taken.2.updPort p (fun r => { r with queue := [] }))
  refine takeOldest_empty ?_
  rw [hf]
  simp

/-! ### The obligations -/

/-- The state with a port's receiver HUNTING or in another state (R173). -/
theorem receive_hunting {p : PortId} {b : Byte} {s : State} (hl : (s.lpu.ports.get p).lineLow = false)
    (hr : (s.lpu.ports.get p).rx = .hunting) :
    receive p b s = if b = 0xC3 then s.updPort p (fun r => { r with rx := .awaitLen }) else s := by
  simp only [receive, hl, Bool.false_eq_true, if_false, hr]

theorem receive_len {p : PortId} {b : Byte} {s : State} (hl : (s.lpu.ports.get p).lineLow = false)
    (hr : (s.lpu.ports.get p).rx = .awaitLen) :
    receive p b s = s.updPort p (fun r =>
      { r with rx := if 1 ≤ b.toNat ∧ b.toNat ≤ 250 then .collecting b.toNat [] else .hunting }) := by
  simp only [receive, hl, Bool.false_eq_true, if_false, hr, hunt]
  by_cases h : 1 ≤ b.toNat ∧ b.toNat ≤ 250
  · rw [if_neg (by omega)]
    simp only [if_pos h]
  · rw [if_pos (by omega)]
    simp only [if_neg h]

theorem receive_low {p : PortId} {b : Byte} {s : State} (hl : (s.lpu.ports.get p).lineLow = true) : receive p b s = s := by
  simp only [receive, hl, if_true]

/-- Settles O29: bytes taken by a receiver, and the frame that its last byte completes. -/
theorem receiverTakesBytes : Obligations.ReceiverTakesBytes := by
  refine ⟨fun p b s => ?_, fun p kind hi lo payload s => ?_, fun p lo len bytes s hr hn => ?_⟩
  · intro r becomes
    simp only [exec_receivedByte]
    refine ⟨fun hl => ?_, fun hl hr => ?_, fun hl hr => ?_, fun len bytes hr hl hn => ?_⟩
    · rw [receive_low hl]
    · rw [receive_hunting hl hr]
    · rw [receive_len hl hr]
    · rw [receive_more hl hr (by omega)]
  · intro r len good
    rw [exec_frameComplete]
    have hwait (hl : r.lineLow = false) (hr : r.rx = .collecting len (kind :: payload ++ [hi])) :
        (if (s.lpu.ports.get p).awaitsLast then receive p lo s else s) =
          if good = true then joinFrame p kind payload (hunt p s) else hunt p s := by
      have hlen : (kind :: payload ++ [hi]).length = len + 1 := by simp [len]
      rw [if_pos ((awaitsLast_iff _).mpr ⟨_, _, hr, hl, hlen⟩), receive_last hl hr hlen, completeFrame_eq]
      simp only [good, decide_eq_true_eq]
      rfl
    have hqueue : ((hunt p s).lpu.ports.get p).queue = r.queue ∧ ((hunt p s).lpu.ports.get p).tx = r.tx := by
      simp [hunt, r]
    refine ⟨fun h => ?_, fun hl hr hbad => ?_, fun hl hr hg hq ht he => ?_, fun hl hr hg hq => ?_⟩
    · rw [if_neg]
      rw [awaitsLast_iff]
      rintro ⟨n, bytes, h1, h2, -⟩
      rcases h with h | h | h
      · cases h.symm.trans h1
      · cases h.symm.trans h1
      · cases h.symm.trans h2
    · rw [hwait hl hr]
      cases hgood : good with
      | false => rw [if_neg (by simp)]; rfl
      | true =>
        have hfull := hbad.resolve_left (by simp [hgood])
        rw [if_pos rfl, joinFrame_full (by rwa [hqueue.1])]
        rfl
    · obtain ⟨e, hqe⟩ := List.length_eq_one_iff.mp hq
      rw [hwait hl hr, if_pos hg, joinFrame_behind (e := e) (by rw [hqueue.1, hqe]) (he e (by simp [hqe]))
        (by rw [hqueue.2, ht]), hunt, updPort_updPort]
    · intro taken
      have hstate : (hunt p s).queued p kind payload =
          s.updPort p (fun r => { r with rx := .hunting, queue := [⟨kind, payload, none⟩] }) := by
        rw [State.queued, hunt, updPort_updPort]
      rw [hwait hl hr, if_pos hg]
      refine ⟨fun ht => ?_, fun ht => ?_⟩
      · rw [joinFrame_waits kind payload (hqueue.1.trans hq) (by rw [hqueue.2, ht])]
        rw [hstate]
      · rw [joinFrame_answers kind payload (hqueue.1.trans hq) (hqueue.2.trans ht)]
        rw [hstate]
  · rw [exec_frameComplete, if_neg]
    rw [awaitsLast_iff]
    rintro ⟨n, bs, h1, -, h3⟩
    rw [hr] at h1
    cases h1
    exact hn h3

/-! ### A whole frame heard (Table 10-1) -/

theorem hears_cons (p : PortId) (b : Byte) (rest : List Byte) (s : State) :
    s.hears p (b :: rest) = (receive p b s).hears p rest := rfl

/-- The bytes of a frame after LEN, but for the last, are collected (R173). -/
theorem hears_collect {p : PortId} {len : Nat} (bytes got rest : List Byte) {s : State}
    (hl : (s.lpu.ports.get p).lineLow = false) (hr : (s.lpu.ports.get p).rx = .collecting len got)
    (hn : got.length + bytes.length ≤ len + 1) :
    s.hears p (bytes ++ rest) = (s.updPort p (fun r => { r with rx := .collecting len (got ++ bytes) })).hears p rest := by
  induction bytes generalizing got s with
  | nil =>
    rw [updPort_same _ _ _ (by simp [← hr])]
    rfl
  | cons b bytes ih =>
    rw [List.length_cons] at hn
    rw [List.cons_append, hears_cons, receive_more hl hr (by omega), ih (got ++ [b]) (by simpa using hl) (by simp)
      (by simp; omega), updPort_updPort]
    simp

/-- The two bytes of a half word spell it (R178). -/
theorem encHalf_split (w : Half) : ∃ hi lo : Byte, encHalf w = [hi, lo] ∧ w = half hi lo := by
  refine ⟨_, _, rfl, ?_⟩
  apply BitVec.eq_of_getLsbD_eq
  intro i hi
  rw [half, BitVec.getLsbD_append]
  by_cases h : i < 8
  · simp [h]
  · simp [h, show 8 + (i - 8) = i by omega, show i - 8 < 8 by omega]

/-- Settles O30: the bytes of a frame, heard in turn, join the receive queue. -/
theorem frameIsReassembled : Obligations.FrameIsReassembled := by
  intro p f s hlen hr hl
  obtain ⟨kind, payload⟩ := f
  dsimp only at hlen ⊢
  obtain ⟨hi, lo, hcrc, hhalf⟩ := encHalf_split (crc16 (BitVec.ofNat 8 (payload.length + 1) :: kind :: payload))
  have hnat : (BitVec.ofNat 8 (payload.length + 1)).toNat = payload.length + 1 := by
    rw [BitVec.toNat_ofNat, Nat.mod_eq_of_lt (by omega)]
  have hbytes : ReplyFrame.bytes ⟨kind, payload⟩ =
      0xC3 :: BitVec.ofNat 8 (payload.length + 1) :: ((kind :: payload ++ [hi]) ++ [lo]) := by
    simp [ReplyFrame.bytes, hcrc]
  rw [hbytes, hears_cons, receive_hunting hl hr, if_pos rfl, hears_cons, receive_len (by simpa using hl) (by simp), hnat,
    if_pos (by omega), updPort_updPort,
    hears_collect (len := payload.length + 1) (kind :: payload ++ [hi]) [] [lo] (by simpa using hl) (by simp) (by simp), updPort_updPort, hears_cons,
    receive_last (len := payload.length + 1) (bytes := kind :: payload ++ [hi]) (by simpa using hl) (by simp) (by simp),
    completeFrame_eq, if_pos hhalf, hunt, updPort_updPort]
  rw [updPort_same _ _ _ (by simp [← hr])]
  rfl

end Sys2Proof.Machine
end

section
/-! The tests of a taken frame (R176), and a request that its payload spells (Table 10-4, R178). -/

namespace Sys2Proof.Machine

/-! ### The payload of a request spells it -/

theorem half_encHalf (w : Half) : half (w.extractLsb' 8 8) (w.extractLsb' 0 8) = w := by
  obtain ⟨hi, lo, hbytes, hw⟩ := encHalf_split w
  cases hbytes
  exact hw.symm

theorem odo_enc3 (w : Odo) : odo (w.extractLsb' 16 8) (w.extractLsb' 8 8) (w.extractLsb' 0 8) = w := by
  apply BitVec.eq_of_getLsbD_eq
  intro i hi
  simp only [odo, BitVec.getLsbD_append, BitVec.getLsbD_extractLsb']
  by_cases h : i < 8
  · simp [h]
  · by_cases h2 : i - 8 < 8
    · simp [h, h2, show 8 + (i - 8) = i by omega]
    · simp [h, h2, show 16 + (i - 8 - 8) = i by omega, show i - 8 - 8 < 8 by omega]

theorem long_encLong (w : Long) :
    long (w.extractLsb' 24 8) (w.extractLsb' 16 8) (w.extractLsb' 8 8) (w.extractLsb' 0 8) = w := by
  apply BitVec.eq_of_getLsbD_eq
  intro i hi
  simp only [long, BitVec.getLsbD_append, BitVec.getLsbD_extractLsb']
  by_cases h : i < 8
  · simp [h]
  · by_cases h2 : i - 8 < 8
    · simp [h, h2, show 8 + (i - 8) = i by omega]
    · by_cases h3 : i - 8 - 8 < 8
      · simp [h, h2, h3, show 16 + (i - 8 - 8) = i by omega]
      · simp [h, h2, h3, show 24 + (i - 8 - 8 - 8) = i by omega, show i - 8 - 8 - 8 < 8 by omega]

/-- The payload that a request is laid out in spells that request (Table 10-4, R178). -/
theorem parseRequest_payload (r : Request) : parseRequest r.kind (requestPayload r) = some r := by
  cases r with
  | subscribe w =>
    rw [requestPayload, be_two_half]
    exact congrArg (fun w => some (Request.subscribe w)) (half_encHalf w)
  | timeSet w =>
    rw [requestPayload, be_two_half]
    exact congrArg (fun w => some (Request.timeSet w)) (half_encHalf w)
  | inspectMove d w =>
    rw [requestPayload, be_four_long]
    exact congrArg (fun w => some (Request.inspectMove d w)) (long_encLong w)
  | carReport rep =>
    obtain ⟨odoNow, mp, mid, odoAt, lc, ll, rc, rl, ic, oc, hb, ah, ff⟩ := rep
    have hnow := odo_enc3 odoNow
    have hat := odo_enc3 odoAt
    have hin := half_encHalf ic
    have hout := half_encHalf oc
    simp only [requestPayload, be_three_odo, be_two_half]
    change some (Request.carReport ⟨odo _ _ _, mp, mid, odo _ _ _, lc, ll, rc, rl, half _ _, half _ _, hb, ah, ff⟩) = _
    rw [hnow, hat, hin, hout]
  | ticket t =>
    obtain ⟨gate, serial, kc, product, co, gs, rides, days, bought⟩ := t
    simp only [requestPayload, be_four_long, be_two_half]
    change some (Request.ticket ⟨gate, long _ _ _ _, kc, half _ _, co, gs, rides, half _ _, bought⟩) = _
    rw [long_encLong, half_encHalf, half_encHalf]
  | _ => rfl

theorem request_kind_range (r : Request) : 1 ≤ r.kind ∧ r.kind ≤ 23 := by
  cases r <;> simp [Request.kind]

theorem knownKind_request (r : Request) : knownKind r.kind = true := decide_eq_true (request_kind_range r)

theorem kind_byte (r : Request) : (BitVec.ofNat 8 r.kind).toNat = r.kind := by
  have := request_kind_range r
  rw [BitVec.toNat_ofNat, Nat.mod_eq_of_lt (by omega)]

/-! ### The lengths of payloads -/

/-- The contents of an entry that TABLE_WRITE may store are of the length its table gives (R181). -/
theorem tableWrite_length {t i pr : Byte} {contents : List Byte} (h : encodingOk (.tableWrite t i pr contents) = true) :
    contents.length = [4, 11, 6, 5, 8, 4, 2, 37, 5].getD t.toNat 0 := by
  simp only [encodingOk, Bool.and_eq_true, decide_eq_true_eq] at h
  obtain ⟨⟨⟨hi, -⟩, -⟩, hl⟩ := h
  have ht : t.toNat < 9 := by
    by_contra hn
    rw [tableSize] at hi
    split at hi <;> omega
  rw [hl, contentsLength]
  generalize t.toNat = n at ht
  interval_cases n <;> rfl

/-- The kinds without a payload (Table 10-4). -/
theorem parseRequest_empty {kind : Nat} (hk : kind ∈ [2, 5, 6, 7, 8, 10, 11, 19, 23]) {payload : List Byte}
    (hl : payload.length ≠ 0) : parseRequest kind payload = none := by
  cases payload with
  | nil => exact absurd rfl hl
  | cons b rest => fin_cases hk <;> rfl

/-- The kinds with one byte of payload. -/
theorem parseRequest_byte {kind : Nat} (hk : kind ∈ [1, 4, 9, 13, 14]) {payload : List Byte} (hl : payload.length ≠ 1) :
    parseRequest kind payload = none := by
  rcases payload with _ | ⟨a, _ | ⟨b, rest⟩⟩
  · fin_cases hk <;> rfl
  · exact absurd rfl hl
  · fin_cases hk <;> rfl

/-- The kinds with two bytes of payload. -/
theorem parseRequest_two {kind : Nat} (hk : kind ∈ [3, 12, 16, 18]) {payload : List Byte} (hl : payload.length ≠ 2) :
    parseRequest kind payload = none := by
  rcases payload with _ | ⟨a, _ | ⟨b, _ | ⟨c, rest⟩⟩⟩
  · fin_cases hk <;> rfl
  · fin_cases hk <;> rfl
  · exact absurd rfl hl
  · fin_cases hk <;> rfl

theorem parseRequest_passage {payload : List Byte} (hl : payload.length ≠ 3) : parseRequest 22 payload = none := by
  rcases payload with _ | ⟨_, _ | ⟨_, _ | ⟨_, _ | ⟨_, _⟩⟩⟩⟩
  case cons.cons.cons.nil => exact absurd rfl hl
  all_goals rfl

theorem parseRequest_inspectMove {payload : List Byte} (hl : payload.length ≠ 5) : parseRequest 15 payload = none := by
  rcases payload with _ | ⟨_, _ | ⟨_, _ | ⟨_, _ | ⟨_, _ | ⟨_, _ | ⟨_, _⟩⟩⟩⟩⟩⟩
  case cons.cons.cons.cons.cons.nil => exact absurd rfl hl
  all_goals rfl

theorem parseRequest_ticket {payload : List Byte} (hl : payload.length ≠ 14) : parseRequest 21 payload = none := by
  rcases payload with _ | ⟨_, _ | ⟨_, _ | ⟨_, _ | ⟨_, _ | ⟨_, _ | ⟨_, _ | ⟨_, _ | 
      ⟨_, _ | ⟨_, _ | ⟨_, _ | ⟨_, _ | ⟨_, _ | ⟨_, _ | ⟨_, _ | ⟨_, _⟩⟩⟩⟩⟩⟩⟩⟩⟩⟩⟩⟩⟩⟩⟩
  case cons.cons.cons.cons.cons.cons.cons.cons.cons.cons.cons.cons.cons.cons.nil => exact absurd rfl hl
  all_goals rfl

theorem parseRequest_carReport {payload : List Byte} (hl : payload.length ≠ 19) : parseRequest 20 payload = none := by
  rcases payload with _ | ⟨_, _ | ⟨_, _ | ⟨_, _ | ⟨_, _ | ⟨_, _ | ⟨_, _ | ⟨_, _ | 
      ⟨_, _ | ⟨_, _ | ⟨_, _ | ⟨_, _ | ⟨_, _ | ⟨_, _ | ⟨_, _ | ⟨_, _ | ⟨_, _ | ⟨_, _ | ⟨_, _ | ⟨_, _ | ⟨_, _⟩⟩⟩⟩⟩⟩⟩⟩⟩⟩⟩⟩⟩⟩⟩⟩⟩⟩⟩⟩
  case cons.cons.cons.cons.cons.cons.cons.cons.cons.cons.cons.cons.cons.cons.cons.cons.cons.cons.cons.nil => exact absurd rfl hl
  all_goals rfl

/-- The entry that a TABLE_WRITE payload spells (R181). -/
theorem parseRequest_tableWrite {payload : List Byte} {r : Request} (h : parseRequest 17 payload = some r) :
    ∃ t i pr contents, payload = t :: i :: pr :: contents ∧ r = .tableWrite t i pr contents := by
  rcases payload with _ | ⟨t, _ | ⟨i, _ | ⟨pr, contents⟩⟩⟩
  case cons.cons.cons => exact ⟨t, i, pr, contents, rfl, (Option.some.inj h).symm⟩
  all_goals cases h

/-- The kinds but TABLE_WRITE, by the length that each requires (Table 10-4). -/
theorem kind_cases {kind : Nat} (hk : 1 ≤ kind ∧ kind ≤ 23) (hw : kind ≠ 17) :
    kind ∈ [2, 5, 6, 7, 8, 10, 11, 19, 23] ∨ kind ∈ [1, 4, 9, 13, 14] ∨ kind ∈ [3, 12, 16, 18] ∨ kind = 15 ∨ kind = 20 ∨
      kind = 21 ∨ kind = 22 := by
  simp only [List.mem_cons, List.not_mem_nil, or_false]
  omega

/-- A payload of another length than its kind requires spells no request (R176, test 3). -/
theorem parseRequest_none {kind : Nat} {payload : List Byte} (hk : 1 ≤ kind ∧ kind ≤ 23) (hw : kind ≠ 17)
    (hl : payload.length ≠ requiredLength kind payload) : parseRequest kind payload = none := by
  have hempty (h : kind ∈ [2, 5, 6, 7, 8, 10, 11, 19, 23]) : requiredLength kind payload = 0 := by
    fin_cases h <;> rfl
  have hbyte (h : kind ∈ [1, 4, 9, 13, 14]) : requiredLength kind payload = 1 := by fin_cases h <;> rfl
  have htwo (h : kind ∈ [3, 12, 16, 18]) : requiredLength kind payload = 2 := by fin_cases h <;> rfl
  rcases kind_cases hk hw with h | h | h | rfl | rfl | rfl | rfl
  · exact parseRequest_empty h (hempty h ▸ hl)
  · exact parseRequest_byte h (hbyte h ▸ hl)
  · exact parseRequest_two h (htwo h ▸ hl)
  · exact parseRequest_inspectMove hl
  · exact parseRequest_carReport hl
  · exact parseRequest_ticket hl
  · exact parseRequest_passage hl

/-- A payload of another length than its kind requires spells no request that passes the tests (R176, test 3). -/
theorem parseRequest_wrong_length {kind : Nat} {payload : List Byte} (hk : 1 ≤ kind ∧ kind ≤ 23)
    (hl : payload.length ≠ requiredLength kind payload) {r : Request} (h : parseRequest kind payload = some r) :
    encodingOk r = false := by
  rcases eq_or_ne kind 17 with rfl | hw
  · obtain ⟨t, i, pr, contents, rfl, rfl⟩ := parseRequest_tableWrite h
    rw [← Bool.not_eq_true]
    intro he
    refine hl ?_
    simp only [requiredLength, if_true, List.map_cons, List.headD_cons, List.length_cons, tableWrite_length he]
    omega
  · rw [parseRequest_none hk hw hl] at h
    cases h

theorem requestPayload_length {r : Request} (he : encodingOk r = true) :
    (requestPayload r).length = requiredLength r.kind (requestPayload r) := by
  by_contra hl
  rw [parseRequest_wrong_length (request_kind_range r) hl (parseRequest_payload r)] at he
  cases he

/-! ### The tests of R176 -/

theorem takeTested_unknown {p : PortId} {kind : Nat} {parsed : Option Request} {s : State} (h : knownKind kind = false) :
    takeTested p kind parsed s = (.fixed [5], portHeard p s) := by
  simp [takeTested, h, plain, Status.encode, enc1]

theorem takeTested_wrongPort {p : PortId} {kind : Nat} {parsed : Option Request} {s : State} (hk : knownKind kind = true)
    (h : permitted p kind = false) : takeTested p kind parsed s = (.fixed [4], portHeard p s) := by
  simp [takeTested, hk, h, plain, Status.encode, enc1]

theorem permitted_known {p : PortId} {kind : Nat} (h : permitted p kind = true) : knownKind kind = true := by
  cases p <;> simp only [permitted, decide_eq_true_eq] at h <;> exact decide_eq_true (by omega)

theorem takeTested_badArgument {p : PortId} {kind : Nat} {parsed : Option Request} {s : State}
    (hp : permitted p kind = true) (h : ∀ r, parsed = some r → encodingOk r = false) :
    takeTested p kind parsed s = (.fixed [3], portHeard p s) := by
  cases parsed with
  | none => simp [takeTested, permitted_known hp, hp, plain, Status.encode, enc1]
  | some r => simp [takeTested, permitted_known hp, hp, h r rfl, plain, Status.encode, enc1]

theorem exec_takeTested {c : Instr} {p : PortId} {r : Request} (hc : requestOf c = some (p, r)) {s : State}
    {payload : List Byte}
    (ht : takeTested p r.kind (some r) (finishReplies p s) = (.fixed payload, s.ready p)) :
    exec c s = .next ((s.ready p).answered p r.kind payload) := by
  rw [exec_requestOf hc, takeRow, ht]
  exact congrArg _ (sendReply_fixed p r.kind payload (s.ready p))

/-- Settles O33: the tests of R176 in their order, and a frame laid out as a request does what its row does. -/
theorem requestsRefusedByPorts : Obligations.RequestsRefusedByPorts := by
  refine ⟨fun c p r s hc => ⟨fun hp => ?_, fun hp he => ?_, requestPayload_length, ?_⟩, fun p kind payload s =>
    ⟨fun hk => ?_, fun hk hp => ?_, fun hp hl => ?_⟩⟩
  · exact exec_takeTested hc (takeTested_wrongPort (knownKind_request r) hp)
  · exact exec_takeTested hc (takeTested_badArgument hp (fun _ h => Option.some.inj h ▸ he))
  · simp only [takeFrame, kind_byte, parseRequest_payload]
    exact exec_requestOf hc s
  · exact takeTested_unknown (decide_eq_false (by omega))
  · exact takeTested_wrongPort (decide_eq_true hk) hp
  · exact takeTested_badArgument hp (fun _ => parseRequest_wrong_length (of_decide_eq_true (permitted_known hp)) hl)

end Sys2Proof.Machine
end

section
/-! STATUS and STATION_STATUS field by field (R154, R180), EVENTS and SUBSCRIBE (R183). -/

namespace Sys2Proof.Machine

/-! ### Lengths and optional fields -/

@[simp] theorem be_length (n : Nat) (v : Int) : (be n v).length = n := by simp [be]

@[simp] theorem optField_length (n : Nat) (v : Option Int) : (optField n v).length = n + 1 := by
  cases v <;> simp [optField]

@[simp] theorem yesNo_length (b : Bool) : (yesNo b).length = 1 := be_length 1 _

theorem be_zero (n : Nat) : be n 0 = List.replicate n 0 := by
  simp [be, List.map_const']

/-- An optional field of a list of bytes (R178). -/
theorem optField_eq (n : Nat) (v : Option Int) : optField n v = encOpt n (v.map (be n)) := by
  cases v with
  | none => rw [optField_none]; rfl
  | some x => rfl

theorem enc2_toNat (w : Half) : enc2 w.toNat = encHalf w := by rw [← be_two_eq, be_two_half]

theorem enc4_toNat (w : Long) : enc4 w.toNat = encLong w := by rw [← be_four_eq, be_four_long]

/-! ### Section 0 -/

/-- A place of the halt entries as the section LINE lays it out (R180). -/
def haltPlace : Option HaltEntry → List Byte
  | none => be 7 0
  | some e => be 1 e.stopIndex ++ be 2 e.marks.toNat ++ be 4 e.time.toNat

/-- The move as the section LINE lays it out (R180). -/
def moveField : Option Move → List Byte
  | none => be 16 0
  | some m => 1 :: (be 1 m.direction.code ++ be 4 m.distance ++ yesNo m.startKnown ++ optField 4 m.endpoint ++
      be 4 (Int.tdiv m.remaining 2000))

theorem haltPlace_eq (e : Option HaltEntry) : haltPlace e = encHaltPlace e := by
  cases e with
  | none => rw [haltPlace, be_zero]; rfl
  | some e => simp only [haltPlace, encHaltPlace, be_one_nat, be_two_half, be_four_long]

theorem moveField_eq (m : Option Move) : moveField m = encOpt 15 (m.map Move.encode) := by
  cases m with
  | none => rw [moveField, be_zero]; rfl
  | some m => simp only [moveField, Option.map_some, encOpt, Move.encode, be_one_nat, be_four_eq, yesNo_eq,
      optField_four, encOptMm]

theorem lineSection_fields (s : State) : lineSection s =
    (let t := s.tsq
    be 1 t.state.code ++ optField 1 (t.step.map (·.code)) ++ yesNo t.resume ++ optField 1 (t.phase.map (·.code)) ++
    be 1 t.direction.code ++ optField 1 (t.origin.map Int.ofNat) ++ optField 1 (t.target.map Int.ofNat) ++
    optField 4 (s.cpt.target.map (·.position)) ++ be 1 t.mode.code ++ be 4 t.lastChange.toNat ++ yesNo t.silent ++
    moveField t.move ++ be 1 t.halts.length ++ haltPlace t.halts[0]? ++ haltPlace t.halts[1]? ++
    haltPlace t.halts[2]? ++ haltPlace t.halts[3]? ++ haltPlace t.halts[4]? ++ haltPlace t.halts[5]? ++
    be 4 s.clock.toNat ++
    optField 2 (s.timeOfDay.map Int.ofNat) ++ yesNo s.lts.committed ++ yesNo (!t.silent) ++ yesNo s.lpu.carLinks.a.up ++
    yesNo s.lpu.carLinks.b.up ++ yesNo s.lpu.gateLinks.lower.up ++ yesNo s.lpu.gateLinks.upper.up) := rfl

theorem haltPlaces_eq (halts : List HaltEntry) : (List.range 6).flatMap (fun i => encHaltPlace halts[i]?) =
    haltPlace halts[0]? ++ haltPlace halts[1]? ++ haltPlace halts[2]? ++ haltPlace halts[3]? ++ haltPlace halts[4]? ++
      haltPlace halts[5]? := by
  simp [List.range_succ, haltPlace_eq]

theorem numberField_eq (t : Option Nat) : optField 2 (t.map Int.ofNat) =
    encOpt 2 ((do let m ← t; pure (m : Int)).map (fun m => enc2 m)) := by
  cases t <;> simp [optField_eq, be_two_eq]

theorem codeField_eq (v : Option Nat) : optField 1 (v.map Int.ofNat) = encOptCode v := by
  cases v <;> simp [optField_eq, encOptCode, be_one_nat]

/-- Section 0 of STATUS (R180). -/
theorem lineSection_eq (s : State) : lineSection s = statusLine s := by
  unfold statusLine
  rw [lineSection_fields]
  simp only [haltPlaces_eq, moveField_eq, numberField_eq, codeField_eq, State.linkUp, List.append_assoc]
  simp only [be_one_nat, yesNo_eq, enc4_toNat, optField_eq, be_four_eq, encOptCode, encOptMm, Option.map_map,
    Function.comp_def]

theorem lineSection_length (s : State) : (lineSection s).length = 94 := by
  have hplace (e : Option HaltEntry) : (haltPlace e).length = 7 := by cases e <;> simp [haltPlace]
  have hmove (m : Option Move) : (moveField m).length = 16 := by cases m <;> simp [moveField]
  simp [lineSection_fields, hplace, hmove]

/-! ### Section 1 -/

/-- Section 1 of STATUS (R180). -/
theorem measurementSection_eq (s : State) : measurementSection s = statusMeasurement s := by
  unfold measurementSection statusMeasurement
  simp only [optField_four]
  simp only [encChannel, be_one_nat, yesNo_eq, be_four_eq, be_two_eq, optField_eq, encOptCode, encOptMm, Option.map_map, Function.comp_def, Srg.vRefMm]

theorem measurementSection_length (s : State) : (measurementSection s).length = 48 := by
  unfold measurementSection
  simp

/-! ### Section 2 -/

/-- A door-side record as the section CARS lays it out (R180). -/
def doorField (d : DoorRecord) : List Byte :=
  be 1 d.command.code ++ optField 1 (d.closed.map (fun b => if b then 1 else 0)) ++
    optField 1 (d.locked.map (fun b => if b then 1 else 0)) ++ optField 4 (d.reportTime.map (·.toNat)) ++
    be 1 d.orders ++ yesNo (decide (d.command = .holdClosed ∧ d.closed = some true ∧ d.locked = some true))

/-- A last marker as the section CARS lays it out. -/
def markerField : Option MarkerRecord → List Byte
  | none => be 14 0
  | some m => 1 :: (be 1 m.id.toNat ++ be 3 m.odo.toNat ++ be 4 m.error ++ be 1 m.result.code ++ be 4 m.time.toNat)

/-- An arrival result as the section CARS lays it out. -/
def arrivalField : Option ArrivalRecord → List Byte
  | none => be 7 0
  | some r => 1 :: (be 1 r.result.code ++ be 1 r.stopIndex ++ be 4 r.error)

/-- The stop target record as the section CARS lays it out. -/
def targetField : Option StopTarget → List Byte
  | none => be 7 0
  | some g => 1 :: (be 1 g.stopIndex ++ be 4 g.position ++ yesNo g.frozen)

theorem flagField_eq (v : Option Bool) : optField 1 (v.map (fun b => if b then 1 else 0)) = encOpt 1 (v.map encBool) := by
  rcases v with _ | _ | _ <;> rfl

theorem doorField_eq (d : DoorRecord) : doorField d = d.encode := by
  simp only [doorField, DoorRecord.encode, flagField_eq, be_one_nat, yesNo_eq, optField_four, Option.map_map,
    Function.comp_def, enc4_toNat, DoorRecord.proven, Bool.decide_and, Bool.and_assoc]

theorem markerField_eq (m : Option MarkerRecord) : markerField m = encOpt 13 (m.map MarkerRecord.encode) := by
  cases m with
  | none => rw [markerField, be_zero]; rfl
  | some m =>
    have hid : enc1 m.id.toNat = [m.id] := by simp [enc1]
    simp only [markerField, Option.map_some, encOpt, MarkerRecord.encode, be_one_nat, be_three_odo, hid, be_four_long,
      be_four_eq m.error]

theorem arrivalField_eq (r : Option ArrivalRecord) : arrivalField r = encOpt 6 (r.map ArrivalRecord.encode) := by
  cases r with
  | none => rw [arrivalField, be_zero]; rfl
  | some r => simp only [arrivalField, Option.map_some, encOpt, ArrivalRecord.encode, be_one_nat, be_four_eq]

theorem targetField_eq (g : Option StopTarget) : targetField g = encOpt 6 (g.map StopTarget.encode) := by
  cases g with
  | none => rw [targetField, be_zero]; rfl
  | some g => simp only [targetField, Option.map_some, encOpt, StopTarget.encode, be_one_nat, be_four_eq, yesNo_eq]

/-- The passage counters of a car as the section CARS lays them out. -/
def countersField : Option Snapshot → List Byte
  | none => be 5 0
  | some p => 1 :: (be 2 p.inC.toNat ++ be 2 p.outC.toNat)

/-- A car as the section CARS lays it out. -/
def carField (s : State) (c : Car) : List Byte :=
  let u := s.cpt.cars.get c
  be 4 (s.estimate c) ++ be 2 u.offset ++ optField 3 (u.lastOdo.map (·.toNat)) ++ markerField u.lastMarker ++
    arrivalField u.arrival ++ be 1 (s.bcu.loads.get c).load ++ countersField (s.bcu.loads.get c).snap ++
    doorField ((s.dru.get c).get .left) ++ doorField ((s.dru.get c).get .right) ++ yesNo (s.obs.carFault.get c)

theorem carsSection_fields (s : State) :
    carsSection s = carField s .a ++ carField s .b ++ targetField s.cpt.target := rfl

theorem countersField_eq (p : Option Snapshot) :
    countersField p = encOpt 4 (p.map (fun p => encHalf p.inC ++ encHalf p.outC)) := by
  cases p with
  | none => rw [countersField, be_zero]; rfl
  | some p => simp only [countersField, Option.map_some, encOpt, be_two_half]

theorem odoField_eq (v : Option Odo) : optField 3 (v.map (·.toNat)) = encOpt 3 (v.map enc3) := by
  cases v with
  | none => rfl
  | some w => simp only [optField_eq, Option.map_some, be_three_odo]

theorem carField_eq (s : State) (c : Car) : carField s c = encCar s c := by
  unfold carField encCar
  simp only [odoField_eq, markerField_eq, arrivalField_eq, countersField_eq, doorField_eq, be_four_eq, be_two_eq,
    be_one_nat, yesNo_eq, PerSide.get]

/-- Section 2 of STATUS (R180). -/
theorem carsSection_eq (s : State) : carsSection s = statusCars s := by
  rw [carsSection_fields, carField_eq, carField_eq, targetField_eq, statusCars]

theorem carField_length (s : State) (c : Car) : (carField s c).length = 62 := by
  have hdoor (d : DoorRecord) : (doorField d).length = 12 := by simp [doorField]
  have hmarker (m : Option MarkerRecord) : (markerField m).length = 14 := by cases m <;> simp [markerField]
  have harrival (r : Option ArrivalRecord) : (arrivalField r).length = 7 := by cases r <;> simp [arrivalField]
  have hcounters (p : Option Snapshot) : (countersField p).length = 5 := by cases p <;> simp [countersField]
  simp [carField, hdoor, hmarker, harrival, hcounters]

theorem carsSection_length (s : State) : (carsSection s).length = 131 := by
  have htarget : (targetField s.cpt.target).length = 7 := by cases s.cpt.target <;> simp [targetField]
  simp [carsSection_fields, carField_length, htarget]

/-! ### Section 3 -/

/-- The rollback measure as the section SUPERVISION lays it out (R180). -/
def rollbackField : Rollback → List Byte
  | .inactive => be 1 0 ++ be 4 0
  | .running rb2 => be 1 1 ++ be 4 (Int.tdiv rb2 2000)
  | .standing st2 => be 1 2 ++ be 4 (Int.tdiv st2 2000)

/-- A brake as the section SUPERVISION lays it out. -/
def brakeField (b : BrakeRecord) : List Byte := be 1 b.command.code ++ be 1 b.proof.code

theorem supervisionSection_fields (s : State) : supervisionSection s =
    yesNo s.obs.envelope ++ be 2 s.obs.fSup ++ yesNo s.obs.inspSup ++ optField 2 (s.obs.aSup.map Int.ofNat) ++
    be 1 s.obs.direction.code ++ optField 4 s.obs.endpoint ++ be 4 (s.obs.rE2 / 2000) ++ yesNo s.obs.ctlStop ++
    optField 2 (s.obs.vPerm2.map (fun v => (isqrt v : Int))) ++ yesNo s.obs.excursion ++ yesNo s.standstill ++
    rollbackField s.obs.rollback ++ be 1 s.braking.code ++ optField 1 (s.obs.trippedFrom.map (·.code)) ++
    yesNo s.obs.stopLatch ++ brakeField s.obs.brakes.sbk ++ brakeField s.obs.brakes.ebk ++
    yesNo (decide (s.obs.brakes.sbk.reading = .lifted)) ++
    yesNo (decide (s.obs.brakes.ebk.reading = .lifted)) ++ yesNo s.obs.pfail ++ yesNo s.obs.railBrake := rfl

theorem rollbackField_eq (r : Rollback) : rollbackField r = enc1 r.code ++ enc4 r.millimetres := by
  cases r <;> rw [rollbackField, be_four_eq] <;> rfl

theorem readingField_eq (r : Feedback) : yesNo (decide (r = .lifted)) = enc1 r.code := by
  cases r <;> rfl

/-- Section 3 of STATUS (R180). -/
theorem supervisionSection_eq (s : State) : supervisionSection s = statusSupervision s := by
  unfold statusSupervision
  rw [supervisionSection_fields]
  simp only [rollbackField_eq, readingField_eq, numberField_eq, optField_four]
  simp only [yesNo_eq, be_one_nat, be_two_eq, be_four_eq, optField_eq, brakeField, BrakeRecord.encode, encOptCode,
    encOptMm, Option.map_map, Function.comp_def, List.append_assoc]

theorem supervisionSection_length (s : State) : (supervisionSection s).length = 40 := by
  have hrollback (r : Rollback) : (rollbackField r).length = 5 := by cases r <;> simp [rollbackField]
  simp [supervisionSection_fields, brakeField, hrollback]

/-! ### Sections 4 and 5 -/

/-- Section 4 of STATUS (R180). -/
theorem causesSection_eq (s : State) : causesSection s = statusCauses s := by
  simp only [causesSection, statusCauses, be_one_nat, optField_four, be_two_eq, be_four_long]
  rfl

theorem causesSection_length (s : State) : (causesSection s).length = 1 + 13 * s.obs.causes.length := by
  simp [causesSection, List.length_flatMap, Nat.mul_comm]

theorem settleLeft_eq (b : Batch) : settleLeft b = encSettle b.settle := by
  simp only [settleLeft, encSettle, optField_four, Option.map_map, Function.comp_def]
  rfl

/-- Section 5 of STATUS (R180). -/
theorem stationsSection_eq (s : State) : stationsSection s = statusStations s := by
  have hpersons (b : Batch) : (b.pending.map (fun x => (x.persons : Int))).sum = (b.pendingPersons : Int) := by
    rw [Batch.pendingPersons, Nat.cast_list_sum, List.map_map]
    rfl
  simp only [stationsSection, statusStations, Batch.encode, be_one_nat, settleLeft_eq, hpersons]

theorem stationsSection_length (s : State) : (stationsSection s).length = 26 := by
  simp [stationsSection, settleLeft]

/-! ### STATION_STATUS -/

/-- The car that stands at a terminal while the line is STOPPED there (R151, R154). -/
def standingCar (st : Station) (s : State) : Option Car :=
  if s.tsq.state = .stopped then
    if s.tsq.target = some 0 then some (match st with | .lower => .a | .upper => .b)
    else if s.tsq.target.any (fun k => k + 1 = s.lts.stopCount) then some (match st with | .lower => .b | .upper => .a)
    else none
  else none

theorem standingCar_eq (st : Station) (s : State) : standingCar st s = s.carAtPlatform st := by
  unfold standingCar State.carAtPlatform
  cases hs : s.tsq.state <;> cases ht : s.tsq.target <;> cases st <;> simp [Lts.carAtTerminal]

theorem stationContent_fields (st : Station) (s : State) : stationContent st s =
    (let b := s.bcu.batches.get st
    be 1 st.code ++ be 1 b.state.code ++ be 1 b.passed ++ be 1 b.pending.length ++ be 1 b.pendingPersons ++
    be 1 b.platformCount ++ be 1 s.capacity ++ settleLeft b ++ be 1 b.carried ++ be 1 b.boarded ++
    be 1 (carCode (standingCar st s)) ++ optField 1 ((standingCar st s).map (fun c => (s.load c : Int))) ++
    be 1 (departureDirection st).code ++ be 1 s.tsq.state.code ++ be 1 s.tsq.mode.code) := by
  have hcode (c : Option Car) : (carCode c : Int) = (match c with | some .a => 0 | some .b => 1 | none => 2) := by
    rcases c with _ | _ | _ <;> rfl
  simp only [hcode]
  cases st <;> rfl

/-- The reply to STATION_STATUS (R154). -/
theorem stationStatusReply_eq (st : Station) (s : State) : stationStatusReply st s = 0 :: stationContent st s := by
  unfold stationStatusReply
  rw [stationContent_fields]
  simp only [be_one_nat, standingCar_eq, settleLeft_eq, optField_eq, Option.map_map, Function.comp_def, Status.encode,
    List.append_assoc]
  rfl

/-! ### The marks of a halt entry -/

theorem haltSource_mark_lt (x : HaltSource) : x.mark < 16 := by
  rcases x with ⟨line, _⟩ | ⟨_ | _⟩ | _ <;> simp only [HaltSource.mark] <;> omega

theorem marks_getLsbD (sources : List HaltSource) (marks : Half) {k : Nat} (hk : k < 16) :
    (sources.foldl (fun m src => m ||| (1#16 <<< src.mark)) marks).getLsbD k =
      (marks.getLsbD k || sources.any (fun x => decide (x.mark = k))) := by
  induction sources generalizing marks with
  | nil => simp
  | cons x rest ih =>
    have hbit : (1#16 <<< x.mark).getLsbD k = decide (x.mark = k) := by
      rw [BitVec.getLsbD_shiftLeft, BitVec.getLsbD_one, Bool.eq_iff_iff]
      simp only [Bool.and_eq_true, Bool.not_eq_true', decide_eq_true_eq, decide_eq_false_iff_not]
      omega
    rw [List.foldl_cons, ih, BitVec.getLsbD_or, hbit, List.any_cons, Bool.or_assoc]

/-! ### The rows -/

/-- The content of a section of STATUS. -/
theorem statusContent_eq (sect : Fin 6) (s : State) : statusContent (BitVec.ofNat 8 sect.val) s =
    [lineSection s, measurementSection s, carsSection s, supervisionSection s, causesSection s,
      stationsSection s].getD sect.val [] := by
  simp only [lineSection_eq, measurementSection_eq, carsSection_eq, supervisionSection_eq, causesSection_eq,
    stationsSection_eq]
  fin_cases sect <;> rfl

theorem sections_length (sect : Fin 6) (s : State) :
    ([lineSection s, measurementSection s, carsSection s, supervisionSection s, causesSection s,
      stationsSection s].getD sect.val []).length =
    [94, 48, 131, 40, 1 + 13 * s.obs.causes.length, 26].getD sect.val 0 := by
  fin_cases sect
  · exact lineSection_length s
  · exact measurementSection_length s
  · exact carsSection_length s
  · exact supervisionSection_length s
  · exact causesSection_length s
  · exact stationsSection_length s

theorem exec_status (sect : Fin 6) (s : State) : exec (.status .p0 (BitVec.ofNat 8 sect.val)) s =
    .next ((s.ready .p0).answered .p0 1 (0 :: BitVec.ofNat 8 sect.val :: statusContent (BitVec.ofNat 8 sect.val)
      (s.ready .p0))) := by
  have he : encodingOk (.status (BitVec.ofNat 8 sect.val)) = true := by fin_cases sect <;> rfl
  exact exec_fixed (show requestOf (.status .p0 _) = some (.p0, .status _) from rfl) rfl he rfl

theorem exec_stationStatus (st : Station) (s : State) : exec (.stationStatus st.port) s =
    .next ((s.ready st.port).answered st.port 23 (stationStatusReply st (s.ready st.port))) := by
  have hp : permitted st.port 23 = true := by cases st <;> rfl
  refine exec_fixed (show requestOf (.stationStatus st.port) = some (st.port, .stationStatus) from rfl) hp rfl ?_
  cases st <;> rfl

theorem exec_events (p : PortId) (s : State) : exec (.events p) s =
    .next ((takeEvents p (s.ready p)).2.answered p 2 (takeEvents p (s.ready p)).1) :=
  exec_fixed (show requestOf (.events p) = some (p, .events) from rfl) (by cases p <;> rfl) rfl rfl

theorem exec_subscribe (p : PortId) (kinds : Half) (s : State) : exec (.subscribe p kinds) s =
    .next ((takeSubscribe p kinds (s.ready p)).answered p 3 [0]) :=
  exec_plain (x := (.ok, takeSubscribe p kinds (s.ready p)))
    (show requestOf (.subscribe p kinds) = some (p, .subscribe kinds) from rfl) (by cases p <;> rfl) rfl rfl

/-- SUBSCRIBE keeps of the event set the kinds subscribed to (R183). -/
theorem takeSubscribe_eq (p : PortId) (kinds : Half) (s : State) : takeSubscribe p kinds s =
    s.updPort p (fun r => { r with subs := kinds, events := (s.lpu.ports.get p).events &&& kinds }) := rfl

/-- Settles O34: STATUS and STATION_STATUS field by field, EVENTS and SUBSCRIBE. -/
theorem statusAndEventsAnswered : Obligations.StatusAndEventsAnswered := by
  refine ⟨fun s => ⟨fun sect => ⟨?_, sections_length sect _⟩, fun st => ?_⟩, fun e k hk => ?_, fun p kinds s => ⟨?_, ?_⟩⟩
  · rw [exec_status, statusContent_eq]
  · rw [exec_stationStatus, stationStatusReply_eq]
  · simpa [HaltEntry.marks] using marks_getLsbD e.sources 0 hk
  · exact exec_events p s
  · rw [exec_subscribe, takeSubscribe_eq]

end Sys2Proof.Machine
end

section
/-! TABLE_WRITE and TABLE_READ (R181, R190). -/

namespace Sys2Proof.Machine

/-! ### Words and their bytes -/

/-- The last byte of a word. -/
theorem extract_last {m : Nat} (x : BitVec m) (b : Byte) : (x ++ b).extractLsb' 0 8 = b := by
  apply BitVec.eq_of_getLsbD_eq
  intro i hi
  simp [BitVec.getLsbD_append, hi]

/-- The bytes before the last byte of a word. -/
theorem extract_before {m : Nat} (x : BitVec m) (b : Byte) (k : Nat) :
    (x ++ b).extractLsb' (k + 8) 8 = x.extractLsb' k 8 := by
  apply BitVec.eq_of_getLsbD_eq
  intro i hi
  simp [BitVec.getLsbD_append, hi, show ¬ k + 8 + i < 8 by omega, show k + 8 + i - 8 = k + i by omega]

theorem extract_only (b : Byte) : b.extractLsb' 0 8 = b := by
  apply BitVec.eq_of_getLsbD_eq
  intro i hi
  simp [hi]

theorem encHalf_half (a b : Byte) : encHalf (half a b) = [a, b] := by
  have hhi : (half a b).extractLsb' 8 8 = a := (extract_before a b 0).trans (extract_only a)
  rw [encHalf, hhi, show (half a b).extractLsb' 0 8 = b from extract_last a b]

theorem encLong_long (a b c d : Byte) : encLong (long a b c d) = [a, b, c, d] := by
  have htop : (long a b c d).extractLsb' 24 8 = a :=
    ((extract_before _ d 16).trans ((extract_before _ c 8).trans (extract_before a b 0))).trans (extract_only a)
  have hhi : (long a b c d).extractLsb' 16 8 = b :=
    (extract_before _ d 8).trans ((extract_before _ c 0).trans (extract_last a b))
  have hlo : (long a b c d).extractLsb' 8 8 = c := (extract_before _ d 0).trans (extract_last _ c)
  rw [encLong, htop, hhi, hlo, show (long a b c d).extractLsb' 0 8 = d from extract_last _ d]

/-- A presence byte that passes the tests is the coding of what it says (R178). -/
theorem encBool_yes {b : Byte} (h : isFlag b = true) : encBool (yes b) = [b] := by
  have hb : b.toNat ≤ 1 := of_decide_eq_true h
  have hcase : b = 0 ∨ b = 1 := by
    rcases Nat.le_one_iff_eq_zero_or_eq_one.mp hb with h0 | h1
    · exact .inl (BitVec.eq_of_toNat_eq h0)
    · exact .inr (BitVec.eq_of_toNat_eq h1)
  rcases hcase with rfl | rfl <;> rfl

/-! ### The bytes of an entry -/

theorem elim_eq_getD_map {α : Type} (o : Option α) {f g : α → List Byte} (h : ∀ x, f x = g x) :
    o.elim [] f = (o.map g).getD [] := by
  cases o with
  | none => rfl
  | some x => exact h x

theorem ruleBytes_eq (e : RuleSlot) : (let masked (m : Masked) : List Byte := [m.value, m.mask]
    let cared (c : Cared) : List Byte := [c.value, c.care]
    let r := e.slot.val
    yesNo e.slot.valid ++ [r.stage] ++ masked r.link ++ masked r.gate ++ masked r.kindClass ++
      be 2 r.product.value.toNat ++ be 2 r.product.mask.toNat ++ masked r.concession ++ masked r.groupSize ++
      masked r.range ++ cared r.station ++ cared r.ridesFlag ++ cared r.directionMatch ++ cared r.lineMode ++
      cared r.batchState ++ cared r.fillLevel ++ [r.actionKind, r.linkValue, r.outcome, r.persons, r.reasonCode,
        r.deductRide, r.passbackExempt, r.displayCode] ++ be 2 e.hits) =
    encBool e.slot.valid ++ e.slot.val.bytes ++ encHalf (BitVec.ofNat 16 e.hits) := by
  have hhits : be 2 (e.hits : Int) = encHalf (BitVec.ofNat 16 e.hits) := by
    rw [be_two_eq, enc2, encHalf, BitVec.ofInt_natCast]
  simp only [hhits, be_two_half, yesNo_eq, RuleEntry.bytes, List.append_assoc, List.cons_append, List.nil_append]

/-- TABLE_READ sends the bytes of the entry (R181, R190). -/
theorem entryBytes_eq (t : Lts) (table index : Nat) : entryBytes t table index = t.read table index := by
  match table with
  | 0 => exact elim_eq_getD_map _ fun v => by simp only [yesNo_eq, be_four_eq, BitVec.ofInt_toInt, enc4]
  | 1 => exact elim_eq_getD_map _ fun e => by simp only [yesNo_eq, be_four_long]
  | 2 => exact elim_eq_getD_map _ fun e => by simp only [yesNo_eq, be_four_long, be_two_half]
  | 3 => exact elim_eq_getD_map _ fun e => by simp only [yesNo_eq, be_four_long]
  | 4 =>
    exact elim_eq_getD_map _ fun e => by
      simp only [yesNo_eq, be_two_eq e.val.bound.toInt, be_two_half, enc2, encHalf, BitVec.ofInt_toInt]
  | 5 => exact elim_eq_getD_map _ fun e => by simp only [yesNo_eq, be_two_half]
  | 6 => exact elim_eq_getD_map _ fun e => by simp only [yesNo_eq]
  | 7 => exact elim_eq_getD_map _ ruleBytes_eq
  | 8 => exact elim_eq_getD_map _ fun e => by simp only [yesNo_eq, be_two_half]
  | n + 9 => rfl

/-! ### An entry stored -/

/-- Only the entry at the index is stored. -/
theorem stored_other {α : Type} {n : Nat} (v : Vector α n) {k index i : Nat} (x : α) (h : ¬ (k = k ∧ i = index)) :
    (v.setIfInBounds index x)[i]? = v[i]? :=
  Vector.getElem?_setIfInBounds_ne fun he => h ⟨rfl, he.symm⟩

/-- The entry at the index is the one stored. -/
theorem stored_self {α : Type} {n : Nat} (v : Vector α n) {index : Nat} (x : α) (h : index < n) (f : α → List Byte) :
    ((v.setIfInBounds index x)[index]?.map f).getD [] = f x := by
  rw [Vector.getElem?_setIfInBounds_self_of_lt h]
  rfl

/-- A write keeps every other entry, and what it stores reads back (R190, R162, R181). -/
def Stores (table index : Nat) (presence : Byte) (contents : List Byte) (t : Lts) : Prop :=
  let u := t.write table index (yes presence) contents
  SameBut table index u t ∧
    u.read table index = presence :: contents ++ (if table = 7 then [0, 0] else [])

section
variable {index : Nat} {presence : Byte} {contents : List Byte} (t : Lts)

theorem stores_params (hi : index < 34) (hp : presence = 1) (hl : contents.length = 4) :
    Stores 0 index presence contents t := by
  obtain ⟨a, b, c, d, rfl⟩ : ∃ a b c d, contents = [a, b, c, d] := by
    match contents, hl with
    | [a, b, c, d], _ => exact ⟨a, b, c, d, rfl⟩
  refine ⟨⟨fun i h => stored_other _ _ h, fun _ _ => rfl, fun _ _ => rfl, fun _ _ => rfl, fun _ _ => rfl,
    fun _ _ => rfl, fun _ _ => rfl, fun _ _ => rfl, fun _ _ => rfl, rfl, rfl⟩, ?_⟩
  refine (stored_self _ _ hi _).trans ?_
  rw [encLong_long, hp]
  rfl

theorem stores_stops (hi : index < 8) (hp : isFlag presence = true) (hl : contents.length = 11) :
    Stores 1 index presence contents t := by
  obtain ⟨a, b, c, d, e, f, g, h, i, j, k, rfl⟩ : ∃ a b c d e f g h i j k, contents = [a, b, c, d, e, f, g, h, i, j, k] := by
    match contents, hl with
    | [a, b, c, d, e, f, g, h, i, j, k], _ => exact ⟨a, b, c, d, e, f, g, h, i, j, k, rfl⟩
  refine ⟨⟨fun _ _ => rfl, fun i h => stored_other _ _ h, fun _ _ => rfl, fun _ _ => rfl, fun _ _ => rfl,
    fun _ _ => rfl, fun _ _ => rfl, fun _ _ => rfl, fun _ _ => rfl, rfl, rfl⟩, ?_⟩
  refine (stored_self _ _ hi _).trans ?_
  rw [encLong_long, encLong_long, encBool_yes hp]
  rfl

theorem stores_segments (hi : index < 32) (hp : isFlag presence = true) (hl : contents.length = 6) :
    Stores 2 index presence contents t := by
  obtain ⟨a, b, c, d, e, f, rfl⟩ : ∃ a b c d e f, contents = [a, b, c, d, e, f] := by
    match contents, hl with
    | [a, b, c, d, e, f], _ => exact ⟨a, b, c, d, e, f, rfl⟩
  refine ⟨⟨fun _ _ => rfl, fun _ _ => rfl, fun i h => stored_other _ _ h, fun _ _ => rfl, fun _ _ => rfl,
    fun _ _ => rfl, fun _ _ => rfl, fun _ _ => rfl, fun _ _ => rfl, rfl, rfl⟩, ?_⟩
  refine (stored_self _ _ hi _).trans ?_
  rw [encLong_long, encHalf_half, encBool_yes hp]
  rfl

theorem stores_markers (hi : index < 32) (hp : isFlag presence = true) (hl : contents.length = 5) :
    Stores 3 index presence contents t := by
  obtain ⟨a, b, c, d, e, rfl⟩ : ∃ a b c d e, contents = [a, b, c, d, e] := by
    match contents, hl with
    | [a, b, c, d, e], _ => exact ⟨a, b, c, d, e, rfl⟩
  refine ⟨⟨fun _ _ => rfl, fun _ _ => rfl, fun _ _ => rfl, fun i h => stored_other _ _ h, fun _ _ => rfl,
    fun _ _ => rfl, fun _ _ => rfl, fun _ _ => rfl, fun _ _ => rfl, rfl, rfl⟩, ?_⟩
  refine (stored_self _ _ hi _).trans ?_
  rw [encLong_long, encBool_yes hp]
  rfl

theorem stores_bands (hi : index < 4) (hp : isFlag presence = true) (hl : contents.length = 8) :
    Stores 4 index presence contents t := by
  obtain ⟨a, b, c, d, e, f, g, h, rfl⟩ : ∃ a b c d e f g h, contents = [a, b, c, d, e, f, g, h] := by
    match contents, hl with
    | [a, b, c, d, e, f, g, h], _ => exact ⟨a, b, c, d, e, f, g, h, rfl⟩
  refine ⟨⟨fun _ _ => rfl, fun _ _ => rfl, fun _ _ => rfl, fun _ _ => rfl, fun i h => stored_other _ _ h,
    fun _ _ => rfl, fun _ _ => rfl, fun _ _ => rfl, fun _ _ => rfl, rfl, rfl⟩, ?_⟩
  refine (stored_self _ _ hi _).trans ?_
  rw [encHalf_half, encHalf_half, encHalf_half, encHalf_half, encBool_yes hp]
  rfl

theorem stores_channels (hi : index < 4) (hp : isFlag presence = true) (hl : contents.length = 4) :
    Stores 5 index presence contents t := by
  obtain ⟨a, b, c, d, rfl⟩ : ∃ a b c d, contents = [a, b, c, d] := by
    match contents, hl with
    | [a, b, c, d], _ => exact ⟨a, b, c, d, rfl⟩
  refine ⟨⟨fun _ _ => rfl, fun _ _ => rfl, fun _ _ => rfl, fun _ _ => rfl, fun _ _ => rfl,
    fun i h => stored_other _ _ h, fun _ _ => rfl, fun _ _ => rfl, fun _ _ => rfl, rfl, rfl⟩, ?_⟩
  refine (stored_self _ _ hi _).trans ?_
  rw [encHalf_half, encBool_yes hp]
  rfl

theorem stores_calls (hi : index < 8) (hp : isFlag presence = true) (hl : contents.length = 2) :
    Stores 6 index presence contents t := by
  obtain ⟨a, b, rfl⟩ : ∃ a b, contents = [a, b] := by
    match contents, hl with
    | [a, b], _ => exact ⟨a, b, rfl⟩
  refine ⟨⟨fun _ _ => rfl, fun _ _ => rfl, fun _ _ => rfl, fun _ _ => rfl, fun _ _ => rfl, fun _ _ => rfl,
    fun i h => stored_other _ _ h, fun _ _ => rfl, fun _ _ => rfl, rfl, rfl⟩, ?_⟩
  refine (stored_self _ _ hi _).trans ?_
  rw [encBool_yes hp]
  rfl

theorem stores_ranges (hi : index < 8) (hp : isFlag presence = true) (hl : contents.length = 5) :
    Stores 8 index presence contents t := by
  obtain ⟨a, b, c, d, e, rfl⟩ : ∃ a b c d e, contents = [a, b, c, d, e] := by
    match contents, hl with
    | [a, b, c, d, e], _ => exact ⟨a, b, c, d, e, rfl⟩
  refine ⟨⟨fun _ _ => rfl, fun _ _ => rfl, fun _ _ => rfl, fun _ _ => rfl, fun _ _ => rfl, fun _ _ => rfl,
    fun _ _ => rfl, fun _ _ => rfl, fun i h => stored_other _ _ h, rfl, rfl⟩, ?_⟩
  refine (stored_self _ _ hi _).trans ?_
  rw [encHalf_half, encHalf_half, encBool_yes hp]
  rfl

/-- The 37 bytes of a rule are read as an entry that is sent as those bytes (R181). -/
theorem readRule_bytes {bytes : List Byte} (hl : bytes.length = 37) :
    ∃ r, readRule bytes = some r ∧ r.bytes = bytes := by
  refine ⟨_, if_pos hl, ?_⟩
  have hbytes : bytes = (List.range 37).map (fun i => bytes.getD i 0) := by
    apply List.ext_getElem (by simp [hl])
    intro i h1 h2
    simp [h1]
  simp only [RuleEntry.bytes, encHalf_half]
  conv_rhs => rw [hbytes]
  rfl

theorem stores_rules (hi : index < 128) (hp : isFlag presence = true) (hl : contents.length = 37) :
    Stores 7 index presence contents t := by
  obtain ⟨r, hr, hbytes⟩ := readRule_bytes hl
  have hw : t.write 7 index (yes presence) contents =
      { t with rules := t.rules.setIfInBounds index ⟨⟨yes presence, r⟩, 0⟩ } := by
    simp only [Lts.write, hr]
  unfold Stores
  rw [hw]
  refine ⟨⟨fun _ _ => rfl, fun _ _ => rfl, fun _ _ => rfl, fun _ _ => rfl, fun _ _ => rfl, fun _ _ => rfl,
    fun _ _ => rfl, fun i h => stored_other _ _ h, fun _ _ => rfl, rfl, rfl⟩, ?_⟩
  refine (stored_self _ _ hi _).trans ?_
  rw [hbytes, encBool_yes hp, if_pos rfl, show encHalf (BitVec.ofNat 16 0) = [0, 0] from rfl]
  rfl

/-- A write that passes the tests of R176 stores its entry (R190). -/
theorem stores_of_encodingOk {table : Byte} {i : Byte} (h : encodingOk (.tableWrite table i presence contents) = true) :
    Stores table.toNat i.toNat presence contents t := by
  simp only [encodingOk, Bool.and_eq_true, decide_eq_true_eq] at h
  obtain ⟨⟨⟨hi, hflag⟩, hparam⟩, hl⟩ := h
  unfold tableSize at hi
  unfold contentsLength at hl
  generalize table.toNat = n at hi hl hparam ⊢
  split at hi
  · exact stores_params t hi (hparam rfl) hl
  · exact stores_stops t hi hflag hl
  · exact stores_segments t hi hflag hl
  · exact stores_markers t hi hflag hl
  · exact stores_bands t hi hflag hl
  · exact stores_channels t hi hflag hl
  · exact stores_calls t hi hflag hl
  · exact stores_rules t hi hflag hl
  · exact stores_ranges t hi hflag hl
  · omega

end

/-! ### After power-on reset -/

theorem replicate_read {α : Type} {n index : Nat} (x : α) (h : index < n) (f : α → List Byte) :
    ((Vector.replicate n x)[index]?.map f).getD [] = f x := by
  rw [Vector.getElem?_replicate_of_lt h]
  rfl

theorem reset_read {table index : Byte} (h : encodingOk (.tableRead table index) = true) (h0 : table.toNat ≠ 0) :
    State.reset.lts.read table.toNat index.toNat = (if table.toNat = 5 then [0, 3, 0, 0, 0]
      else List.replicate ([0, 12, 7, 6, 9, 0, 3, 40, 6].getD table.toNat 0) 0) := by
  have hi : index.toNat < tableSize table := of_decide_eq_true h
  unfold tableSize at hi
  generalize table.toNat = n at hi h0 ⊢
  split at hi
  · exact absurd rfl h0
  · exact replicate_read _ hi _
  · exact replicate_read _ hi _
  · exact replicate_read _ hi _
  · exact replicate_read _ hi _
  · exact replicate_read _ hi _
  · exact replicate_read _ hi _
  · exact replicate_read _ hi _
  · exact replicate_read _ hi _
  · omega

/-! ### The rows -/

theorem exec_tableWrite {table index presence : Byte} {contents : List Byte}
    (he : encodingOk (.tableWrite table index presence contents) = true) (s : State) :
    exec (.tableWrite .p0 table index presence contents) s =
      .next ((takeTableWrite table index presence contents (s.ready .p0)).2.answered .p0 17
        (takeTableWrite table index presence contents (s.ready .p0)).1.encode) :=
  exec_plain (show requestOf (.tableWrite .p0 table index presence contents) =
    some (.p0, .tableWrite table index presence contents) from rfl) rfl he rfl

theorem exec_tableRead {table index : Byte} (he : encodingOk (.tableRead table index) = true) (s : State) :
    exec (.tableRead .p0 table index) s = .next ((s.ready .p0).answered .p0 18
      (0 :: entryBytes (s.ready .p0).lts table.toNat index.toNat)) := by
  rw [entryBytes_eq]
  exact exec_fixed (show requestOf (.tableRead .p0 table index) = some (.p0, .tableRead table index) from rfl) rfl he rfl

/-- The index that a write passes the tests with passes them for a read. -/
theorem tableRead_of_tableWrite {table index presence : Byte} {contents : List Byte}
    (he : encodingOk (.tableWrite table index presence contents) = true) : encodingOk (.tableRead table index) = true := by
  simp only [encodingOk, Bool.and_eq_true] at he ⊢
  exact he.1.1.1

theorem byte_eq_iff {b : Byte} (k : Nat) (hk : k < 256) : b = BitVec.ofNat 8 k ↔ b.toNat = k := by
  rw [← BitVec.toNat_inj, BitVec.toNat_ofNat, Nat.mod_eq_of_lt (by omega)]

theorem ite_byte {b : Byte} (k : Nat) (hk : k < 256) (x y : List Byte) :
    (if b.toNat = k then x else y) = if b = BitVec.ofNat 8 k then x else y := by
  simp only [byte_eq_iff k hk]

/-- Settles O49: a stored entry reads back, every other entry stands, and TABLE_READ answers in every state. -/
theorem writtenEntryReadsBack : Obligations.WrittenEntryReadsBack := by
  refine ⟨fun table index presence contents s _ he => ⟨fun hs => ?_, fun hs => ?_⟩, fun table index s he =>
    exec_tableRead he s, fun table index he h0 => ?_⟩
  · rw [exec_tableWrite he, takeTableWrite, if_pos hs]
    rfl
  · obtain ⟨hsame, hread⟩ := stores_of_encodingOk (s.ready .p0).lts he
    rw [← entryBytes_eq, ite_byte 7 (by omega)] at hread
    refine ⟨(s.ready .p0).updLts (fun l => l.write table.toNat index.toNat (yes presence) contents), ?_, hsame, rfl,
      hread, fun v hv => ?_⟩
    · rw [exec_tableWrite he, takeTableWrite, if_neg (not_not.mpr hs)]
      rfl
    · rw [exec_tableRead (tableRead_of_tableWrite he), hv]
      exact congrArg (fun bytes => Host.Outcome.next (State.answered _ .p0 18 (0 :: bytes))) hread
  · have hne : table.toNat ≠ 0 := fun h => h0 ((byte_eq_iff 0 (by omega)).mpr h)
    rw [entryBytes_eq, reset_read he hne, ite_byte 5 (by omega)]
    rfl

end Sys2Proof.Machine
end

section
/-! The fourteen checks of a COMMIT (Table 1-3, R11 to R17), each by the rule that states it. -/

namespace Sys2Proof.Machine

/-! ### The lowest index that fails -/

/-- The lowest index below a bound at which a test fails. -/
theorem firstFailing_iff {n i : Nat} {f : Nat → Bool} :
    firstFailing n f = some i ↔ (i < n ∧ f i = true) ∧ ∀ k < i, ¬ (k < n ∧ f k = true) := by
  rw [firstFailing, List.find?_range_eq_some]
  constructor
  · rintro ⟨hf, hi, hlow⟩
    exact ⟨⟨List.mem_range.mp hi, hf⟩, fun k hk ⟨_, h⟩ => by simpa [h] using hlow k hk⟩
  · rintro ⟨⟨hi, hf⟩, hlow⟩
    exact ⟨hf, List.mem_range.mpr hi, fun k hk => by simpa [show k < n by omega] using hlow k hk⟩

/-- A check that reports the lowest index that fails, by the test of each entry. -/
theorem firstFailing_fails {n i c : Nat} {f : Nat → Bool} {t : Lts} (h : ∀ i, entryFails t c i ↔ i < n ∧ f i = true) :
    firstFailing n f = some i ↔ entryFails t c i ∧ ∀ k < i, ¬ entryFails t c k := by
  simp only [firstFailing_iff, h]

/-! ### Parameters (R12) -/

theorem inRange_iff {v low high : Int} : inRange v low high = true ↔ low ≤ v ∧ v ≤ high := decide_eq_true_iff

theorem getElem?_vector {α : Type} {n i : Nat} (v : Vector α n) (h : i < n) : v[i]? = some v[i] :=
  Vector.getElem?_eq_getElem h

/-- Check 1 (R12). -/
theorem param_fails (t : Lts) (i : Nat) : entryFails t 1 i ↔ i < 34 ∧ (!t.paramOk i) = true := by
  by_cases hi : i < 34
  · simp only [entryFails, hi, true_and, Bool.not_eq_true', Lts.paramOk, getElem?_vector t.params hi, Option.mem_some_iff,
      exists_eq_left', Option.map_some, Option.getD_some, ← Bool.not_eq_true]
    generalize (t.params[i]).toInt = v
    interval_cases i
    all_goals simp [paramRanges, inRange_iff]
    all_goals omega
  · simp [entryFails, hi]

/-- Check 2 (R12). -/
theorem margins_fail (t : Lts) (i : Nat) : t.marginsFail = some i ↔ checkFails t 2 i := by
  simp only [Lts.marginsFail, checkFails]
  split_ifs <;> simp <;> omega

/-! ### Stops (R13, R14) -/

theorem stopValid_beyond {t : Lts} {k : Nat} (h : 8 ≤ k) : t.stopValid k = false := by
  simp [Lts.stopValid, Vector.getElem?_eq_none h]

/-- An entry at or beyond the first empty one (R13, R15). -/
theorem firstEmpty_le_iff {n k : Nat} {valid : Nat → Bool} (hk : k < n) :
    firstEmpty n valid ≤ k ↔ ∃ j < k + 1, valid j = false := by
  rw [firstEmpty]
  cases hf : firstFailing n (fun k => !valid k) with
  | none =>
    have hall : ∀ j < n, valid j = true := by simpa [firstFailing, List.find?_eq_none] using hf
    refine ⟨fun h => absurd h (by simpa using hk), fun ⟨j, hj, hv⟩ => absurd (hall j (by omega)) (by simp [hv])⟩
  | some e =>
    obtain ⟨⟨he, hv⟩, hlow⟩ := firstFailing_iff.mp hf
    simp only [Bool.not_eq_true'] at hv hlow
    refine ⟨fun h => ⟨e, Nat.lt_succ_of_le h, hv⟩, fun ⟨j, hj, hvj⟩ => ?_⟩
    by_contra hlt
    simp only [Option.getD_some, Nat.not_le] at hlt
    exact hlow j (by omega) ⟨by omega, hvj⟩

/-- Check 3 (R13). -/
theorem stopShape_fail (t : Lts) (i : Nat) : t.stopShapeFail = some i ↔ checkFails t 3 i := by
  have hstray (k : Nat) : (k < 8 ∧ (decide (firstEmpty 8 t.stopValid ≤ k) && t.stopValid k) = true) ↔
      t.stopValid k = true ∧ ∃ j < k, t.stopValid j = false := by
    rcases Nat.lt_or_ge k 8 with hk | hk
    · simp only [hk, true_and, Bool.and_eq_true, decide_eq_true_eq, firstEmpty_le_iff hk]
      refine ⟨fun ⟨⟨j, hj, hv⟩, hk'⟩ => ⟨hk', j, ?_, hv⟩, fun ⟨hk', j, hj, hv⟩ => ⟨⟨j, by omega, hv⟩, hk'⟩⟩
      rcases Nat.lt_succ_iff_lt_or_eq.mp hj with h | rfl
      · exact h
      · simp [hv] at hk'
    · simp [stopValid_beyond hk, Nat.not_lt.mpr hk]
  simp only [Lts.stopShapeFail, checkFails]
  cases h0 : t.stopValid 0 with
  | false =>
    simpa using eq_comm
  | true =>
    cases h1 : t.stopValid 1 with
    | false =>
      simpa using eq_comm
    | true =>
      simp only [Bool.not_true, Bool.false_eq_true, if_false, firstFailing_iff, hstray]
      simp [and_assoc]

/-- Check 4 (R13). -/
theorem terminalMarks_fail (t : Lts) (i : Nat) : t.terminalMarksFail = some i ↔ checkFails t 4 i := by
  simp only [Lts.terminalMarksFail, checkFails]
  split_ifs <;> simp_all [eq_comm]

/-- Check 5 (R13). -/
theorem stopMark_fails (t : Lts) (k : Nat) : entryFails t 5 k ↔ k < t.stopCount ∧
    (!(inRange (t.stopMark .b k) 0 t.lineLength &&
      decide (1 ≤ k → t.stopMark .a (k - 1) < t.stopMark .a k) &&
      decide (1 ≤ k → t.stopMark .b k < t.stopMark .b (k - 1)) &&
      decide ((t.stop k).sideA.toNat ≤ 3) && decide ((t.stop k).sideB.toNat ≤ 3) &&
      decide ((t.stop k).service.toNat ≤ 2))) = true := by
  simp only [entryFails, Bool.not_eq_true', ← Bool.not_eq_true, Bool.and_eq_true, decide_eq_true_eq, inRange_iff,
    imp_and, and_assoc]

/-- Check 6 (R14). -/
theorem stopSum_fails (t : Lts) (k : Nat) : entryFails t 6 k ↔ k < t.stopCount ∧
    decide (((t.stopMark .a k + t.stopMark .b k - t.lineLength).natAbs : Int) > 2 * t.maxCorr) = true := by
  simp only [entryFails, decide_eq_true_eq, gt_iff_lt]

theorem byte_ne_zero {b : Byte} : b ≠ 0 ↔ b.toNat ≠ 0 := not_congr (byte_eq_iff 0 (by omega))

theorem terminalOk_iff (t : Lts) (k : Nat) : t.terminalOk k = true ↔ terminalServed t k := by
  simp only [Lts.terminalOk, terminalServed, Lts.always, Lts.hasPlatform, Lts.sideCode, Bool.and_eq_true,
    decide_eq_true_eq, byte_ne_zero, and_assoc]
  exact and_congr (byte_eq_iff 0 (by omega)).symm (and_congr decide_eq_true_iff decide_eq_true_iff)

/-- Check 7 (R14). -/
theorem terminals_fail (t : Lts) (i : Nat) : t.terminalsFail = some i ↔ checkFails t 7 i := by
  simp only [Lts.terminalsFail, checkFails, ← terminalOk_iff]
  cases t.terminalOk 0 <;> cases t.terminalOk (t.stopCount - 1) <;> simp [eq_comm]

/-! ### Segments and load bands (R15) -/

theorem segmentValid_at {t : Lts} {j : Nat} (h : j < 32) : t.segmentValid j = t.segments[j].valid := by
  simp [Lts.segmentValid, h]

/-- Check 8 (R15), an entry at a time. -/
theorem segment_fails (t : Lts) (j : Nat) : entryFails t 8 j ↔ j < 32 ∧
    (if ∃ k < j + 1, t.segmentValid k = false then j = 0 ∨ t.segmentValid j = true else t.segmentOk j = false) := by
  by_cases hj : j < 32
  · have hstart : t.segmentStart j = t.segments[j].val.start.toNat := by simp [Lts.segmentStart, hj]
    have hcap : t.segmentCap j = t.segments[j].val.cap.toNat := by simp [Lts.segmentCap, hj]
    simp only [entryFails, getElem?_vector t.segments hj, Option.mem_some_iff, exists_eq_left', hj, true_and,
      segmentValid_at hj]
    by_cases hempty : ∃ k < j + 1, t.segmentValid k = false
    · rw [if_pos hempty, if_pos hempty]
    rw [if_neg hempty, if_neg hempty, ← Bool.not_eq_true, not_iff_not]
    simp only [Lts.segmentOk, Bool.and_eq_true, decide_eq_true_eq, hstart, hcap, and_assoc]
    refine and_congr_left fun _ => forall_congr' fun h0 => ?_
    subst h0
    rw [hstart, show (0 : Long) = BitVec.ofNat 32 0 from rfl, ← BitVec.toNat_inj]
    simp
  · simp [entryFails, hj]

/-- Check 8 (R15). -/
theorem segments_fail (t : Lts) (i : Nat) :
    t.segmentsFail = some i ↔ entryFails t 8 i ∧ ∀ k < i, ¬ entryFails t 8 k := by
  simp only [Lts.segmentsFail]
  by_cases h0 : firstEmpty 32 t.segmentValid = 0
  · have hv : t.segmentValid 0 = false := by
      obtain ⟨j, hj, hv⟩ := (firstEmpty_le_iff (by omega)).mp h0.le
      rwa [show j = 0 by omega] at hv
    have hfirst : entryFails t 8 0 := (segment_fails t 0).mpr ⟨by omega, by simp [hv]⟩
    rw [if_pos h0]
    refine ⟨fun h => ?_, fun ⟨_, hlow⟩ => ?_⟩
    · cases h
      exact ⟨hfirst, by omega⟩
    · by_contra hne
      exact hlow 0 (by simp at hne; omega) hfirst
  · rw [if_neg h0, firstFailing_fails]
    intro j
    rw [segment_fails]
    refine and_congr_right fun hj => ?_
    have hv : t.segmentValid 0 = true := by
      rw [← Bool.not_eq_false]
      exact fun hv => h0 (Nat.le_zero.mp ((firstEmpty_le_iff (by omega)).mpr ⟨0, by omega, hv⟩))
    simp only [← firstEmpty_le_iff hj]
    by_cases hlt : j < firstEmpty 32 t.segmentValid
    · simp [hlt, Nat.not_le.mpr hlt]
    · have hor : (j = 0 ∨ t.segmentValid j = true) ↔ t.segmentValid j = true :=
        ⟨fun h => h.elim (fun h => h ▸ hv) id, .inr⟩
      simp only [hlt, Nat.not_lt.mp hlt, if_true, if_false, hor]

/-- Check 9 (R15), an entry at a time. -/
theorem band_fails (t : Lts) (i : Nat) : entryFails t 9 i ↔ i < 4 ∧ (match t.bands[i]? with
    | none => true
    | some e =>
      !(e.valid && inRange e.val.bound.toInt (-32767) 32767 &&
        decide (1 ≤ i → t.bandBound (i - 1) < e.val.bound.toInt) &&
        inRange e.val.aAcc.toNat 100 2000 && inRange e.val.aDec.toNat 100 2000 &&
        inRange e.val.aSup.toNat 100 2000 && decide (e.val.aDec.toNat ≤ e.val.aSup.toNat))) = true := by
  by_cases hi : i < 4
  · have hbound : (∀ k, i = k + 1 → ∀ f ∈ t.bands[k]?, f.val.bound.toInt < t.bands[i].val.bound.toInt) ↔
        (1 ≤ i → t.bandBound (i - 1) < t.bands[i].val.bound.toInt) := by
      refine ⟨fun h h1 => ?_, fun h k hk f hf => ?_⟩
      · have hlt : i - 1 < 4 := by omega
        simpa [Lts.bandBound, hlt] using h (i - 1) (by omega) t.bands[i - 1] (by simp [hlt])
      · have hb := h (by omega)
        rw [show i - 1 = k by omega] at hb
        have hf' : t.bands[k]? = some f := hf
        simpa [Lts.bandBound, hf'] using hb
    have htop : t.bands[i].val.bound.toInt ≤ 32767 := by
      have := BitVec.toInt_lt (x := t.bands[i].val.bound)
      norm_num at this
      omega
    simp only [entryFails, getElem?_vector t.bands hi, Option.mem_some_iff, exists_eq_left', hi, true_and, hbound,
      Bool.not_eq_true', ← Bool.not_eq_true, Bool.and_eq_true, decide_eq_true_eq, inRange_iff, htop, and_true,
      List.mem_cons, List.not_mem_nil, or_false, forall_eq_or_imp, forall_eq, and_assoc, Nat.ofNat_le_cast,
      Nat.cast_le_ofNat]
  · simp [entryFails, hi]

/-! ### Markers, call lines, rules and range checkers (R16, R17) -/

theorem validMarkerId_iff {t : Lts} {j : Nat} {id : Byte} :
    t.validMarkerId j = some id ↔ ∃ f ∈ t.markers[j]?, f.valid = true ∧ f.val.id = id := by
  unfold Lts.validMarkerId
  cases t.markers[j]? with
  | none => simp
  | some f => by_cases hf : f.valid = true <;> simp [hf]

/-- Check 11 (R16), an entry at a time. -/
theorem marker_fails (t : Lts) (i : Nat) : entryFails t 11 i ↔ i < 32 ∧ (match t.markers[i]? with
    | none => false
    | some e =>
      e.valid && !(decide (1 ≤ e.val.id.toNat) && decide ((e.val.position.toNat : Int) ≤ t.lineLength) &&
        !((List.range i).any (fun j => decide (t.validMarkerId j = some e.val.id))))) = true := by
  by_cases hi : i < 32
  · have hid : (t.markers[i].val.id = 0) ↔ ¬ 1 ≤ t.markers[i].val.id.toNat := by
      rw [show (0 : Byte) = BitVec.ofNat 8 0 from rfl, byte_eq_iff 0 (by omega)]
      omega
    simp only [entryFails, getElem?_vector t.markers hi, Option.mem_some_iff, exists_eq_left', hi, true_and, hid,
      Bool.and_eq_true, Bool.not_eq_true', Bool.and_eq_false_iff, decide_eq_false_iff_not, Bool.not_eq_false',
      List.any_eq_true, List.mem_range, decide_eq_true_eq, validMarkerId_iff, Int.not_le, or_assoc]
  · simp [entryFails, hi]

/-- Check 12 (R16), an entry at a time. -/
theorem call_fails (t : Lts) (i : Nat) : entryFails t 12 i ↔ i < 8 ∧ (match t.calls[i]? with
    | none => false
    | some e =>
      let k := e.val.stopIndex.toNat
      e.valid && !(decide (e.val.car.toNat ≤ 1) && decide (1 ≤ k ∧ k + 2 ≤ t.stopCount) &&
        t.hasPlatform (if e.val.car.toNat = 0 then .a else .b) k)) = true := by
  by_cases hi : i < 8
  · have hcar : (t.calls[i].val.car = 0) ↔ t.calls[i].val.car.toNat = 0 := byte_eq_iff 0 (by omega)
    have hstop : (t.calls[i].val.stopIndex = 0) ↔ t.calls[i].val.stopIndex.toNat = 0 := byte_eq_iff 0 (by omega)
    simp only [entryFails, getElem?_vector t.calls hi, Option.mem_some_iff, exists_eq_left', hi, true_and, hcar, hstop,
      Bool.and_eq_true, Bool.not_eq_true', Bool.and_eq_false_iff, decide_eq_false_iff_not]
    refine and_congr_right fun _ => ?_
    rw [← or_assoc, ← or_assoc]
    exact or_congr_left (by omega)
  · simp [entryFails, hi]

theorem isFlag_false {b : Byte} : isFlag b = false ↔ 2 ≤ b.toNat := by
  rw [isFlag, decide_eq_false_iff_not]
  omega

/-- Check 13 (R17), an entry at a time. -/
theorem rule_fails (t : Lts) (i : Nat) : entryFails t 13 i ↔ i < 128 ∧ (match t.rules[i]? with
    | none => false
    | some e =>
      e.slot.valid && decide (e.slot.val.stage.toNat = 1 ∨ e.slot.val.stage.toNat = 2) && e.slot.val.bad) = true := by
  by_cases hi : i < 128
  · have hbyte (b : Byte) (k : Nat) (hk : k < 256) : b.toNat = k ↔ b = BitVec.ofNat 8 k := (byte_eq_iff k hk).symm
    simp only [entryFails, getElem?_vector t.rules hi, Option.mem_some_iff, exists_eq_left', hi, true_and, RuleEntry.bad,
      Bool.and_eq_true, Bool.or_eq_true, Bool.not_eq_true', Bool.and_eq_false_iff, decide_eq_false_iff_not,
      decide_eq_true_eq, isFlag_false, Nat.not_le, List.mem_cons, List.not_mem_nil, or_false, exists_eq_or_imp,
      exists_eq_left, hbyte _ 1 (by omega), hbyte _ 2 (by omega), and_assoc, or_assoc, Nat.succ_le_iff]
    rfl
  · simp [entryFails, hi]

/-- Check 14 (R17), an entry at a time. -/
theorem range_fails (t : Lts) (i : Nat) : entryFails t 14 i ↔ i < 8 ∧ (match t.ranges[i]? with
    | none => false
    | some e => e.valid && decide (e.val.high.toNat < e.val.low.toNat)) = true := by
  by_cases hi : i < 8
  · simp [entryFails, hi]
  · simp [entryFails, hi]

end Sys2Proof.Machine
end

section
/-! The channel role map (R16), and the first of the fourteen checks that fails (R11). -/

namespace Sys2Proof.Machine

/-! ### The channel role map (R16) -/

theorem second_of_filter : ∀ (p : Fin 4 → Bool) (c : Fin 4), ([(0 : Fin 4), 1, 2, 3].filter p)[1]? = some c ↔
    p c = true ∧ ∃ j < c, p j = true ∧ ∀ k < c, p k = true → k = j := by decide

theorem lowest_of_find : ∀ (p : Fin 4 → Bool) (c : Fin 4), [(0 : Fin 4), 1, 2, 3].find? p = some c ↔
    p c = true ∧ ∀ d < c, ¬ p d = true := by decide

theorem none_of_find : ∀ p : Fin 4 → Bool, [(0 : Fin 4), 1, 2, 3].find? p = none ↔ ∀ c, ¬ p c = true := by decide

theorem none_of_filter : ∀ p : Fin 4 → Bool, [(0 : Fin 4), 1, 2, 3].filter p = [] ↔ ∀ c, ¬ p c = true := by decide

theorem secondHolder_iff (t : Lts) (role i : Nat) :
    t.secondHolder role = some i ↔ ∃ c : Fin 4, i = c.val ∧ secondWithRole t role c := by
  simp only [Lts.secondHolder, Lts.holders, Option.map_eq_some_iff, second_of_filter, decide_eq_true_eq]
  exact ⟨fun ⟨c, h, hi⟩ => ⟨c, hi.symm, h⟩, fun ⟨c, hi, h⟩ => ⟨c, h, hi.symm⟩⟩

theorem secondHolder_none {t : Lts} {role : Nat} : t.secondHolder role = none ↔ ∀ c, ¬ secondWithRole t role c := by
  rw [Option.eq_none_iff_forall_ne_some]
  simp only [ne_eq, secondHolder_iff]
  exact ⟨fun h c hc => h c.val ⟨c, rfl, hc⟩, fun h i ⟨c, _, hc⟩ => h c hc⟩

/-- One channel at most is the second that holds a role. -/
theorem secondWithRole_unique {t : Lts} {role : Nat} {c d : Fin 4} (hc : secondWithRole t role c)
    (hd : secondWithRole t role d) : c = d := by
  have h1 := (secondHolder_iff t role c.val).mpr ⟨c, rfl, hc⟩
  have h2 := (secondHolder_iff t role d.val).mpr ⟨d, rfl, hd⟩
  exact Fin.ext (Option.some.inj (h1.symm.trans h2))

theorem channelBad_iff (t : Lts) (i : Fin 4) : t.channelBad i = true ↔ channelFails t i := by
  have hrole : (t.channels.get i).val.role ≠ 3 ↔ (t.channels.get i).val.role.toNat ≠ 3 :=
    not_congr (byte_eq_iff 3 (by omega))
  have hpitch : (t.channels.get i).val.pitch = 0 ↔ (t.channels.get i).val.pitch.toNat = 0 :=
    BitVec.toNat_inj.symm
  simp only [Lts.channelBad, channelFails, hrole, hpitch, Bool.and_eq_true, Bool.not_eq_true', ← Bool.not_eq_true,
    decide_eq_true_eq]
  refine and_congr_right fun _ => ?_
  omega

/-- The lower of the second holders of MAIN2 and SLIP (R16). -/
def lowerSecond : Option Nat → Option Nat → Option Nat
  | some i, some j => some (min i j)
  | some i, none => some i
  | none, some j => some j
  | none, none => none

/-- The one second holder of a role. -/
theorem secondHolder_some {t : Lts} {role i : Nat} (h : t.secondHolder role = some i) :
    ∃ c : Fin 4, i = c.val ∧ ∀ d, secondWithRole t role d ↔ d = c := by
  obtain ⟨c, hi, hc⟩ := (secondHolder_iff t role i).mp h
  exact ⟨c, hi, fun d => ⟨fun hd => secondWithRole_unique hd hc, fun hd => hd ▸ hc⟩⟩

theorem lowerSecond_iff (t : Lts) (i : Nat) : lowerSecond (t.secondHolder 1) (t.secondHolder 2) = some i ↔
    ∃ c : Fin 4, i = c.val ∧ (secondWithRole t 1 c ∨ secondWithRole t 2 c) ∧
      ∀ d < c, ¬ secondWithRole t 1 d ∧ ¬ secondWithRole t 2 d := by
  have hlow (c : Fin 4) : ∀ d < c, d ≠ c := fun d hd => ne_of_lt hd
  cases h1 : t.secondHolder 1 with
  | none =>
    have hn := secondHolder_none.mp h1
    cases h2 : t.secondHolder 2 with
    | none => simp [lowerSecond, hn, secondHolder_none.mp h2]
    | some j =>
      obtain ⟨c, rfl, hc⟩ := secondHolder_some h2
      simp only [lowerSecond, hn, hc, false_or, not_false_eq_true, true_and, Option.some.injEq]
      exact ⟨fun h => ⟨c, h.symm, rfl, hlow c⟩, fun ⟨d, hi, hd, _⟩ => hd ▸ hi.symm⟩
  | some i1 =>
    obtain ⟨a, rfl, ha⟩ := secondHolder_some h1
    cases h2 : t.secondHolder 2 with
    | none =>
      simp only [lowerSecond, secondHolder_none.mp h2, ha, or_false, not_false_eq_true, and_true, Option.some.injEq]
      exact ⟨fun h => ⟨a, h.symm, rfl, hlow a⟩, fun ⟨d, hi, hd, _⟩ => hd ▸ hi.symm⟩
    | some j =>
      obtain ⟨b, rfl, hb⟩ := secondHolder_some h2
      simp only [lowerSecond, ha, hb, Option.some.injEq]
      constructor
      · rintro rfl
        refine ⟨min a b, (Fin.coe_min a b).symm, min_choice a b, fun d hd => ⟨?_, ?_⟩⟩
        · exact ne_of_lt (lt_of_lt_of_le hd (min_le_left a b))
        · exact ne_of_lt (lt_of_lt_of_le hd (min_le_right a b))
      · rintro ⟨c, rfl, rfl | rfl, hl⟩
        · exact Nat.min_eq_left (Nat.not_lt.mp fun h => (hl b h).2 rfl)
        · exact Nat.min_eq_right (Nat.not_lt.mp fun h => (hl a h).1 rfl)

/-- Check 10 (R16): the lowest entry bad of itself, no MAIN1, or a second holder of a role. -/
theorem channelsFail_eq (t : Lts) : t.channelsFail =
    (([(0 : Fin 4), 1, 2, 3].find? t.channelBad).map Fin.val).or
      (if t.holders 0 = [] then some 0
      else (t.secondHolder 0).or (lowerSecond (t.secondHolder 1) (t.secondHolder 2))) := by
  unfold Lts.channelsFail
  cases [(0 : Fin 4), 1, 2, 3].find? t.channelBad with
  | some i => rfl
  | none =>
    by_cases hm : t.holders 0 = []
    · simp [hm]
    · simp only [hm, if_false]
      cases t.secondHolder 0 <;> cases t.secondHolder 1 <;> cases t.secondHolder 2 <;> rfl

theorem channels_fail (t : Lts) (i : Nat) : t.channelsFail = some i ↔ checkFails t 10 i := by
  have hnone : ([(0 : Fin 4), 1, 2, 3].find? t.channelBad).map Fin.val = none ↔ ∀ c, ¬ channelFails t c := by
    simp only [Option.map_eq_none_iff, none_of_find, channelBad_iff]
  have hsome : ([(0 : Fin 4), 1, 2, 3].find? t.channelBad).map Fin.val = some i ↔
      ∃ c : Fin 4, i = c.val ∧ channelFails t c ∧ ∀ d < c, ¬ channelFails t d := by
    simp only [Option.map_eq_some_iff, lowest_of_find, channelBad_iff]
    exact ⟨fun ⟨c, h, hi⟩ => ⟨c, hi.symm, h⟩, fun ⟨c, hi, h⟩ => ⟨c, h, hi.symm⟩⟩
  have hmain : t.holders 0 = [] ↔ ∀ c, t.role c ≠ 0 := by
    simp only [Lts.holders, none_of_filter, decide_eq_true_eq, ne_eq]
  have hsecond : (t.secondHolder 0).or (lowerSecond (t.secondHolder 1) (t.secondHolder 2)) = some i ↔
      ∃ c : Fin 4, i = c.val ∧ (secondWithRole t 0 c ∨ ((∀ d, ¬ secondWithRole t 0 d) ∧
        (secondWithRole t 1 c ∨ secondWithRole t 2 c) ∧ ∀ d < c, ¬ secondWithRole t 1 d ∧ ¬ secondWithRole t 2 d)) := by
    rw [Option.or_eq_some_iff, secondHolder_iff, secondHolder_none, lowerSecond_iff]
    constructor
    · rintro (⟨c, hi, hc⟩ | ⟨hn, c, hi, hc⟩)
      · exact ⟨c, hi, .inl hc⟩
      · exact ⟨c, hi, .inr ⟨hn, hc⟩⟩
    · rintro ⟨c, hi, hc | ⟨hn, hc⟩⟩
      · exact .inl ⟨c, hi, hc⟩
      · exact .inr ⟨hn, c, hi, hc⟩
  rw [channelsFail_eq, Option.or_eq_some_iff, hsome, hnone]
  refine or_congr_right (and_congr_right fun _ => ?_)
  by_cases hm : ∀ c, t.role c ≠ 0
  · rw [if_pos (hmain.mpr hm)]
    refine ⟨fun h => .inl ⟨hm, (Option.some.inj h).symm⟩, ?_⟩
    rintro (⟨-, rfl⟩ | ⟨_, _, ⟨c, hc⟩, _⟩)
    · rfl
    · exact absurd hc (hm c)
  · rw [if_neg (fun h => hm (hmain.mp h)), hsecond]
    have hex : ∃ c, t.role c = 0 := by simpa using hm
    refine ⟨fun ⟨c, hi, hc⟩ => .inr ⟨c, hi, hex, hc⟩, ?_⟩
    rintro (⟨hall, -⟩ | ⟨c, hi, -, hc⟩)
    · exact absurd hall hm
    · exact ⟨c, hi, hc⟩

/-! ### The first check that fails (R11) -/

/-- The table and what a check of Table 1-3 reports. -/
def Lts.checkAt (t : Lts) (check : Nat) : Option (Nat × Option Nat) := if check = 0 then none else t.checks[check - 1]?

/-- What each check reports, by its rule. -/
theorem check_iff (t : Lts) (check i : Nat) : checkFails t check i ↔
    t.checkAt check = some ([0, 0, 0, 1, 1, 1, 1, 1, 2, 4, 5, 3, 6, 7, 8].getD check 0, some i) := by
  have hat {table : Nat} {r : Option Nat} {c : Prop} (h : r = some i ↔ c) : c ↔ some (table, r) = some (table, some i) := by
    simp [h]
  match check with
  | 0 => exact ⟨fun h => h.1.elim, nofun⟩
  | 1 => exact hat (firstFailing_fails (param_fails t))
  | 2 => exact hat (margins_fail t i)
  | 3 => exact hat (stopShape_fail t i)
  | 4 => exact hat (terminalMarks_fail t i)
  | 5 => exact hat (firstFailing_fails (stopMark_fails t))
  | 6 => exact hat (firstFailing_fails (stopSum_fails t))
  | 7 => exact hat (terminals_fail t i)
  | 8 => exact hat (segments_fail t i)
  | 9 => exact hat (firstFailing_fails (band_fails t))
  | 10 => exact hat (channels_fail t i)
  | 11 => exact hat (firstFailing_fails (marker_fails t))
  | 12 => exact hat (firstFailing_fails (call_fails t))
  | 13 => exact hat (firstFailing_fails (rule_fails t))
  | 14 => exact hat (firstFailing_fails (range_fails t))
  | n + 15 => exact ⟨fun h => h.1.elim, nofun⟩

theorem checkAt_succ {t : Lts} {n : Nat} : t.checkAt (n + 1) = t.checks[n]? := rfl

/-- The table that a check reports (Table 1-3). -/
theorem checkAt_table {t : Lts} {n table : Nat} {r : Option Nat} (h : t.checks[n]? = some (table, r)) :
    table = [0, 0, 0, 1, 1, 1, 1, 1, 2, 4, 5, 3, 6, 7, 8].getD (n + 1) 0 := by
  have htables : t.checks.map Prod.fst = [0, 0, 1, 1, 1, 1, 1, 2, 4, 5, 3, 6, 7, 8] := rfl
  have hat : (t.checks.map Prod.fst)[n]? = some table := by rw [List.getElem?_map, h]; rfl
  rw [htables] at hat
  rw [List.getD_cons_succ, List.getD_eq_getElem?_getD, hat]
  rfl

/-- A check that reports nothing fails with no index. -/
theorem check_passes {t : Lts} {n : Nat} (h : ∀ k, ¬ checkFails t (n + 1) k) {x : Nat × Option Nat}
    (hx : t.checks[n]? = some x) : x.2 = none := by
  obtain ⟨table, r⟩ := x
  cases r with
  | none => rfl
  | some k =>
    have hk := (check_iff t (n + 1) k).mpr (by rw [checkAt_succ, hx, checkAt_table hx])
    exact absurd hk (h k)

/-- The first element of a list of reports that reports anything. -/
theorem findSome_first {l : List (Nat × Option Nat)} {n table i : Nat} (h : l[n]? = some (table, some i))
    (hb : ∀ m < n, ∀ x, l[m]? = some x → x.2 = none) :
    l.findSome? (fun c => c.2.map (fun i => (c.1, i))) = some (table, i) := by
  induction l generalizing n with
  | nil => cases h
  | cons x rest ih =>
    cases n with
    | zero =>
      cases h
      rfl
    | succ n =>
      have hx := hb 0 (by omega) x rfl
      rw [List.findSome?_cons, hx]
      exact ih h fun m hm y hy => hb (m + 1) (by omega) y hy

/-- VALIDATION_FAILED reports the first check that fails (R11). -/
theorem validate_some {t : Lts} {check i : Nat} (h : checkFails t check i)
    (hb : ∀ earlier < check, ∀ k, ¬ checkFails t earlier k) :
    t.validate = some ([0, 0, 0, 1, 1, 1, 1, 1, 2, 4, 5, 3, 6, 7, 8].getD check 0, i) := by
  rw [check_iff] at h
  cases check with
  | zero => cases h
  | succ n => exact findSome_first h fun m hm x => check_passes (hb (m + 1) (by omega))

theorem validate_none {t : Lts} (h : ∀ check i, ¬ checkFails t check i) : t.validate = none := by
  rw [Lts.validate, List.findSome?_eq_none_iff]
  intro x hx
  obtain ⟨n, hn⟩ := List.mem_iff_getElem?.mp hx
  rw [check_passes (h (n + 1)) hn]
  rfl

/-! ### A COMMIT taken (R191) -/

theorem exec_commit (s : State) : exec (.commit .p0) s =
    .next ((takeCommit (s.ready .p0)).2.answered .p0 19 (takeCommit (s.ready .p0)).1.encode) :=
  exec_plain (show requestOf (.commit .p0) = some (.p0, .commit) from rfl) rfl rfl rfl

theorem takeCommit_refused {s : State} (h : s.tsq.state ≠ .configuring) : takeCommit s = (.refusedState, s) := by
  rw [takeCommit, if_pos h]

theorem takeCommit_failed {s : State} (h : s.tsq.state = .configuring) {table i : Nat}
    (hv : s.lts.validate = some (table, i)) : takeCommit s = (.validationFailed table i, s) := by
  rw [takeCommit, if_neg (not_not.mpr h), hv]

theorem takeCommit_taken {s : State} (h : s.tsq.state = .configuring) (hv : s.lts.validate = none) :
    takeCommit s = (.ok, commitTables s) := by
  rw [takeCommit, if_neg (not_not.mpr h), hv]

end Sys2Proof.Machine
end

section
/-! What a COMMIT leaves (R191, R190, R92). -/

namespace Sys2Proof.Machine

/-! ### The parts at a COMMIT -/

theorem channelWithRole_none {t : Lts} {role : Nat} (h : t.channelWithRole role = none) : ∀ i, t.role i ≠ role := by
  unfold Lts.channelWithRole at h
  split_ifs at h with h0 h1 h2 h3
  intro i
  fin_cases i <;> assumption

/-- Every mapped channel is IN_SERVICE at a COMMIT (R23). -/
theorem atCommit_inService {t : Lts} {c : Channel} {i : Fin 4} (h : t.role i ≤ 2) :
    (c.atCommit t i).state = .inService := by
  rw [Channel.atCommit]
  simp only [if_pos h]

/-- Two-channel measurement at a COMMIT: both main roles are held (R26). -/
theorem atCommit_twoChannel (t : Lts) (r : Rmu) :
    (r.atCommit t).twoChannel = decide ((∃ i, t.role i = 0) ∧ ∃ i, t.role i = 1) := by
  simp only [Rmu.atCommit, bothMainsInService]
  cases h0 : t.channelWithRole 0 with
  | none => simp [channelWithRole_none h0]
  | some i =>
    have hi := channelWithRole_role h0
    cases h1 : t.channelWithRole 1 with
    | none => simp [channelWithRole_none h1]
    | some j =>
      have hj := channelWithRole_role h1
      have hex : (∃ i, t.role i = 0) ∧ ∃ i, t.role i = 1 := ⟨⟨i, hi⟩, j, hj⟩
      simp [atCommit_inService (show t.role i ≤ 2 by omega), atCommit_inService (show t.role j ≤ 2 by omega), hex]

theorem clearHits_rules (t : Lts) : t.clearHits.rules = t.rules.map (fun e => { e with hits := 0 }) := by
  apply Vector.toList_inj.mp
  rw [Vector.toList_map]
  rfl

/-- A brake just commanded APPLIED (R93). -/
theorem applied_eq (limit : Nat) (b : BrakeRecord) : b.applied limit = { b with
    command := .applied
    proof := if b.reading = .dropped then .proven else .proving
    timer := if b.reading = .dropped then none else some ⟨0, limit⟩ } := by
  unfold BrakeRecord.applied
  split <;> simp [*]

/-- A brake just commanded LIFTED (R94). -/
theorem raised_eq (limit : Nat) (b : BrakeRecord) : b.raised limit = { b with
    command := .lifted
    proof := if b.reading = .lifted then .proven else .proving
    timer := if b.reading = .lifted then none else some ⟨0, limit⟩ } := by
  unfold BrakeRecord.raised
  split <;> simp [*]

/-! ### The state before a POWER_FAIL -/

/-- What a COMMIT whose checks all pass makes of the part, before a POWER_FAIL. -/
def committedState (u : State) : State := raise .configCommitted (changeTrip .outOfService none (committing u))

theorem eventMask_commit (changed : Bool) :
    eventMask (.tripStateChanged :: (eventIf changed .batchStateChanged ++ [.configCommitted])) =
      eventMask (.tripStateChanged :: .configCommitted :: eventIf changed .batchStateChanged) := by
  cases changed <;> decide

section
variable {u : State} (h : u.tsq.state = .configuring)
include h

theorem committing_state : (committing u).tsq.state ≠ .outOfService := by
  simp [committing, Tsq.atRest, h]

theorem committedState_committed : Committed u (committedState u) := by
  have hne := committing_state h
  refine ⟨?_, ?_, fun i => ?_, ?_, ?_, ?_, ?_, ?_, ?_, fun st => ?_, ?_, ?_, ?_⟩
  · rw [← clearHits_rules]
    simp [committedState, committing]
    rfl
  · rw [show (committedState u).tsq = (changeTrip .outOfService none (committing u)).tsq by simp [committedState],
      changeTrip_tsq none hne]
    simp [TripState.keepsDrive, committing, Tsq.atRest]
  · rw [show (committedState u).rmu = (changeTrip .outOfService none (committing u)).rmu by simp [committedState],
      changeTrip_rmu none hne]
    fin_cases i <;> rfl
  · rw [show (committedState u).rmu = (changeTrip .outOfService none (committing u)).rmu by simp [committedState],
      changeTrip_rmu none hne, ← atCommit_twoChannel u.lts u.rmu]
    simp [committing, Rmu.atCommit]
  · simp [committedState, committing, resetCarRecord]
  · rw [show (committedState u).obs = (changeTrip .outOfService none (committing u)).obs by simp [committedState],
      changeTrip_obs none hne]
    simp [obsOnTrip, TripState.endsTravel, committing, Obs.atCommit, Obs.atRest, applied_eq, raised_eq]
  · rw [show (committedState u).standstill = (committing u).standstill by simp [committedState, State.standstill]]
    rfl
  · rw [show (committedState u).srg = (changeTrip .outOfService none (committing u)).srg by simp [committedState],
      changeTrip_srg_at_rest none hne rfl (by decide)]
    simp [Srg.onTrip, Srg.atRest, committing]
    exact ⟨ite_self _, ite_self _⟩
  · simp [committedState, committing]
  · rw [show (committedState u).bcu = (changeTrip .outOfService none (committing u)).bcu by simp [committedState],
      changeTrip_bcu none hne]
    cases st <;> rfl
  · exact doorsTested_ordered (by simp [committedState])
      (by simpa [committedState, committing] using changeTrip_dru_closed none hne (by decide))
  · have hlpu : (committedState u).lpu = ((changeTrip .outOfService none (committing u)).raising [.configCommitted]).lpu := by
      rw [committedState, raise_eq]
    have hbcu : (committedState u).bcu = (changeTrip .outOfService none (committing u)).bcu := by simp [committedState]
    rw [hlpu, hbcu, raising_lpu_congr _ (changeTrip_lpu_closed none hne (by decide)), raising_raising,
      raising_lpu_congr (s := u) _ (by simp [committing]), List.cons_append, raising_congr u (eventMask_commit _)]
    rfl
  · simp [SameClocks, committedState, committing]

end

/-- A first cause of severity SERVICE brakes, then trips (R84, R89). -/
theorem giveCause_service_eq {k : CauseKind} (src : CauseSource) {s : State} (h : s.takesCause k = true)
    (he : s.obs.causes = []) (hk : k.severity = .service) :
    giveCause k src s = trip (serviceBraking (joinCause k src s)) := by
  have hb : (joinCause k src s).braking = .service := by
    rw [joinCause_braking, braking_of_no_cause he, hk]
    rfl
  rw [giveCause_first_eq src h he (by simp [hk]), brakingAction, hb]
  rfl

/-- A trip leaves SUSPENDED batches as they are (R144). -/
theorem trip_bcu {s : State} (hs : s.tsq.state ≠ .tripped)
    (hb : ∀ st, { s.bcu.batches.get st with state := .suspended, settle := none } = s.bcu.batches.get st) :
    (trip s).bcu = s.bcu := by
  have hl := hb .lower
  have hu := hb .upper
  simp only [PerStation.get] at hl hu
  rw [trip, changeTrip_bcu none (by simpa using hs)]
  simp only [Bcu.onTrip, TripState.suspends, if_true, updObs_bcu, PerStation.mapStation, hl, hu]

/-- A COMMIT with PFAIL ACTIVE trips the line by POWER_FAIL (R85, R89). -/
theorem commitTables_powerFail {u : State} (h : u.tsq.state = .configuring) :
    let v := committedState u
    let t := giveCause .powerFail .linePfail v
    CauseJoined .powerFail .linePfail v t ∧ ServiceBraked t ∧ t.obs.brakes = v.obs.brakes ∧ t.obs.railBrake = false ∧
      t.lts = v.lts ∧ t.rmu = v.rmu ∧ t.cpt = v.cpt ∧ t.bcu = v.bcu ∧ SameClocks v t := by
  obtain ⟨hlts, htsq, -, -, -, hobs, -, -, -, hbatches, -, -, -⟩ := committedState_committed h
  have hcom : (committedState u).lts.committed = true := by rw [hlts]
  have hnone : (committedState u).obs.causes = [] := by rw [hobs]
  have hsbk : ((committedState u).obs.brakes.get .sbk).command = .applied := by rw [hobs]; rfl
  have hstate : (committedState u).tsq.state = .outOfService := by rw [htsq]
  have hnot : (committedState u).hasCause .powerFail = false := by simp [State.hasCause, hnone]
  have ht := takesCause_of hnot hcom
  obtain ⟨hbraked, -, hrail⟩ := giveCause_service .linePfail ht hnone rfl
  obtain ⟨hl, hr, -, -, -, -, hclocks⟩ := giveCause_rest .powerFail .linePfail (committedState u)
  have heq := giveCause_service_eq .linePfail ht hnone rfl
  refine ⟨giveCause_joined .linePfail hcom hnot, hbraked, ?_, ?_, hl, hr, ?_, ?_, hclocks⟩
  · have hbrakes := (serviceBraking_braked (joinCause .powerFail .linePfail (committedState u))).2.1
    rw [heq, trip_brakes, hbrakes]
    simp [appliedBrake, hsbk]
  · rw [hrail, hobs]
  · rw [heq]
    simp [trip, serviceBraking, stopReference, dropDrive]
  · have hbcu : (serviceBraking (joinCause .powerFail .linePfail (committedState u))).bcu = (committedState u).bcu := by
      simp [serviceBraking, stopReference, dropDrive]
    rw [heq, trip_bcu (by simp [serviceBraking, stopReference, dropDrive, hstate]), hbcu]
    rw [hbcu]
    intro st
    rw [hbatches st]

/-- The table that a failed check reports, as a byte (Table 10-5). -/
theorem table_byte (check : Nat) : BitVec.ofNat 8 ([0, 0, 0, 1, 1, 1, 1, 1, 2, 4, 5, 3, 6, 7, 8].getD check 0) =
    [0, 0, 0, 1, 1, 1, 1, 1, 2, 4, 5, 3, 6, 7, 8].getD check 0 :=
  (List.getD_map [0, 0, 0, 1, 1, 1, 1, 1, 2, 4, 5, 3, 6, 7, 8] 0 (BitVec.ofNat 8)).symm

/-- A COMMIT whose checks all pass (R191, R85). -/
theorem exec_commit_taken {s : State} (hs : (s.ready .p0).tsq.state = .configuring)
    (hpass : ∀ check i, ¬ checkFails (s.ready .p0).lts check i) :
    exec (.commit .p0) s = .next (State.answered (if (s.ready .p0).obs.pfail then
      giveCause .powerFail .linePfail (committedState (s.ready .p0)) else committedState (s.ready .p0)) .p0 19 [0]) := by
  have hpf : (committedState (s.ready .p0)).obs.pfail = (s.ready .p0).obs.pfail := by
    obtain ⟨-, -, -, -, -, hobs, -⟩ := committedState_committed hs
    rw [hobs]
  rw [exec_commit, takeCommit_taken hs (validate_none hpass), commitTables_eq, ← hpf]
  rfl

/-- Settles O50: COMMIT refused, failed with the first check of R11 to R17 that fails, or taken. -/
theorem commitLeavesConfiguring : Obligations.CommitLeavesConfiguring := by
  intro s
  refine ⟨fun hs => ?_, fun hs check i hc hb => ?_, fun hs hpass =>
    ⟨committedState (s.ready .p0), committedState_committed hs, fun hp => ?_, fun hp => ⟨_, ?_, commitTables_powerFail hs⟩⟩⟩
  · rw [exec_commit, takeCommit_refused hs]
    rfl
  · rw [exec_commit, takeCommit_failed hs (validate_some hc hb), ← table_byte]
    rfl
  · rw [exec_commit_taken hs hpass, if_neg (by simp [hp])]
  · rw [exec_commit_taken hs hpass, if_pos hp]

end Sys2Proof.Machine
end

section
/-! A car report with a marker record (R43 to R48, R37, R122). -/

namespace Sys2Proof.Machine

/-! ### The report's row -/

/-- A CAR_REPORT that passes the tests: its effect, and the CAR_ORDER begun in answer (R179, R135). -/
theorem exec_carReport {c : Car} {r : CarReport} (he : encodingOk (.carReport r) = true) (s : State) :
    exec (.carReport c.port r) s = .next (orderBegun c (takeCarReport c r (s.ready c.port))) := by
  have hp : permitted c.port 20 = true := by cases c <;> rfl
  have hd : dispatch c.port (.carReport r) (s.ready c.port) = (.carOrder c, takeCarReport c r (s.ready c.port)) := by
    cases c <;> rfl
  rw [exec_owner (show requestOf (.carReport c.port r) = some (c.port, .carReport r) from rfl) hp he, hd, orderBegun,
    carOrder_eq]
  rfl

/-- A CAR_ORDER begun changes its port and the orders counted alone (R129, R135). -/
@[simp] theorem orderBegun_keeps (c : Car) (s : State) :
    (orderBegun c s).lts = s.lts ∧ (orderBegun c s).rmu = s.rmu ∧ (orderBegun c s).cpt = s.cpt ∧
    (orderBegun c s).tsq = s.tsq ∧ (orderBegun c s).srg = s.srg ∧ (orderBegun c s).obs = s.obs ∧
    (orderBegun c s).bcu = s.bcu ∧ (orderBegun c s).clock = s.clock ∧ (orderBegun c s).timeOfDay = s.timeOfDay ∧
    (orderBegun c s).minuteMs = s.minuteMs ∧ (orderBegun c s).freeIndex = s.freeIndex ∧
    (orderBegun c s).pending = s.pending :=
  ⟨rfl, rfl, rfl, rfl, rfl, rfl, rfl, rfl, rfl, rfl, rfl, rfl⟩

/-- What a car report does after the CPT (R179). -/
def afterPosition (c : Car) (r : CarReport) (s : State) : State :=
  druReport c r (obsReport c r (tsqReport c r (bcuReport c r s)))

theorem takeCarReport_eq (c : Car) (r : CarReport) (s : State) :
    takeCarReport c r s = afterPosition c r (cptReport c r (carHeard c s)) := rfl

theorem yes_zero {b : Byte} (h : b = 0) : yes b = false := by rw [h]; rfl

theorem yes_one {b : Byte} (h : b = 1) : yes b = true := by rw [h]; rfl

/-- The blocks after the CPT keep the position, the tables and the records of the cars. -/
theorem afterPosition_keeps (c : Car) (r : CarReport) (s : State) :
    let t := afterPosition c r s
    t.lts = s.lts ∧ t.rmu.known = s.rmu.known ∧ t.rmu.x2 = s.rmu.x2 ∧ t.cpt.cars = s.cpt.cars := by
  simp [afterPosition]

/-- The halt button and the alarm handle say nothing (R179). -/
theorem tsqReport_silent {c : Car} {r : CarReport} (hb : r.haltButton = 0) (ha : r.alarmHandle = 0) (s : State) :
    tsqReport c r s = s := by
  simp [tsqReport, yes_zero hb, yes_zero ha]

theorem giveCause_cpt {k : CauseKind} (src : CauseSource) (s : State) (hk : k ≠ .stopDemand) :
    (giveCause k src s).cpt = s.cpt := by
  obtain ⟨-, -, -, -, -, -, -, -, h⟩ := giveCause_envelope src s hk
  exact h

theorem obsReport_cpt (c : Car) (r : CarReport) (s : State) : (obsReport c r s).cpt = s.cpt := by
  simp only [obsReport]
  split
  · rw [giveCause_cpt _ _ (by decide), updObs_cpt]
  · rfl

theorem druReport_cpt (c : Car) (r : CarReport) (s : State) : (druReport c r s).cpt = s.cpt := by
  have hrun (u : State) : (runningCheck c r u).cpt = u.cpt := by
    unfold runningCheck
    split
    · exact giveCause_cpt _ _ (by decide)
    · rfl
  simp [druReport, hrun]

/-- A stop target moves by the halt button or the alarm handle alone. -/
theorem afterPosition_target {c : Car} {r : CarReport} (hq : decide (r.haltButton = 0 ∧ r.alarmHandle = 0) = true)
    (s : State) : (afterPosition c r s).cpt.target = s.cpt.target := by
  obtain ⟨hb, ha⟩ := of_decide_eq_true hq
  rw [afterPosition, druReport_cpt, obsReport_cpt, tsqReport_silent hb ha]
  simp

/-- The causes listed stay (R83). -/
theorem afterPosition_prefix (c : Car) (r : CarReport) (s : State) :
    s.obs.causes <+: (afterPosition c r s).obs.causes := by
  have htsq (u : State) : u.obs.causes <+: (tsqReport c r u).obs.causes := by
    simp only [tsqReport]
    split <;> split
    · simpa using giveCause_prefix .stopDemand (.car c) (haltButton c u)
    · simp
    · exact giveCause_prefix _ _ _
    · exact List.prefix_refl _
  have hobs (u : State) : u.obs.causes <+: (obsReport c r u).obs.causes := by
    simp only [obsReport]
    split
    · simpa using giveCause_prefix .carFault (.car c)
        (u.updObs (fun o => { o with carFault := o.carFault.set c (yes r.faultFlag) }))
    · simp
  have hdru (u : State) : u.obs.causes <+: (druReport c r u).obs.causes := by
    simp only [druReport, runningCheck, testDoors_keeps]
    split
    · simpa using giveCause_prefix .doorUnlockedRunning (.car c) (doorContacts c r u)
    · simp
  have hbcu : (bcuReport c r s).obs = s.obs := by simp
  exact (hbcu ▸ htsq (bcuReport c r s)).trans ((hobs _).trans (hdru _))

/-- A line that makes no running check and is not in step CLOSURE: the contacts change the doors alone. -/
theorem doorContacts_tsq {c : Car} {r : CarReport} {s : State} (hs : s.tsq.state ≠ .departing) :
    (doorContacts c r s).tsq = s.tsq := by
  have hc (v : State) (hv : v.tsq.state ≠ .departing) : closureReport v = v := by simp [closureReport, hv]
  simp only [doorContacts]
  split
  · rw [hc _ (by simpa using hs)]
    simp
  · simp

/-- Without a handle and a fault, nothing after the CPT touches a move. -/
theorem afterPosition_move {c : Car} {r : CarReport} {s : State} (hs : s.tsq.state = .inspecting)
    (ha : r.alarmHandle = 0) (hf : r.faultFlag = 0) : (afterPosition c r s).tsq.move = s.tsq.move := by
  have htsq : (tsqReport c r (bcuReport c r s)).tsq.state = .inspecting ∧
      (tsqReport c r (bcuReport c r s)).tsq.move = s.tsq.move := by
    simp only [tsqReport, yes_zero ha, Bool.false_eq_true, false_and, if_false]
    split <;> simp [hs]
  generalize hw : tsqReport c r (bcuReport c r s) = w at htsq
  have hobs : (obsReport c r w).tsq = w.tsq := by simp [obsReport, yes_zero hf]
  have hdoors : (doorContacts c r (obsReport c r w)).tsq = w.tsq := by
    rw [doorContacts_tsq (by simp [hobs, htsq]), hobs]
  have hrun : runningCheck c r (doorContacts c r (obsReport c r w)) = doorContacts c r (obsReport c r w) := by
    simp [runningCheck, State.runningCheckOn, State.releasing, hdoors, htsq]
  rw [afterPosition, hw, druReport, hrun]
  simp only [testDoors_keeps, hdoors, htsq]

/-! ### The cases of R43 -/

/-- The record repeats the last marker of its car (R43, case 3). -/
theorem isRepeat_eq (c : Car) (r : CarReport) (s : State) : isRepeat c r s =
    decide (∃ l ∈ (s.cpt.cars.get c).lastMarker, l.id = r.markerId ∧ l.odo = r.odoAtMarker) := by
  unfold isRepeat
  cases (s.cpt.cars.get c).lastMarker <;> simp

theorem takeMarker_ignored {c : Car} {r : CarReport} {s : State}
    (h : s.lts.committed = false ∨ s.lts.markerPosition r.markerId = none ∨ isRepeat c r s = true) :
    takeMarker c r s = s := by
  unfold takeMarker
  rcases h with h | h | h
  · simp [h]
  · simp [h]
  · cases s.lts.markerPosition r.markerId <;> simp [h]

section
variable {c : Car} {r : CarReport} {s : State} {m : Int} (hc : s.lts.committed = true)
  (hm : s.lts.markerPosition r.markerId = some m) (hr : isRepeat c r s = false)
include hc hm hr

theorem takeMarker_homes (hk : s.rmu.known = false) : takeMarker c r s = home c r m s := by
  simp [takeMarker, hc, hm, hr, hk]

theorem takeMarker_reconciles (hk : s.rmu.known = true) : takeMarker c r s = reconcile c r m s := by
  simp [takeMarker, hc, hm, hr, hk]

end

/-- The CPT's report of a marker record (R40, R43). -/
theorem cptReport_marker {c : Car} {r : CarReport} (hp : r.markerPresent = 1) (s : State) :
    cptReport c r s = (takeMarker c r s).updCarRecord c (fun u => { u with lastOdo := some r.odoNow }) := by
  simp only [cptReport, yes_one hp, if_true]

theorem updCarRecord_cars (c : Car) (f : CarRecord → CarRecord) (s : State) :
    (s.updCarRecord c f).cpt.cars = s.cpt.cars.set c (f (s.cpt.cars.get c)) := rfl

/-- The last marker of its car is set, and nothing else (R43 to R45). -/
theorem setLastMarker_eq (c : Car) (r : CarReport) (e : Int) (res : MarkerResult) (s : State) :
    setLastMarker c r e res s = s.updCarRecord c (fun u =>
      { u with lastMarker := some ⟨r.markerId, r.odoAtMarker, e, res, s.clock⟩ }) := rfl

/-- The stop target of a stop by the offsets of the two cars (R46). -/
theorem stopPlace_eq {s t : State} (hl : t.lts = s.lts) (ha : (t.cpt.cars.get .a).offset = (s.cpt.cars.get .a).offset)
    (hb : (t.cpt.cars.get .b).offset = (s.cpt.cars.get .b).offset) (k : Nat) : stopPlace t k = s.stopTarget k := by
  simp only [PerCar.get] at ha hb
  simp only [stopPlace, hl, ha, hb, State.stopTarget, State.carTarget, PerCar.get]
  cases s.lts.hasPlatform .a k <;> cases s.lts.hasPlatform .b k <;> rfl

/-- A record beyond the tolerance (R45): the mismatch kept as the last marker, and POSITION_MISMATCH given. -/
theorem reconcile_mismatch {c : Car} {r : CarReport} {m : Int} {s : State}
    (h : s.lts.markerTol < ((markerError c r m s).natAbs : Int)) : reconcile c r m s =
      setLastMarker c r (markerError c r m s) .mismatch (giveCause .positionMismatch (.car c) s) := by
  simp only [reconcile, gt_iff_lt, h, if_true]

/-- The offset of a car after a record within the tolerance (R45). -/
def correctedOffset (c : Car) (r : CarReport) (m : Int) (s : State) : Int :=
  clampTo s.lts.inForce.maxCorr ((s.cpt.cars.get c).offset + markerError c r m s)

/-- The car's record corrected within the tolerance (R45). -/
def corrected (c : Car) (r : CarReport) (m : Int) (s : State) : State :=
  setLastMarker c r (markerError c r m s)
    (if correctedOffset c r m s = (s.cpt.cars.get c).offset + markerError c r m s then .accepted else .clamped)
    (s.updCarRecord c (fun u => { u with offset := correctedOffset c r m s }))

/-- A record within the tolerance corrects the offset, and the target where the offset changed (R45, R47). -/
theorem reconcile_corrects {c : Car} {r : CarReport} {m : Int} {s : State}
    (h : ((markerError c r m s).natAbs : Int) ≤ s.lts.markerTol) : reconcile c r m s =
      if correctedOffset c r m s = (s.cpt.cars.get c).offset then corrected c r m s
      else recomputeTarget (corrected c r m s) := by
  simp only [reconcile, gt_iff_lt, Int.not_lt.mpr h, if_false]
  rfl

/-- What a record within the tolerance leaves (R45, R47, R48). -/
theorem corrected_left (c : Car) (r : CarReport) (m : Int) (s : State) :
    let w := if correctedOffset c r m s = (s.cpt.cars.get c).offset then corrected c r m s
      else recomputeTarget (corrected c r m s)
    w.lts = s.lts ∧ w.rmu = s.rmu ∧ w.cpt.cars = (corrected c r m s).cpt.cars ∧
      w.cpt.cars = s.cpt.cars.set c { s.cpt.cars.get c with
        offset := correctedOffset c r m s
        lastMarker := some ⟨r.markerId, r.odoAtMarker, markerError c r m s,
          if correctedOffset c r m s = (s.cpt.cars.get c).offset + markerError c r m s then .accepted else .clamped,
          s.clock⟩ } ∧
      w.cpt.target = s.cpt.target.map (fun g =>
        if g.frozen = true ∨ correctedOffset c r m s = (s.cpt.cars.get c).offset then g
        else { g with position := (corrected c r m s).stopTarget g.stopIndex }) := by
  have hset (v : PerCar CarRecord) (x y : CarRecord) : (v.set c x).set c y = v.set c y := by cases c <;> rfl
  have hcars : (corrected c r m s).cpt.cars = s.cpt.cars.set c { s.cpt.cars.get c with
      offset := correctedOffset c r m s
      lastMarker := some ⟨r.markerId, r.odoAtMarker, markerError c r m s,
        if correctedOffset c r m s = (s.cpt.cars.get c).offset + markerError c r m s then .accepted else .clamped,
        s.clock⟩ } := by
    simp [corrected, setLastMarker_eq, updCarRecord_cars, hset]
  by_cases h : correctedOffset c r m s = (s.cpt.cars.get c).offset
  · rw [if_pos h]
    refine ⟨by simp [corrected, setLastMarker_eq], by simp [corrected, setLastMarker_eq], rfl, hcars, ?_⟩
    simp [h, corrected, setLastMarker_eq]
  · rw [if_neg h]
    refine ⟨by simp [corrected, setLastMarker_eq], by simp [corrected, setLastMarker_eq], rfl, hcars, ?_⟩
    simp only [h, or_false]
    simp [recomputeTarget, corrected, setLastMarker_eq]

/-! ### The report whole -/

/-- What a report with a marker record leaves of the state that the CPT's case left (R40, R43). -/
structure MarkerLeft (c : Car) (r : CarReport) (w t : State) : Prop where
  lts : t.lts = w.lts
  known : t.rmu.known = w.rmu.known
  x2 : t.rmu.x2 = w.rmu.x2
  cars : t.cpt.cars = w.cpt.cars.set c { w.cpt.cars.get c with lastOdo := some r.odoNow }
  target : decide (r.haltButton = 0 ∧ r.alarmHandle = 0) = true → t.cpt.target = w.cpt.target
  causes : ∀ k, w.hasCause k = true → t.hasCause k = true
  move : w.tsq.state = .inspecting → r.alarmHandle = 0 → r.faultFlag = 0 → t.tsq.move = w.tsq.move

theorem markerLeft {c : Car} {r : CarReport} (hp : r.markerPresent = 1) (u : State) :
    MarkerLeft c r (takeMarker c r (carHeard c u)) (orderBegun c (takeCarReport c r u)) := by
  rw [takeCarReport_eq, cptReport_marker hp]
  generalize takeMarker c r (carHeard c u) = w
  have hcauses := afterPosition_prefix c r (w.updCarRecord c (fun u => { u with lastOdo := some r.odoNow }))
  have htarget (hq : decide (r.haltButton = 0 ∧ r.alarmHandle = 0) = true) :=
    afterPosition_target (c := c) hq (w.updCarRecord c (fun u => { u with lastOdo := some r.odoNow }))
  have hmove (hs : w.tsq.state = .inspecting) (ha : r.alarmHandle = 0) (hf : r.faultFlag = 0) :=
    afterPosition_move (c := c) (s := w.updCarRecord c (fun u => { u with lastOdo := some r.odoNow })) (by simpa using hs) ha hf
  obtain ⟨hlts, hknown, hx2, hcars⟩ := afterPosition_keeps c r (w.updCarRecord c (fun u => { u with lastOdo := some r.odoNow }))
  generalize afterPosition c r _ = t at hlts hknown hx2 hcars hcauses htarget hmove
  exact
    { lts := hlts
      known := hknown
      x2 := hx2
      cars := hcars
      target := htarget
      causes := fun k hk => hasCause_of_prefix hcauses k (by simpa [State.hasCause] using hk)
      move := hmove }

/-- The offset, the estimate and the error of a record do not turn on the link of its car. -/
theorem markerError_heard (c : Car) (r : CarReport) (m : Int) (u : State) :
    markerError c r m (carHeard c u) = markerError c r m u := by
  cases c <;> simp [markerError, State.estimate, State.xs]

theorem isRepeat_heard (c : Car) (r : CarReport) (u : State) : isRepeat c r (carHeard c u) = isRepeat c r u := by
  simp [isRepeat_eq]

/-- A marker record says nothing of the other car (R43). -/
theorem takeMarker_other {c x : Car} {r : CarReport} {s : State} (hx : x ≠ c) :
    (takeMarker c r s).cpt.cars.get x = s.cpt.cars.get x := by
  have hset (e : Int) (res : MarkerResult) (t : State) :
      (setLastMarker c r e res t).cpt.cars.get x = t.cpt.cars.get x := by
    rw [setLastMarker_eq, updCarRecord_cars, PerCar.get_set_of_ne _ _ hx]
  unfold takeMarker
  split
  · rfl
  split
  · rfl
  split
  · rfl
  split
  · rw [home, hset]
    simp
  next m _ _ _ =>
    rcases lt_or_ge s.lts.markerTol ((markerError c r m s).natAbs : Int) with h | h
    · rw [reconcile_mismatch h, hset, giveCause_cpt _ _ (by decide)]
    · rw [reconcile_corrects h]
      obtain ⟨-, -, -, hcars, -⟩ := corrected_left c r m s
      rw [hcars, PerCar.get_set_of_ne _ _ hx]

/-- The tables and the other car stand (R43). -/
theorem marker_cars {c : Car} {r : CarReport} (hp : r.markerPresent = 1) (u : State) :
    (orderBegun c (takeCarReport c r u)).lts = u.lts ∧
      ∀ x, x ≠ c → (orderBegun c (takeCarReport c r u)).cpt.cars.get x = u.cpt.cars.get x := by
  have hl := markerLeft (c := c) hp u
  refine ⟨?_, fun x hx => ?_⟩
  · rw [hl.lts]
    simp
  · rw [hl.cars, PerCar.get_set_of_ne _ _ hx, takeMarker_other hx]
    simp

section
variable {c : Car} {r : CarReport} {u : State} {m : Int} (hp : r.markerPresent = 1) (hc : u.lts.committed = true)
  (hm : u.lts.markerPosition r.markerId = some m) (hr : isRepeat c r u = false)
include hp hc hm hr

/-- The effect of a homing (R37, R122). -/
theorem marker_homes (hk : u.rmu.known = false) :
    let t := orderBegun c (takeCarReport c r u)
    let x := homedPosition u.lts c m (odoDiff r.odoNow r.odoAtMarker)
    t.rmu.known = true ∧ t.rmu.x2 = 2000 * x ∧
      (t.cpt.cars.get c).lastMarker = some ⟨r.markerId, r.odoAtMarker, 0, .homed, u.clock⟩ ∧
      (t.cpt.cars.get c).offset = (u.cpt.cars.get c).offset ∧
      (decide (r.haltButton = 0 ∧ r.alarmHandle = 0) = true → t.cpt.target = u.cpt.target) ∧
      (u.tsq.state = .inspecting → r.alarmHandle = 0 → r.faultFlag = 0 →
        t.tsq.move = u.tsq.move.map (Move.rehomed x)) := by
  have hw := takeMarker_homes (c := c) (r := r) (s := carHeard c u) (by simpa using hc) (by simpa using hm)
    (by rw [isRepeat_heard, hr]) (by simpa using hk)
  have hl := markerLeft (c := c) hp u
  rw [hw] at hl
  refine ⟨?_, ?_, ?_, ?_, fun hq => ?_, fun hs ha hf => ?_⟩
  · rw [hl.known]
    simp [home, setLastMarker_eq]
  · rw [hl.x2]
    simp [home, setLastMarker_eq]
  · rw [hl.cars]
    simp [home, setLastMarker_eq, updCarRecord_cars]
  · rw [hl.cars]
    simp [home, setLastMarker_eq, updCarRecord_cars]
  · rw [hl.target hq]
    simp [home, setLastMarker_eq]
  · rw [hl.move (by simpa [home, setLastMarker_eq] using hs) ha hf]
    simp [home, setLastMarker_eq]

/-- The effect of a record within the tolerance (R44 to R48). -/
theorem marker_corrects (hk : u.rmu.known = true)
    (ht : ((markerError c r m u).natAbs : Int) ≤ u.lts.markerTol) :
    let t := orderBegun c (takeCarReport c r u)
    let offset := (t.cpt.cars.get c).offset
    let sum := (u.cpt.cars.get c).offset + markerError c r m u
    t.rmu.known = true ∧ t.rmu.x2 = u.rmu.x2 ∧
      offset = max (-(u.lts.inForce.maxCorr : Int)) (min u.lts.inForce.maxCorr sum) ∧
      (t.cpt.cars.get c).lastMarker = some ⟨r.markerId, r.odoAtMarker, markerError c r m u,
        if offset = sum then .accepted else .clamped, u.clock⟩ ∧
      (decide (r.haltButton = 0 ∧ r.alarmHandle = 0) = true → t.cpt.target = u.cpt.target.map (fun g =>
        if g.frozen = true ∨ offset = (u.cpt.cars.get c).offset then g
        else { g with position := stopPlace t g.stopIndex })) := by
  have herr := markerError_heard c r m u
  have hoff : correctedOffset c r m (carHeard c u) = correctedOffset c r m u := by simp [correctedOffset, herr]
  have hw := takeMarker_reconciles (c := c) (r := r) (s := carHeard c u) (by simpa using hc) (by simpa using hm)
    (by rw [isRepeat_heard, hr]) (by simpa using hk)
  rw [reconcile_corrects (by simpa [herr] using ht)] at hw
  obtain ⟨hlts, hrmu, hsame, hcars, htarget⟩ := corrected_left c r m (carHeard c u)
  rw [← hw] at hlts hrmu hsame hcars htarget
  have hl := markerLeft (c := c) hp u
  generalize takeMarker c r (carHeard c u) = w at hl hlts hrmu hsame hcars htarget
  simp only [carHeard_keeps, hoff, herr] at hlts hrmu hcars htarget
  have hoffset : ((orderBegun c (takeCarReport c r u)).cpt.cars.get c).offset = correctedOffset c r m u := by
    rw [hl.cars, hcars]
    simp
  have hplace (x : Car) : ((orderBegun c (takeCarReport c r u)).cpt.cars.get x).offset =
      ((corrected c r m (carHeard c u)).cpt.cars.get x).offset := by
    rw [hl.cars, ← hsame, PerCar.get_set]
    split
    · next h => rw [h]
    · rfl
  dsimp only
  rw [hoffset]
  refine ⟨?_, ?_, clampTo_eq _ _ (by omega), ?_, fun hq => ?_⟩
  · rw [hl.known, hrmu, hk]
  · rw [hl.x2, hrmu]
  · rw [hl.cars, hcars]
    simp
  · rw [hl.target hq, htarget]
    congr 1
    funext g
    split
    · rfl
    · rw [stopPlace_eq (s := corrected c r m (carHeard c u)) ?_ (hplace .a) (hplace .b)]
      rw [hl.lts, hlts]
      simp [corrected, setLastMarker_eq]

/-- The effect of a record beyond the tolerance (R45). -/
theorem marker_mismatch (hk : u.rmu.known = true)
    (ht : u.lts.markerTol < ((markerError c r m u).natAbs : Int)) :
    let t := orderBegun c (takeCarReport c r u)
    t.rmu.x2 = u.rmu.x2 ∧ (t.cpt.cars.get c).offset = (u.cpt.cars.get c).offset ∧
      t.hasCause .positionMismatch = true ∧
      (t.cpt.cars.get c).lastMarker = some ⟨r.markerId, r.odoAtMarker, markerError c r m u, .mismatch, u.clock⟩ ∧
      (decide (r.haltButton = 0 ∧ r.alarmHandle = 0) = true → t.cpt.target = u.cpt.target) := by
  have herr := markerError_heard c r m u
  have hw := takeMarker_reconciles (c := c) (r := r) (s := carHeard c u) (by simpa using hc) (by simpa using hm)
    (by rw [isRepeat_heard, hr]) (by simpa using hk)
  rw [reconcile_mismatch (by simpa [herr] using ht), herr] at hw
  have hl := markerLeft (c := c) hp u
  rw [hw] at hl
  have hcpt := giveCause_cpt (k := .positionMismatch) (.car c) (carHeard c u) (by decide)
  refine ⟨?_, ?_, hl.causes _ ?_, ?_, fun hq => ?_⟩
  · rw [hl.x2]
    simp [setLastMarker_eq]
  · rw [hl.cars]
    simp [setLastMarker_eq, updCarRecord_cars, hcpt]
  · simpa [setLastMarker_eq, State.hasCause] using
      giveCause_has .positionMismatch (.car c) (carHeard c u) (by simpa using hc)
  · rw [hl.cars]
    simp [setLastMarker_eq, updCarRecord_cars, hcpt]
  · rw [hl.target hq]
    simp [setLastMarker_eq, hcpt]

end

/-- Settles O52: a marker record ignored, homing the line, correcting the offset and the target, or mismatched. -/
theorem markerHomesOrCorrects : Obligations.MarkerHomesOrCorrects := by
  intro c r s he hp
  dsimp only
  rw [exec_carReport he]
  generalize s.ready c.port = u
  rw [← isRepeat_eq]
  have hl := markerLeft (c := c) hp u
  refine ⟨fun h => ⟨_, rfl, ?_⟩, fun m hc hm hr => ⟨_, rfl, ?_⟩⟩
  · rw [takeMarker_ignored (by simpa [isRepeat_heard] using h)] at hl
    obtain ⟨hlts, hknown, hx2, hcars, htarget, -, -⟩ := hl
    simp only [carHeard_keeps] at hknown hx2 hcars htarget
    exact ⟨hknown, hx2, hcars, htarget⟩
  · have hhomes := marker_homes hp hc hm hr
    have hcorrects := marker_corrects hp hc hm hr
    have hmismatch := marker_mismatch hp hc hm hr
    have hrest := marker_cars (c := c) hp u
    generalize orderBegun c (takeCarReport c r u) = t at hl hhomes hcorrects hmismatch hrest ⊢
    have hodo : (t.cpt.cars.get c).lastOdo = some r.odoNow := by rw [hl.cars]; simp
    cases c <;> exact ⟨hrest.1, hodo, hrest.2, hhomes, hcorrects, hmismatch⟩

end Sys2Proof.Machine
end

section
/-! The halt button of a car report (R110), and the report of its doors (R125 to R136). -/

namespace Sys2Proof.Machine

/-! ### A press of the halt button -/

/-- What a press of a halt button leaves of the trip: the halt entries, the target, the stop target record, and the events
raised (R109 to R111). -/
structure Press where
  halts : List HaltEntry
  target : Option Nat
  place : Option StopTarget
  events : List EventKind

/-- The line after a press. -/
def State.pressed (s : State) (x : Press) : State :=
  ({ s with tsq := { s.tsq with halts := x.halts, target := x.target }, cpt := { s.cpt with target := x.place } } :
    State).raising x.events

/-- A press without effect. -/
def idlePress (s : State) (events : List EventKind) : Press := ⟨s.tsq.halts, s.tsq.target, s.cpt.target, events⟩

theorem pressed_idle (s : State) (events : List EventKind) : s.pressed (idlePress s events) = s.raising events := rfl

/-- The press of a request that is listed (R109, R111). -/
def listPress (k : Nat) (src : HaltSource) (s : State) : Press :=
  let halts := if s.listed k then s.tsq.halts.map (fun e =>
      if e.stopIndex = k ∧ ¬ src ∈ e.sources then { e with sources := e.sources ++ [src] } else e)
    else s.tsq.halts ++ [⟨k, [src], s.clock⟩]
  let events := if s.listed k then [] else [EventKind.haltRequestAdded]
  if s.tsq.state = .running ∧ s.tsq.phase ≠ some .creep ∧ s.feasible k = true then
    ⟨halts, some k, some ⟨k, s.stopTarget k, false⟩, events ++ [.targetChanged]⟩
  else ⟨halts, s.tsq.target, s.cpt.target, events⟩

theorem haltTaken_press (k : Nat) (src : HaltSource) (s : State) : haltTaken k src s = s.pressed (listPress k src s) := by
  rw [← testFeasibility_listHalt, testFeasibility, moveTarget, raise_eq, nameStop]
  by_cases hl : s.listed k = true
  · have heq : listHalt k src s = { s with tsq := { s.tsq with halts := s.tsq.halts.map (fun e =>
        if e.stopIndex = k ∧ ¬ src ∈ e.sources then { e with sources := e.sources ++ [src] } else e) } } := by
      rw [listHalt_eq, if_pos hl]
    rw [heq]
    unfold listPress
    simp only [if_pos hl]
    by_cases hm : s.tsq.state = .running ∧ s.tsq.phase ≠ some .creep ∧ s.feasible k = true
    · rw [if_pos hm]
      exact if_pos hm
    · rw [if_neg hm, State.pressed, raising_nil]
      exact if_neg hm
  · have heq : listHalt k src s = haltListed k src s := by rw [listHalt_eq, if_neg hl]
    rw [heq]
    unfold listPress
    simp only [if_neg hl]
    by_cases hm : s.tsq.state = .running ∧ s.tsq.phase ≠ some .creep ∧ s.feasible k = true
    · rw [if_pos hm, State.pressed, ← raising_raising]
      exact if_pos hm
    · rw [if_neg hm]
      exact if_neg hm

/-- The press of a car's halt button (R110). -/
def buttonPress (c : Car) (s : State) : Press :=
  match s.nearestForButton c with
  | none => idlePress s []
  | some k =>
    if s.tsq.state = .configuring ∨ s.lts.stopCount ≤ k ∨ s.lts.onRequest k = false then idlePress s []
    else if s.tsq.state = .stopped ∧ s.tsq.target = some k then idlePress s [.haltRequestServed]
    else listPress k (.button c) s

theorem haltButton_press (c : Car) (s : State) : haltButton c s = s.pressed (buttonPress c s) := by
  unfold haltButton buttonPress
  cases s.nearestForButton c with
  | none => rw [pressed_idle, raising_nil]
  | some k =>
    simp only [haltRequest_effect, decide_eq_true_eq]
    split
    · rw [pressed_idle, raising_nil]
    split
    · rw [pressed_idle]
    · exact haltTaken_press k (.button c) s

/-- What a press reads of the line: the trip, the position, the reference and the places of the stops. -/
def SameBearings (s t : State) : Prop :=
  t.tsq = s.tsq ∧ t.lts = s.lts ∧ t.rmu = s.rmu ∧ t.srg = s.srg ∧ t.clock = s.clock ∧ t.cpt.target = s.cpt.target ∧
    ∀ x, (t.cpt.cars.get x).offset = (s.cpt.cars.get x).offset

theorem buttonPress_congr {s t : State} (h : SameBearings s t) (c : Car) : buttonPress c t = buttonPress c s := by
  obtain ⟨htsq, hlts, hrmu, hsrg, hclock, htarget, hoff⟩ := h
  have ha := hoff .a
  have hb := hoff .b
  simp only [PerCar.get] at ha hb
  have hx : t.xs = s.xs := by rw [State.xs, hrmu]; rfl
  have hplace (k : Nat) : t.stopTarget k = s.stopTarget k := by
    simp only [State.stopTarget, State.carTarget, hlts, ha, hb]
  have hahead (k : Nat) : t.isAhead k = s.isAhead k := by
    unfold State.isAhead State.countsFrom
    rw [htsq, hx, hplace]
  have hnearest : t.nearestForButton c = s.nearestForButton c := by
    unfold State.nearestForButton State.stopsInOrder
    simp only [hahead]
    rw [htsq, hlts]
  have hfeas (k : Nat) : t.feasible k = s.feasible k := by
    unfold State.feasible State.nearer State.brakingDistance State.aDec
    rw [htsq, hlts, hsrg, hx, hplace]
  have hlist (k : Nat) : listPress k (.button c) t = listPress k (.button c) s := by
    unfold listPress State.listed
    rw [htsq, hclock, htarget, hfeas, hplace]
  unfold buttonPress idlePress
  simp only [hnearest, hlist]
  rw [htsq, hlts, htarget]

/-- A press moves the target of a running trip alone (R111). -/
theorem buttonPress_target (c : Car) (s : State) :
    (buttonPress c s).target = s.tsq.target ∨ s.tsq.state = .running := by
  unfold buttonPress
  split
  · exact .inl rfl
  split
  · exact .inl rfl
  split
  · exact .inl rfl
  unfold listPress
  dsimp only
  split
  next h => exact .inr h.1
  next => exact .inl rfl

/-! ### A press commutes with what the report does to the rest of the line -/

/-- Raisings on two scopes, in either order (R182). -/
theorem raisingOn_comm (s : State) (f g : PortId → Bool) (es fs : List EventKind) :
    (s.raisingOn f es).raisingOn g fs = (s.raisingOn g fs).raisingOn f es := by
  have hor (a b d : Half) : a ||| b ||| d = a ||| d ||| b := by ac_rfl
  have hrecord (p : PortId) (r : PortRecord) :
      (let r' := if f p then { r with events := r.events ||| (eventMask es &&& r.subs) } else r
      if g p then { r' with events := r'.events ||| (eventMask fs &&& r'.subs) } else r') =
      (let r' := if g p then { r with events := r.events ||| (eventMask fs &&& r.subs) } else r
      if f p then { r' with events := r'.events ||| (eventMask es &&& r'.subs) } else r') := by
    cases f p with
    | false => rfl
    | true =>
      cases g p with
      | false => rfl
      | true => exact congrArg (fun events => { r with events := events }) (hor _ _ _)
  simp only [State.raisingOn, updLpu_updLpu, PerPort.mapPort]
  congr 1
  funext l
  congr 1
  congr 1 <;> exact hrecord _ _

theorem raising_comm (s : State) (es fs : List EventKind) : (s.raising es).raising fs = (s.raising fs).raising es :=
  raisingOn_comm s _ _ es fs

/-- A press leaves the release conditions of the doors (R126). -/
theorem pressed_mayRelease {s : State} {x : Press} (hx : x.target = s.tsq.target ∨ s.tsq.state = .running) (c : Car)
    (side : Side) : (s.pressed x).mayRelease c side = s.mayRelease c side := by
  rcases hx with hx | hr
  · exact mayRelease_of_same (s := s) (t := s.pressed x) rfl hx rfl ⟨rfl, rfl⟩ (fun _ => rfl) ⟨rfl, rfl⟩ rfl c side
  · have hs : s.tsq.state ≠ .stopped := by simp [hr]
    rw [mayRelease_not_stopped hs, mayRelease_not_stopped (s := s.pressed x) hs]

theorem testDoors_dru (s : State) : (testDoors s).dru = testedDoors s := by
  unfold testDoors
  split <;> simp

theorem testDoors_pressed {s : State} {x : Press} (hx : x.target = s.tsq.target ∨ s.tsq.state = .running) :
    testDoors (s.pressed x) = (testDoors s).pressed x := by
  have hd : (testDoors (s.pressed x)).dru = (testDoors s).dru := by
    rw [testDoors_dru, testDoors_dru, testedDoors, testedDoors]
    simp only [pressed_mayRelease hx]
    rfl
  have hr : someReleased (s.pressed x) (testDoors (s.pressed x)) = someReleased s (testDoors s) :=
    someReleased_congr rfl hd
  have hcomm (d : PerCar (PerSide DoorRecord)) (es : List EventKind) :
      ({ s.pressed x with dru := d } : State).raising es = (({ s with dru := d } : State).raising es).pressed x :=
    raising_comm { s with dru := d, tsq := { s.tsq with halts := x.halts, target := x.target }, cpt := { s.cpt with target := x.place } }
      x.events es
  calc testDoors (s.pressed x)
      = ({ s.pressed x with dru := (testDoors s).dru } : State).raising
          (eventIf (someReleased s (testDoors s)) .doorsReleased) := by rw [testDoors_eq, hr, hd]
    _ = _ := hcomm _ _
    _ = (testDoors s).pressed x := by rw [← testDoors_eq]

theorem raiseLink_pressed (e : EventKind) (p : PortId) (s : State) (x : Press) :
    raiseLink e p (s.pressed x) = (raiseLink e p s).pressed x := by
  rw [raiseLink_eq, raiseLink_eq]
  exact raisingOn_comm { s with tsq := { s.tsq with halts := x.halts, target := x.target }, cpt := { s.cpt with target := x.place } }
    _ _ _ _

/-- A press and the hearing of a car, in either order (R185). -/
theorem carHeard_pressed {s : State} {x : Press} (hx : x.target = s.tsq.target ∨ s.tsq.state = .running) (c : Car) :
    carHeard c (s.pressed x) = (carHeard c s).pressed x := by
  unfold carHeard
  dsimp only
  have hup : ((s.pressed x).updLpu (fun l =>
      { l with carLinks := l.carLinks.set c ⟨true, some ⟨0, s.lts.carLinkTo.toNat⟩⟩ })) =
      (s.updLpu (fun l =>
        { l with carLinks := l.carLinks.set c ⟨true, some ⟨0, s.lts.carLinkTo.toNat⟩⟩ })).pressed x := rfl
  have hc : (s.pressed x).carLinkUp c = s.carLinkUp c := rfl
  rw [hc]
  split
  · exact hup
  · rw [← testDoors_pressed (by simpa using hx), ← raiseLink_pressed, ← hup]
    rfl

/-! ### The blocks of a report without a marker -/

/-- What the CPT and the BCU make of a report without a marker (R40, R138). -/
def reportBody (c : Car) (r : CarReport) (s : State) : State :=
  bcuReport c r (s.updCarRecord c (fun u => { u with lastOdo := some r.odoNow }))

theorem takeCarReport_unmarked {r : CarReport} (hm : r.markerPresent = 0) (c : Car) (u : State) :
    takeCarReport c r u = druReport c r (obsReport c r (tsqReport c r (reportBody c r (carHeard c u)))) := by
  simp only [takeCarReport, cptReport, yes_zero hm, Bool.false_eq_true, if_false]
  rfl

theorem sameBearings_body (c : Car) (r : CarReport) (u : State) : SameBearings u (reportBody c r (carHeard c u)) := by
  refine ⟨by simp [reportBody], by simp [reportBody], by simp [reportBody], by simp [reportBody], by simp [reportBody],
    by simp [reportBody], fun x => ?_⟩
  have hcpt : (reportBody c r (carHeard c u)).cpt.cars =
      u.cpt.cars.set c { u.cpt.cars.get c with lastOdo := some r.odoNow } := by
    simp [reportBody, updCarRecord_cars]
  rw [hcpt, PerCar.get_set]
  split
  next h => rw [h]
  next => rfl

/-- A press of a report acts as a press before it. -/
theorem haltButton_body (c : Car) (r : CarReport) (u : State) :
    haltButton c (reportBody c r (carHeard c u)) = reportBody c r (carHeard c (haltButton c u)) := by
  rw [haltButton_press, haltButton_press, carHeard_pressed (buttonPress_target c u),
    buttonPress_congr (sameBearings_body c r u)]
  rfl

/-- Neither a handle that counts nor more than the button: the report's halt request (R110, R113). -/
theorem tsqReport_unhandled {c : Car} {r : CarReport} {s : State} (ha : r.alarmHandle = 0 ∨ s.tsq.state = .configuring) :
    tsqReport c r s = if yes r.haltButton then haltButton c s else s := by
  rcases ha with ha | hs
  · simp [tsqReport, yes_zero ha]
  · simp only [tsqReport]
    rw [if_neg]
    rintro ⟨-, h⟩
    split at h <;> simp [hs] at h

/-! ### The doors of a report -/

theorem yes_iff {b : Byte} : yes b = decide (b = 1) := by
  rw [yes, decide_eq_decide]
  exact (byte_eq_iff 1 (by omega)).symm

theorem sideReported_eq (closed locked : Byte) (now : Long) (d : DoorRecord) :
    (d.contacts (yes closed) (yes locked) now).closure = sideReported closed locked now d := by
  unfold DoorRecord.closure sideReported DoorRecord.contacts
  simp only [yes_iff]
  cases d.command <;> by_cases hc : closed = 1#8 <;> by_cases hl : locked = 1#8 <;> simp [hc, hl]

theorem testSide_eq (ok : Bool) (d : DoorRecord) : testSide ok d = sideTested ok d := by
  unfold testSide sideTested
  cases ok <;> simp

/-- A test moment of the doors (R127, R132). -/
theorem doorsTestedAt_eq (s : State) : doorsTestedAt s = testDoors s := by
  rw [testDoors_eq]
  have hd : (testDoors s).dru = s.dru.mapCar (fun c v =>
      ⟨sideTested (s.mayRelease c .left) v.left, sideTested (s.mayRelease c .right) v.right⟩) := by
    simp only [testDoors_dru, testedDoors, testSide_eq]
  unfold doorsTestedAt
  rw [← hd]
  rfl

theorem linkHeard_eq (c : Car) (u : State) : linkHeard c u = carHeard c u := by
  unfold linkHeard carHeard
  simp only [doorsTestedAt_eq, raiseLink_eq]
  rfl

theorem provesDoors_pressed {u : State} {x : Press} (hx : x.target = u.tsq.target ∨ u.tsq.state = .running) (c : Car)
    (r : CarReport) : provesDoors c r (u.pressed x) = provesDoors c r u := by
  unfold provesDoors doorsReported
  rw [linkHeard_eq, linkHeard_eq, carHeard_pressed hx]
  rfl

/-- The contacts of a report written, and the closure rules taken (R125, R130). -/
theorem reported_eq (r : CarReport) (now : Long) (v : PerSide DoorRecord) : v.reported r now =
    ⟨sideReported r.leftClosed r.leftLocked now v.left, sideReported r.rightClosed r.rightLocked now v.right⟩ := by
  simp only [PerSide.reported, sideReported_eq]

/-- The doors of a report that ends no step (R125, R130, R131). -/
theorem doorContacts_eq {c : Car} {r : CarReport} {s : State}
    (hq : ¬ (s.tsq.state = .departing ∧ s.tsq.step = some .closure ∧
      (!allProven s.dru && allProven (doorsReported c r s)) = true)) :
    doorContacts c r s = ({ s with dru := doorsReported c r s } : State).raising
      (eventIf (!allProven s.dru && allProven (doorsReported c r s)) .doorsProvenClosed) := by
  have hdru : s.updDru (fun d => d.set c ((d.get c).reported r s.clock)) =
      ({ s with dru := doorsReported c r s } : State) := by
    simp only [doorsReported, ← reported_eq]
    rfl
  rw [doorContacts, hdru]
  dsimp only
  cases hp : (!allProven s.dru && allProven (doorsReported c r s)) with
  | false => rw [if_neg (by simp), eventIf_false, raising_nil]
  | true =>
    rw [if_pos rfl, closureReport, if_neg (by rw [hp] at hq; simpa [raise_eq] using hq), raise_eq, eventIf_true]

/-- No running check of a report whose contacts it does not look at, or finds locked (R133). -/
theorem runningCheck_quiet {c : Car} {r : CarReport} {s : State}
    (h : doorsWatched s = false ∨ (r.leftLocked = 1 ∧ r.rightLocked = 1)) : runningCheck c r s = s := by
  have hon : s.runningCheckOn = doorsWatched s := rfl
  rw [runningCheck, hon, if_neg]
  rcases h with h | ⟨hl, hr⟩
  · simp [h]
  · simp [yes_one hl, yes_one hr]

/-- A report without marker, halt button, handle and fault, whose contacts give no cause and end no step. -/
theorem quietReport {c : Car} {r : CarReport} {u : State} (hf : r.faultFlag = 0) (hq : DoorsQuiet c r u) :
    druReport c r (obsReport c r (reportBody c r (carHeard c u))) = reportTaken c r u := by
  have hload (l : LoadRecord) : l.counted r = ⟨loadAfter r l, some ⟨r.inCounter, r.outCounter⟩⟩ := by
    unfold LoadRecord.counted loadAfter
    cases l.snap <;> rfl
  have hobs (s : State) : obsReport c r s = s.updObs (fun o =>
      { o with carFault := o.carFault.set c (decide (r.faultFlag = 1)) }) := by
    rw [obsReport, ← yes_iff, yes_zero hf]
    rfl
  obtain ⟨hwatch, hclose⟩ := hq
  unfold provesDoors at hclose
  unfold reportTaken provesDoors
  rw [linkHeard_eq] at hclose
  simp only [linkHeard_eq, doorsTestedAt_eq]
  have htsq : (carHeard c u).tsq = u.tsq := by simp
  have hwatch' : doorsWatched (carHeard c u) = doorsWatched u := by simp [doorsWatched, State.releasing]
  generalize carHeard c u = h at hclose htsq hwatch' ⊢
  have hbody : obsReport c r (reportBody c r h) = ({ h with
      cpt := { h.cpt with cars := h.cpt.cars.set c { h.cpt.cars.get c with lastOdo := some r.odoNow } }
      bcu := { h.bcu with
        loads := h.bcu.loads.set c ⟨loadAfter r (h.bcu.loads.get c), some ⟨r.inCounter, r.outCounter⟩⟩ }
      obs := { h.obs with carFault := h.obs.carFault.set c (decide (r.faultFlag = 1)) } } : State) := by
    rw [hobs, ← hload]
    rfl
  rw [← htsq] at hclose
  have hdoors := doorContacts_eq (c := c) (r := r) (s := obsReport c r (reportBody c r h)) (by rw [hbody]; exact hclose)
  rw [druReport, hdoors, hbody, runningCheck_quiet]
  · rfl
  · rw [← hwatch'] at hwatch
    exact hwatch

end Sys2Proof.Machine
end

section
/-! A car report without a marker: the halt button (R110), and the line after a report that gives no cause (R179). -/

namespace Sys2Proof.Machine

/-! ### The stop a press asks for (R110) -/

theorem find?_reverse_range_some {n k : Nat} {p : Nat → Bool} (h : (List.range n).reverse.find? p = some k) :
    ∀ j < n, k < j → p j = false := by
  induction n with
  | zero => exact fun j hj => absurd hj (by omega)
  | succ n ih =>
    rw [List.range_succ, List.reverse_append, List.reverse_singleton, List.singleton_append, List.find?_cons] at h
    intro j hj hk
    cases hp : p n with
    | true =>
      simp only [hp, Option.some.injEq] at h
      omega
    | false =>
      simp only [hp] at h
      rcases Nat.lt_succ_iff_lt_or_eq.mp hj with hlt | rfl
      · exact ih h j hlt hk
      · exact hp

theorem buttonStop_iff {c : Car} {u : State} {k : Nat} : buttonStop c u k ↔ k < u.lts.stopCount ∧
    (u.isAhead k && u.lts.onRequest k && u.lts.hasPlatform c k) = true := by
  simp only [buttonStop, Bool.and_eq_true, and_assoc]

theorem mem_stopsInOrder {u : State} {k : Nat} : k ∈ u.stopsInOrder ↔ k < u.lts.stopCount := by
  unfold State.stopsInOrder
  split <;> simp

theorem nearestForButton_none {c : Car} {u : State} (h : u.nearestForButton c = none) : ∀ k, ¬ buttonStop c u k := by
  intro k hk
  obtain ⟨hlt, hp⟩ := buttonStop_iff.mp hk
  exact List.find?_eq_none.mp h k (mem_stopsInOrder.mpr hlt) hp

/-- The stop found is the nearest that a press may ask for (R110). -/
theorem nearestForButton_some {c : Car} {u : State} {k : Nat} (h : u.nearestForButton c = some k) :
    buttonStop c u k ∧ ∀ j, buttonStop c u j → j ≠ k → beyond u.tsq.direction k j = true := by
  have hp := List.find?_some (p := fun j => u.isAhead j && u.lts.onRequest j && u.lts.hasPlatform c j) h
  refine ⟨buttonStop_iff.mpr ⟨mem_stopsInOrder.mp (List.mem_of_find?_eq_some h), hp⟩, fun j hj hne => ?_⟩
  obtain ⟨hlt, hp⟩ := buttonStop_iff.mp hj
  unfold State.nearestForButton State.stopsInOrder at h
  cases hd : u.tsq.direction with
  | up =>
    rw [hd] at h
    obtain ⟨-, -, hlow⟩ := List.find?_range_eq_some.mp h
    refine decide_eq_true (Nat.lt_of_le_of_ne (Nat.not_lt.mp fun hjk => ?_) hne.symm)
    have hno := hlow j hjk
    rw [hp] at hno
    cases hno
  | down =>
    rw [hd] at h
    refine decide_eq_true (Nat.lt_of_le_of_ne (Nat.not_lt.mp fun hkj => ?_) hne)
    rw [find?_reverse_range_some h j hlt hkj] at hp
    cases hp

/-- A press is the model's (R109 to R111). -/
theorem haltButton_of_pressed {c : Car} {u v : State} (h : Pressed c u v) : haltButton c u = v := by
  obtain ⟨hidle, hasks⟩ := h
  unfold haltButton
  cases hn : u.nearestForButton c with
  | none => exact (hidle (nearestForButton_none hn)).symm
  | some k =>
    obtain ⟨hk, hnear⟩ := nearestForButton_some hn
    have ⟨hlt, _, hon, _⟩ := hk
    rw [hasks k hk hnear]
    simp only [haltRequest_effect, decide_eq_true_eq, hon, Nat.not_le.mpr hlt, reduceCtorEq, or_false]

/-- A press leaves what the doors and the running check read of the line. -/
theorem doorsQuiet_haltButton {c : Car} {r : CarReport} {u : State} (h : DoorsQuiet c r u) :
    DoorsQuiet c r (haltButton c u) := by
  rw [haltButton_press]
  obtain ⟨hwatch, hclose⟩ := h
  refine ⟨hwatch, ?_⟩
  rw [provesDoors_pressed (buttonPress_target c u)]
  exact hclose

/-- A report that brings no marker and no cause and ends no step (R179). -/
theorem takeCarReport_quiet {c : Car} {r : CarReport} {u v : State} (hm : r.markerPresent = 0)
    (ha : r.alarmHandle = 0 ∨ u.tsq.state = .configuring) (hf : r.faultFlag = 0) (hq : DoorsQuiet c r u)
    (hv : if r.haltButton = 1 then Pressed c u v else v = u) : takeCarReport c r u = reportTaken c r v := by
  rw [takeCarReport_unmarked hm, tsqReport_unhandled (by simpa [reportBody] using ha), yes_iff]
  by_cases hb : r.haltButton = 1
  · rw [if_pos hb] at hv
    rw [if_pos (by simpa using hb), haltButton_body, haltButton_of_pressed hv,
      quietReport hf (haltButton_of_pressed hv ▸ doorsQuiet_haltButton hq)]
  · rw [if_neg hb] at hv
    rw [if_neg (by simpa using hb), hv, quietReport hf hq]

end Sys2Proof.Machine
end

section
/-! A car report whose handle, fault flag or contacts give a cause (R113, R85, R133). -/

namespace Sys2Proof.Machine

/-! ### What a cause keeps of the doors -/

/-- A cause orders RELEASED sides closed and changes nothing else of the doors of a line that is not STOPPED (R128). -/
theorem doors_causeKept {Q : PerCar (PerSide DoorRecord) → Prop}
    (h : ∀ d, Q d → Q (d.mapCar (fun _ v => v.map orderClose))) :
    CauseKept (fun s => s.tsq.state ≠ .stopped ∧ Q s.dru) where
  raise scope e s hs := by simpa using hs
  request hs := hs
  srg f s _ hs := hs
  obs f s _ _ hs := hs
  brake b r s hs := by
    unfold setBrake
    dsimp only
    split
    · rw [testDoors_not_stopped (s := s.updObs _) hs.1]
      exact ⟨hs.1, h _ hs.2⟩
    · exact hs
  cpt f s _ hs := hs
  tripped {s} hs := by
    by_cases ht : s.tsq.state = .tripped
    · rw [changeTrip_same none ht]
      exact hs
    · rw [changeTrip_dru_closed none ht (by decide)]
      exact ⟨by simp, h _ hs.2⟩

theorem proven_orderClose (d : DoorRecord) : (orderClose d).proven = d.proven := by
  unfold orderClose
  split
  next h => simp [DoorRecord.proven, h]
  next => rfl

theorem allProven_ordered (d : PerCar (PerSide DoorRecord)) :
    allProven (d.mapCar (fun _ v => v.map orderClose)) = allProven d := by
  simp only [allProven, PerCar.mapCar, PerSide.map, proven_orderClose]

/-- An order to close hides no proof of a report (R130). -/
theorem sideReported_orderClose (closed locked : Byte) (now : Long) (d : DoorRecord) :
    (sideReported closed locked now (orderClose d)).proven = (sideReported closed locked now d).proven := by
  unfold orderClose
  split
  next h => simp [sideReported, DoorRecord.proven, h]
  next => rfl

theorem allProven_reported_ordered (c : Car) (r : CarReport) (now : Long) (d : PerCar (PerSide DoorRecord)) :
    let reported (d : PerCar (PerSide DoorRecord)) := d.set c ⟨sideReported r.leftClosed r.leftLocked now (d.get c).left,
      sideReported r.rightClosed r.rightLocked now (d.get c).right⟩
    allProven (reported (d.mapCar (fun _ v => v.map orderClose))) = allProven (reported d) := by
  cases c <;>
    simp only [allProven, PerCar.mapCar, PerSide.map, PerCar.set, PerCar.get, proven_orderClose, sideReported_orderClose]

/-! ### The doors of a report that gives no cause of its own -/

/-- The contacts of a report give no cause and end no step in the state in which its doors are taken (R133). -/
def ContactsQuiet (c : Car) (r : CarReport) (s : State) : Prop :=
  (doorsWatched s = false ∨ (r.leftLocked = 1 ∧ r.rightLocked = 1)) ∧
  ¬ (s.tsq.state = .departing ∧ s.tsq.step = some .closure ∧
    (!allProven s.dru && allProven (doorsReported c r s)) = true)

/-- The doors of a quiet report change the doors and the event sets alone. -/
theorem druReport_quiet {c : Car} {r : CarReport} {s : State} (h : ContactsQuiet c r s) :
    (druReport c r s).tsq = s.tsq ∧ (druReport c r s).obs = s.obs ∧ (druReport c r s).srg = s.srg := by
  obtain ⟨hwatch, hends⟩ := h
  have hdoors := doorContacts_eq hends
  have hrun : runningCheck c r (doorContacts c r s) = doorContacts c r s := by
    refine runningCheck_quiet (hwatch.imp_left fun hw => ?_)
    simpa [hdoors, doorsWatched, State.releasing] using hw
  rw [druReport, hrun, hdoors]
  simp

theorem contactsQuiet_of_tripped {c : Car} {r : CarReport} {s : State} (h : s.tsq.state = .tripped) :
    ContactsQuiet c r s :=
  ⟨.inl (by simp [doorsWatched, State.releasing, h]), by simp [h]⟩

/-- A cause leaves the contacts of a report quiet; the first one trips the line (R84). -/
theorem contactsQuiet_giveCause {c : Car} {r : CarReport} {s : State} (k : CauseKind) (src : CauseSource)
    (hc : s.lts.committed = true) (h : s.obs.causes = [] ∨ ContactsQuiet c r s) :
    ContactsQuiet c r (giveCause k src s) := by
  by_cases he : s.obs.causes = []
  · refine contactsQuiet_of_tripped (giveCause_first src ?_ he).1
    simp [State.takesCause, hc, State.hasCause, he]
  obtain ⟨hwatch, hends⟩ := h.resolve_left he
  have hstate := (giveCause_later (k := k) src he).1
  have hstep : (giveCause k src s).tsq.step = s.tsq.step := by
    cases ht : s.takesCause k with
    | false => rw [giveCause_not src ht]
    | true => simp [giveCause_later_eq src ht he]
  refine ⟨hwatch.imp_left fun hw => ?_, ?_⟩
  · simpa [doorsWatched, State.releasing, hstate, hstep] using hw
  · rw [hstate, hstep]
    rintro ⟨hdep, hclo, hproves⟩
    refine hends ⟨hdep, hclo, ?_⟩
    have hkept := (doors_causeKept (Q := fun d => (!allProven d && allProven (doorsReported c r { s with dru := d })) =
      (!allProven s.dru && allProven (doorsReported c r s))) (fun d hd => by
        rw [← hd, allProven_ordered]
        exact congrArg (!allProven d && ·) (allProven_reported_ordered c r s.clock d))).cause k src
      (s := s) ⟨by simp [hdep], rfl⟩
    rw [← hkept.2, ← hproves]
    simp [doorsReported]

/-! ### The line with the button of a report pressed -/

/-- The line in which the TSQ's other work of a report is done: the body of the report, its button pressed (R110, R179). -/
def reportPressed (c : Car) (r : CarReport) (u : State) : State :=
  let b := reportBody c r (carHeard c u)
  if yes r.haltButton then haltButton c b else b

/-- What the blocks before the handle keep. -/
theorem reportPressed_keeps (c : Car) (r : CarReport) (u : State) :
    let b := reportPressed c r u
    b.lts = u.lts ∧ b.rmu = u.rmu ∧ b.srg = u.srg ∧ b.obs = u.obs ∧ b.clock = u.clock ∧ b.tsq.state = u.tsq.state ∧
      b.tsq.step = u.tsq.step ∧ b.dru = (carHeard c u).dru := by
  simp only [reportPressed, reportBody]
  split <;> simp

theorem contactsQuiet_pressed {c : Car} {r : CarReport} {u : State} (h : DoorsQuiet c r u) :
    ContactsQuiet c r (reportPressed c r u) := by
  obtain ⟨-, -, -, -, hclock, hstate, hstep, hdru⟩ := reportPressed_keeps c r u
  obtain ⟨hwatch, hends⟩ := h
  unfold provesDoors at hends
  rw [linkHeard_eq] at hends
  have hheard : (carHeard c u).clock = u.clock := by simp
  refine ⟨?_, ?_⟩
  · rw [doorsWatched, State.releasing, hstate, hstep]
    exact hwatch
  · simpa only [hstate, hstep, doorsReported, hdru, hclock, hheard] using hends

/-- A report without a marker, its blocks from the handle on (R179). -/
theorem takeCarReport_pressed {c : Car} {r : CarReport} (hm : r.markerPresent = 0) (u : State) :
    takeCarReport c r u = druReport c r (obsReport c r
      (if yes r.alarmHandle ∧ u.tsq.state ≠ .configuring then giveCause .stopDemand (.car c) (reportPressed c r u)
      else reportPressed c r u)) := by
  obtain ⟨-, -, -, -, -, hstate, -⟩ := reportPressed_keeps c r u
  rw [takeCarReport_unmarked hm, ← hstate]
  rfl

/-- A report without a fault flag: the flag is kept, and nothing given (R85). -/
theorem obsReport_faultless {c : Car} {r : CarReport} (hf : r.faultFlag = 0) (s : State) :
    obsReport c r s = s.updObs (fun o => { o with carFault := o.carFault.set c false }) := by
  simp [obsReport, yes_zero hf]

/-! ### Causes given, told of the line that the report found -/

theorem causeJoined_of_same {k : CauseKind} {src : CauseSource} {u b v t : State} (h : CauseJoined k src b v)
    (hb : b.obs.causes = u.obs.causes ∧ b.obs.trippedFrom = u.obs.trippedFrom ∧ b.tsq.state = u.tsq.state ∧
      b.rmu = u.rmu ∧ b.clock = u.clock)
    (ht : t.obs.causes = v.obs.causes ∧ t.obs.trippedFrom = v.obs.trippedFrom ∧ t.tsq.state = v.tsq.state) :
    CauseJoined k src u t := by
  obtain ⟨hcauses, hfrom, hstate, hrmu, hclock⟩ := hb
  obtain ⟨tcauses, tfrom, tstate⟩ := ht
  unfold CauseJoined at h ⊢
  rw [tcauses, tfrom, tstate, ← hcauses, ← hfrom, ← hstate, ← hclock]
  have hx : u.xs = b.xs := by rw [State.xs, State.xs, hrmu]
  have hv : u.speed = b.speed := by rw [State.speed, State.speed, hrmu]
  rw [hx, hv, ← hrmu]
  exact h

/-- SERVICE braking under a cause of that severity (R89). -/
theorem giveCause_service_braked {k : CauseKind} (src : CauseSource) {s : State} (h : s.takesCause k = true)
    (hk : k.severity = .service) (hb : s.braking = .none ∨ s.braking = .stop) : ServiceBraked (giveCause k src s) := by
  by_cases he : s.obs.causes = []
  · exact (giveCause_service src h he hk).1
  have hj : (joinCause k src s).braking = .service := by
    rw [joinCause_braking, hk]
    rcases hb with hb | hb <;> rw [hb] <;> rfl
  have hact : brakingAction s.braking (joinCause k src s) = serviceBraking (joinCause k src s) := by
    rw [brakingAction, hj]
    rcases hb with hb | hb <;> rw [hb] <;> rfl
  rw [giveCause_later_eq src h he, hact]
  exact (serviceBraking_braked _).1

/-- A STOP commands no brake (R87). -/
theorem giveCause_stop_brakes (src : CauseSource) (s : State) :
    (giveCause .stopDemand src s).obs.brakes = s.obs.brakes := by
  cases ht : s.takesCause .stopDemand with
  | false => rw [giveCause_not src ht]
  | true =>
    by_cases he : s.obs.causes = []
    · rw [giveCause_stop ht he, trip_brakes, stopAction_brakes]
      simp [joinCause]
    · have hact : brakingAction s.braking (joinCause .stopDemand src s) = joinCause .stopDemand src s := by
        rw [brakingAction, joinCause_braking]
        cases s.braking <;> rfl
      rw [giveCause_later_eq src ht he, hact]
      simp [joinCause]

/-! ### The alarm handle and the fault flag (R113, R85) -/

/-- A report that finds no cause, or quiet contacts, leaves them so up to the handle. -/
theorem quiet_of_pressed {c : Car} {r : CarReport} {u : State} (hq : u.obs.causes = [] ∨ DoorsQuiet c r u) :
    (reportPressed c r u).obs.causes = [] ∨ ContactsQuiet c r (reportPressed c r u) := by
  obtain ⟨-, -, -, hobs, -⟩ := reportPressed_keeps c r u
  rw [hobs]
  exact hq.imp_right contactsQuiet_pressed

section
variable {c : Car} {r : CarReport} {u : State} (hm : r.markerPresent = 0) (hc : u.lts.committed = true)
  (hq : u.obs.causes = [] ∨ DoorsQuiet c r u)
include hm hc hq

/-- The handle of a report (R113). -/
theorem takeCarReport_handle (ha : r.alarmHandle = 1) (hf : r.faultFlag = 0) (hs : u.tsq.state ≠ .configuring) :
    (u.hasCause .stopDemand = true → (takeCarReport c r u).obs.causes = u.obs.causes) ∧
    (u.hasCause .stopDemand = false → CauseJoined .stopDemand (.car c) u (takeCarReport c r u) ∧
      (takeCarReport c r u).obs.brakes = u.obs.brakes) := by
  obtain ⟨hlts, hrmu, -, hobs, hclock, hstate, -⟩ := reportPressed_keeps c r u
  have hquiet := quiet_of_pressed hq
  rw [takeCarReport_pressed hm, if_pos ⟨yes_one ha, hs⟩, obsReport_faultless hf]
  generalize reportPressed c r u = b at hlts hrmu hobs hclock hstate hquiet
  have hcb : b.lts.committed = true := by rw [hlts, hc]
  have hhas : b.hasCause .stopDemand = u.hasCause .stopDemand := by rw [State.hasCause, State.hasCause, hobs]
  have hdoors : ContactsQuiet c r ((giveCause .stopDemand (.car c) b).updObs (fun o =>
      { o with carFault := o.carFault.set c false })) := contactsQuiet_giveCause .stopDemand (.car c) hcb hquiet
  obtain ⟨htsq, htobs, -⟩ := druReport_quiet hdoors
  rw [htobs]
  refine ⟨fun h => ?_, fun h => ⟨?_, ?_⟩⟩
  · rw [giveCause_not _ (by simp [State.takesCause, hhas, h])]
    exact (rfl : _ = b.obs.causes).trans (congrArg Obs.causes hobs)
  · exact causeJoined_of_same (giveCause_joined (.car c) hcb (by rw [hhas, h]))
      ⟨congrArg Obs.causes hobs, congrArg Obs.trippedFrom hobs, hstate, hrmu, hclock⟩
      ⟨by rw [htobs]; rfl, by rw [htobs]; rfl, by rw [htsq]; rfl⟩
  · exact (giveCause_stop_brakes (.car c) b).trans (congrArg Obs.brakes hobs)

/-- The fault flag of a report (R85). -/
theorem takeCarReport_fault (ha : r.alarmHandle = 0) (hf : r.faultFlag = 1) :
    (u.hasCause .carFault = true → (takeCarReport c r u).obs.causes = u.obs.causes) ∧
    (u.hasCause .carFault = false → CauseJoined .carFault (.car c) u (takeCarReport c r u) ∧
      (u.braking = .none ∨ u.braking = .stop → ServiceBraked (takeCarReport c r u))) := by
  obtain ⟨hlts, hrmu, -, hobs, hclock, hstate, -⟩ := reportPressed_keeps c r u
  have hquiet := quiet_of_pressed hq
  rw [takeCarReport_pressed hm, if_neg (by simp [yes_zero ha]), obsReport, if_pos (yes_one hf)]
  generalize hflag : (reportPressed c r u).updObs (fun o => { o with carFault := o.carFault.set c (yes r.faultFlag) }) = b
  have hbl : b.lts = u.lts := by rw [← hflag]; exact hlts
  have hcauses : b.obs.causes = u.obs.causes := by
    subst hflag
    exact (rfl : _ = (reportPressed c r u).obs.causes).trans (congrArg Obs.causes hobs)
  have hfrom : b.obs.trippedFrom = u.obs.trippedFrom := by
    subst hflag
    exact (rfl : _ = (reportPressed c r u).obs.trippedFrom).trans (congrArg Obs.trippedFrom hobs)
  have hbstate : b.tsq.state = u.tsq.state := by rw [← hflag]; exact hstate
  have hcb : b.lts.committed = true := by rw [hbl, hc]
  have hhas : b.hasCause .carFault = u.hasCause .carFault := by rw [State.hasCause, State.hasCause, hcauses]
  have hbraking : b.braking = u.braking := by rw [State.braking, State.braking, hcauses]
  have hdoors := contactsQuiet_giveCause .carFault (.car c) hcb (show b.obs.causes = [] ∨ ContactsQuiet c r b by
    rw [← hflag]
    exact hquiet)
  obtain ⟨htsq, htobs, htsrg⟩ := druReport_quiet hdoors
  rw [htobs]
  refine ⟨fun h => ?_, fun h => ⟨?_, fun hb => ?_⟩⟩
  · rw [giveCause_not _ (by simp [State.takesCause, hhas, h]), hcauses]
  · exact causeJoined_of_same (giveCause_joined (.car c) hcb (by rw [hhas, h]))
      ⟨hcauses, hfrom, hbstate, by rw [← hflag]; exact hrmu, by rw [← hflag]; exact hclock⟩
      ⟨by rw [htobs], by rw [htobs], by rw [htsq]⟩
  · have hbraked := giveCause_service_braked (k := .carFault) (.car c) (takesCause_of (by rw [hhas, h]) hcb) rfl
      (by rw [hbraking]; exact hb)
    rw [ServiceBraked, htobs, htsq, htsrg]
    exact hbraked

end

/-! ### The contacts (R133) -/

/-- The sides of a car are proven by a report that shows them locked (R124). -/
theorem locked_of_proves {c : Car} {r : CarReport} {s : State} (h : allProven (doorsReported c r s) = true) :
    r.leftLocked = 1 ∧ r.rightLocked = 1 := by
  have hside {closed locked : Byte} {d : DoorRecord} (hp : (sideReported closed locked s.clock d).proven = true) :
      locked = 1 := by
    simp only [DoorRecord.proven, Bool.and_eq_true, decide_eq_true_eq] at hp
    obtain ⟨-, hp⟩ := hp
    unfold sideReported at hp
    dsimp only at hp
    split at hp
    · simpa using hp
    split at hp <;> simpa using hp
  simp only [allProven, Bool.and_eq_true] at h
  obtain ⟨⟨⟨hal, har⟩, hbl⟩, hbr⟩ := h
  cases c
  · exact ⟨hside hal, hside har⟩
  · exact ⟨hside hbl, hside hbr⟩

/-- A report whose contacts are not looked at, or locked, gives no cause by them (R133). -/
theorem druReport_causes {c : Car} {r : CarReport} {s : State}
    (h : doorsWatched s = false ∨ (r.leftLocked = 1 ∧ r.rightLocked = 1)) :
    (druReport c r s).obs.causes = s.obs.causes := by
  by_cases hl : r.leftLocked = 1 ∧ r.rightLocked = 1
  · rw [druReport, runningCheck_quiet (.inr hl)]
    simp
  · have hquiet : ContactsQuiet c r s := by
      refine ⟨h, ?_⟩
      rintro ⟨-, -, hproves⟩
      refine hl ?_
      rw [Bool.and_eq_true] at hproves
      exact locked_of_proves hproves.2
    rw [(druReport_quiet hquiet).2.1]

/-- An unlocked side is not held closed by its report (R130). -/
theorem sideReported_unlocked {closed locked : Byte} (h : locked = 0) (now : Long) (d : DoorRecord) :
    (sideReported closed locked now d).command ≠ .holdClosed := by
  unfold sideReported
  cases d.command <;> simp [h]

theorem get_ordered (d : PerCar (PerSide DoorRecord)) (c : Car) (side : Side) :
    ((d.mapCar (fun _ (v : PerSide DoorRecord) => v.map orderClose)).get c).get side = orderClose ((d.get c).get side) := by
  cases c <;> cases side <;> rfl

/-- The sides of an unlocked report after the running check's cause and the test of the doors (R128, R133). -/
theorem unlocked_closeOrdered {c : Car} {r : CarReport} {s : State} (hs : s.tsq.state ≠ .stopped) (side : Side)
    (h : ((doorsReported c r s).get c |>.get side).command ≠ .holdClosed) (k : CauseKind) (src : CauseSource)
    (es : List EventKind) :
    (((testDoors (giveCause k src (({ s with dru := doorsReported c r s } : State).raising es))).dru.get c).get side).command =
      .closeOrdered := by
  obtain ⟨hstate, hcmd⟩ := (doors_causeKept (Q := fun d => ((d.get c).get side).command ≠ .holdClosed) (fun d hd => by
    rw [get_ordered]
    unfold orderClose
    split
    · simp
    · exact hd)).cause k src (s := ({ s with dru := doorsReported c r s } : State).raising es) ⟨hs, h⟩
  rw [testDoors_not_stopped hstate]
  generalize giveCause k src _ = v at hcmd ⊢
  rw [updDru_dru, get_ordered]
  unfold orderClose
  cases hv : ((v.dru.get c).get side).command with
  | holdClosed => exact absurd hv hcmd
  | closeOrdered => simp [hv]
  | released => simp

/-- The lines whose contacts are looked at are not STOPPED and not in step CLOSURE (R133). -/
theorem state_of_watched {s : State} (h : doorsWatched s = true) :
    s.tsq.state ≠ .stopped ∧ ¬ (s.tsq.state = .departing ∧ s.tsq.step = some .closure) := by
  simp only [doorsWatched, State.releasing, Bool.or_eq_true, Bool.and_eq_true, decide_eq_true_eq] at h
  rcases h with (⟨hs, hstep⟩ | hs) | hs
  · simp [hs, hstep]
  · simp [hs]
  · simp [hs]

/-- A watched report with a side unlocked (R133). -/
theorem druReport_unlocked {c : Car} {r : CarReport} {s : State} (hw : doorsWatched s = true)
    (hl : r.leftLocked = 0 ∨ r.rightLocked = 0) : ∃ es, druReport c r s = testDoors (giveCause .doorUnlockedRunning (.car c)
      (({ s with dru := doorsReported c r s } : State).raising es)) := by
  obtain ⟨-, hclo⟩ := state_of_watched hw
  have hdoors := doorContacts_eq (c := c) (r := r) (s := s) (fun h => hclo ⟨h.1, h.2.1⟩)
  refine ⟨eventIf (!allProven s.dru && allProven (doorsReported c r s)) .doorsProvenClosed, ?_⟩
  rw [druReport, hdoors, runningCheck, if_pos]
  rw [Bool.and_eq_true]
  refine ⟨hw, ?_⟩
  rcases hl with hl | hl <;> simp [yes_zero hl]

section
variable {c : Car} {r : CarReport} {u : State} (hm : r.markerPresent = 0) (ha : r.alarmHandle = 0) (hf : r.faultFlag = 0)
include hm ha hf

/-- A report without marker, handle and fault: its doors taken (R179). -/
theorem takeCarReport_doors : takeCarReport c r u = druReport c r ((reportPressed c r u).updObs (fun o =>
    { o with carFault := o.carFault.set c false })) := by
  rw [takeCarReport_pressed hm, if_neg (by simp [yes_zero ha]), obsReport_faultless hf]

/-- The contacts not looked at, or locked (R133). -/
theorem takeCarReport_locked (h : doorsWatched u = false ∨ (r.leftLocked = 1 ∧ r.rightLocked = 1)) :
    (takeCarReport c r u).obs.causes = u.obs.causes := by
  obtain ⟨-, -, -, hobs, -, hstate, hstep, -⟩ := reportPressed_keeps c r u
  rw [takeCarReport_doors hm ha hf, druReport_causes]
  · exact (rfl : _ = (reportPressed c r u).obs.causes).trans (congrArg Obs.causes hobs)
  · rw [doorsWatched, State.releasing, updObs_tsq, hstate, hstep]
    exact h

/-- A side unlocked under the running check (R133). -/
theorem takeCarReport_unlocked (hw : doorsWatched u = true) (hl : r.leftLocked = 0 ∨ r.rightLocked = 0)
    (hc : u.lts.committed = true) :
    let t := takeCarReport c r u
    (r.leftLocked = 0 → (t.dru.get c).left.command = .closeOrdered) ∧
    (r.rightLocked = 0 → (t.dru.get c).right.command = .closeOrdered) ∧
    (u.hasCause .doorUnlockedRunning = true → t.obs.causes = u.obs.causes) ∧
    (u.hasCause .doorUnlockedRunning = false → CauseJoined .doorUnlockedRunning (.car c) u t ∧
      (u.braking = .none ∨ u.braking = .stop → ServiceBraked t)) := by
  obtain ⟨hlts, hrmu, -, hobs, hclock, hstate, hstep, -⟩ := reportPressed_keeps c r u
  rw [takeCarReport_doors hm ha hf]
  have hcauses : ((reportPressed c r u).updObs (fun o => { o with carFault := o.carFault.set c false })).obs.causes =
      u.obs.causes := (rfl : _ = (reportPressed c r u).obs.causes).trans (congrArg Obs.causes hobs)
  have hfrom : ((reportPressed c r u).updObs (fun o => { o with carFault := o.carFault.set c false })).obs.trippedFrom =
      u.obs.trippedFrom := (rfl : _ = (reportPressed c r u).obs.trippedFrom).trans (congrArg Obs.trippedFrom hobs)
  have hwatch : doorsWatched ((reportPressed c r u).updObs (fun o => { o with carFault := o.carFault.set c false })) =
      true := by
    rw [doorsWatched, State.releasing, updObs_tsq, hstate, hstep]
    exact hw
  rw [← updObs_lts (f := fun o => { o with carFault := o.carFault.set c false })] at hlts
  rw [← updObs_rmu (f := fun o => { o with carFault := o.carFault.set c false })] at hrmu
  rw [← updObs_clock (f := fun o => { o with carFault := o.carFault.set c false })] at hclock
  rw [← updObs_tsq (f := fun o => { o with carFault := o.carFault.set c false })] at hstate
  generalize (reportPressed c r u).updObs (fun o => { o with carFault := o.carFault.set c false }) = b at *
  obtain ⟨es, hdru⟩ := druReport_unlocked (c := c) hwatch hl
  have hns := (state_of_watched hwatch).1
  have hside (side : Side) := unlocked_closeOrdered (c := c) (r := r) hns side
  dsimp only
  rw [hdru]
  refine ⟨fun h => hside .left ?_ _ _ _, fun h => hside .right ?_ _ _ _, ?_⟩
  · cases c <;> exact sideReported_unlocked h _ _
  · cases c <;> exact sideReported_unlocked h _ _
  have hj : (({ b with dru := doorsReported c r b } : State).raising es).obs = b.obs := rfl
  have hcb : (({ b with dru := doorsReported c r b } : State).raising es).lts.committed = true := by
    show b.lts.committed = true
    rw [hlts, hc]
  have hhas : (({ b with dru := doorsReported c r b } : State).raising es).hasCause .doorUnlockedRunning =
      u.hasCause .doorUnlockedRunning := by rw [State.hasCause, State.hasCause, hj, hcauses]
  have hbraking : (({ b with dru := doorsReported c r b } : State).raising es).braking = u.braking := by
    rw [State.braking, State.braking, hj, hcauses]
  refine ⟨fun h => ?_, fun h => ⟨?_, fun hb => ?_⟩⟩
  · rw [giveCause_not _ (by simp [State.takesCause, hhas, h])]
    simpa using hcauses
  · exact causeJoined_of_same (giveCause_joined (.car c) hcb (by rw [hhas, h])) ⟨hcauses, hfrom, hstate, hrmu, hclock⟩
      (by simp)
  · have hbraked := giveCause_service_braked (.car c) (takesCause_of (by rw [hhas, h]) hcb) rfl
      (by rw [hbraking]; exact hb)
    simpa [ServiceBraked] using hbraked

end

end Sys2Proof.Machine
end

section
/-! A car report that closes the doors of a departure (R116, R131), and what every car report leaves (R179). -/

namespace Sys2Proof.Machine

/-! ### The brake-release step while the lift waits (R117) -/

/-- What a direction handed over in a brake-release step leaves, both brakes commanded LIFTED or the direction pending. -/
structure DirectionHanded (s t : State) : Prop where
  trip     : t.tsq.state = s.tsq.state ∧ t.tsq.step = s.tsq.step ∧ t.tsq.closureTimer = s.tsq.closureTimer
  frozen   : t.srg.frozen = s.srg.frozen
  envelope : t.obs.envelope = s.obs.envelope ∧ t.obs.rollback = s.obs.rollback
  rmu      : t.rmu = s.rmu
  doors    : t.dru = s.dru ∨ t.dru = s.dru.mapCar (fun _ v => v.map orderClose)

theorem directionShown_handed {s : State} (hrel : s.releasing = true) (hc : s.obs.causes = [])
    (h : s.obs.brakes.sbk.command = .applied) (hr : s.obs.brakes.sbk.reading = .dropped) :
    DirectionHanded s (directionShown s) := by
  rw [directionShown_lifts (.inl hrel) hc h hr]
  exact ⟨⟨rfl, rfl, rfl⟩, rfl, ⟨rfl, rfl⟩, rfl, .inr rfl⟩

/-- A direction handed over in a brake-release step whose lift must wait (R68, R117). -/
theorem handDirection_handed {s : State} (d : Direction) (hrel : s.releasing = true) (hc : s.obs.causes = [])
    (h : s.obs.brakes.sbk.command = .applied) (hr : s.obs.brakes.sbk.reading = .dropped) :
    DirectionHanded s (handDirection d s) := by
  unfold handDirection
  split
  · obtain ⟨htrip, hfrozen, henv, hrmu, hdoors⟩ := directionShown_handed
      (s := s.updSrg (fun r => { r with dirPending := none })) hrel hc h hr
    exact ⟨htrip, hfrozen, henv, hrmu, hdoors⟩
  split
  · obtain ⟨htrip, hfrozen, henv, hrmu, hdoors⟩ := directionShown_handed
      (s := s.updSrg (fun r => { r with dir := d, dirPending := none })) hrel hc h hr
    exact ⟨htrip, hfrozen, henv, hrmu, hdoors⟩
  · exact ⟨⟨rfl, rfl, rfl⟩, rfl, ⟨rfl, rfl⟩, rfl, .inl rfl⟩

theorem releaseActions_rollback (s : State) :
    (releaseActions s).obs.rollback = .running 0 ∧ (releaseActions s).tsq.closureTimer = none := by
  have he (u : State) : (envelopeForTrip u).obs.rollback = .running 0 := by
    unfold envelopeForTrip
    rw [updObs_obs]
    dsimp only
    split <;> rfl
  simp [releaseActions, he]

/-- No side is RELEASED: an order to close changes none (R128). -/
theorem ordered_eq {d : PerCar (PerSide DoorRecord)} (h : ∀ c side, ((d.get c).get side).command ≠ .released) :
    d.mapCar (fun _ v => v.map orderClose) = d := by
  have hside (c : Car) (side : Side) : orderClose ((d.get c).get side) = (d.get c).get side := if_neg (h c side)
  have ha : d.a.map orderClose = d.a := congrArg₂ PerSide.mk (hside .a .left) (hside .a .right)
  have hb : d.b.map orderClose = d.b := congrArg₂ PerSide.mk (hside .b .left) (hside .b .right)
  exact congrArg₂ PerCar.mk ha hb

/-- The brake-release step of a departure whose sides are held closed (R116, R117). -/
theorem brakeRelease_held {s : State} (hs : s.tsq.state = .departing) (hc : s.obs.causes = [])
    (h : s.obs.brakes.sbk.command = .applied) (hr : s.obs.brakes.sbk.reading = .dropped)
    (hd : ∀ c side, ((s.dru.get c).get side).command = .holdClosed) :
    let t := brakeRelease s
    t.tsq.state = .departing ∧ t.tsq.step = some .brakeRelease ∧ t.tsq.closureTimer = none ∧ t.obs.envelope = true ∧
      t.obs.rollback = .running 0 ∧ t.rmu.slipActive = true ∧ t.srg.frozen = true ∧ t.obs.causes = [] ∧ t.dru = s.dru := by
  obtain ⟨henv, hslip, hfrozen, hstep⟩ := releaseActions_release s
  obtain ⟨hroll, htimer⟩ := releaseActions_rollback s
  obtain ⟨⟨hstate', hstep', htimer'⟩, hfrozen', ⟨henv', hroll'⟩, hrmu', hdoors'⟩ :=
    handDirection_handed (s := releaseActions s) (releaseActions s).tsq.direction
      (by simp [State.releasing, hs]) (by simp [hc]) (by simp [h]) (by simp [hr])
  refine ⟨hstate'.trans (by simp [hs]), hstep'.trans hstep, htimer'.trans htimer, henv'.trans henv, hroll'.trans hroll,
    (congrArg Rmu.slipActive hrmu').trans hslip, hfrozen'.trans hfrozen, by simp [hc], ?_⟩
  have hdru : (releaseActions s).dru = s.dru := by simp
  rcases hdoors' with hdoors' | hdoors'
  · exact hdoors'.trans hdru
  · rw [hdru, ordered_eq (fun c side => by simp [hd c side])] at hdoors'
    exact hdoors'

/-! ### The report that closes the doors (R116, R131) -/

/-- A side that a report closes is held closed, and proven (R130). -/
theorem sideReported_closes {closed locked : Byte} {d : DoorRecord} (now : Long) (h : closesWith d closed locked) :
    (sideReported closed locked now d).command = .holdClosed ∧ (sideReported closed locked now d).proven = true := by
  obtain ⟨hc, hl, hd⟩ := h
  rcases hd with hd | ⟨hd, ho⟩
  · simp [sideReported, DoorRecord.proven, hc, hl, hd]
  · simp [sideReported, DoorRecord.proven, hc, hl, hd, ho]

section
variable {c : Car} {r : CarReport} {s : State} (hl : closesWith (s.dru.get c).left r.leftClosed r.leftLocked)
  (hr : closesWith (s.dru.get c).right r.rightClosed r.rightLocked)
  (hx : ∀ x side, x ≠ c → ((s.dru.get x).get side).command = .holdClosed ∧
    ((s.dru.get x).get side).closed = some true ∧ ((s.dru.get x).get side).locked = some true)
include hl hr hx

/-- The sides that such a report finds are not RELEASED. -/
theorem not_released_of_closes (x : Car) (side : Side) : ((s.dru.get x).get side).command ≠ .released := by
  have hside {closed locked : Byte} {d : DoorRecord} (h : closesWith d closed locked) : d.command ≠ .released := by
    obtain ⟨-, -, hd | ⟨hd, -⟩⟩ := h <;> simp [hd]
  by_cases he : x = c
  · subst he
    cases side
    · exact hside hl
    · exact hside hr
  · simp [(hx x side he).1]

/-- The sides after the report are held closed. -/
theorem held_of_closes (x : Car) (side : Side) : (((doorsReported c r s).get x).get side).command = .holdClosed := by
  rw [doorsReported, PerCar.get_set]
  by_cases he : x = c
  · rw [if_pos he]
    cases side
    · exact (sideReported_closes _ hl).1
    · exact (sideReported_closes _ hr).1
  · rw [if_neg he]
    exact (hx x side he).1

theorem allProven_of_closes : allProven (doorsReported c r s) = true := by
  have hside (x : Car) (side : Side) : (((doorsReported c r s).get x).get side).proven = true := by
    rw [doorsReported, PerCar.get_set]
    by_cases he : x = c
    · rw [if_pos he]
      cases side
      · exact (sideReported_closes _ hl).2
      · exact (sideReported_closes _ hr).2
    · rw [if_neg he]
      obtain ⟨hcmd, hclosed, hlocked⟩ := hx x side he
      simp [DoorRecord.proven, hcmd, hclosed, hlocked]
  have hal := hside .a .left
  have har := hside .a .right
  have hbl := hside .b .left
  have hbr := hside .b .right
  simp only [PerCar.get, PerSide.get] at hal har hbl hbr
  simp [allProven, hal, har, hbl, hbr]

/-- The doors of a report that ends step CLOSURE (R116, R131). -/
theorem druReport_closes (hs : s.tsq.state = .departing) (hstep : s.tsq.step = some .closure)
    (hp : allProven s.dru = false) (hc : s.obs.causes = []) (h : s.obs.brakes.sbk.command = .applied)
    (hread : s.obs.brakes.sbk.reading = .dropped) :
    let t := druReport c r s
    t.tsq.state = .departing ∧ t.tsq.step = some .brakeRelease ∧ t.tsq.closureTimer = none ∧ t.obs.envelope = true ∧
      t.obs.rollback = .running 0 ∧ t.rmu.slipActive = true ∧ t.srg.frozen = true ∧ t.obs.causes = [] ∧
      (∀ x side, ((t.dru.get x).get side).command = .holdClosed) ∧
      EventsGrow (raise .doorsProvenClosed s) t := by
  have hheld := held_of_closes hl hr hx
  have hdoors : doorContacts c r s = brakeRelease (raise .doorsProvenClosed ({ s with dru := doorsReported c r s } : State)) := by
    have hdru : s.updDru (fun d => d.set c ((d.get c).reported r s.clock)) =
        ({ s with dru := doorsReported c r s } : State) := by
      simp only [doorsReported, ← reported_eq]
      rfl
    rw [doorContacts, hdru]
    dsimp only
    rw [if_pos (by rw [hp]; exact allProven_of_closes hl hr hx)]
    exact if_pos ⟨by simpa using hs, by simpa using hstep⟩
  obtain ⟨hstate', hstep', htimer', henv', hroll', hslip', hfrozen', hcauses', hdru'⟩ :=
    brakeRelease_held (s := raise .doorsProvenClosed ({ s with dru := doorsReported c r s } : State)) (by simp [hs])
      (by simp [hc]) (by simp [h]) (by simp [hread]) (by simpa using hheld)
  have hgrow : EventsGrow (raise .doorsProvenClosed s) (brakeRelease (raise .doorsProvenClosed
      ({ s with dru := doorsReported c r s } : State))) :=
    (eventsGrow_portsKept _).opsKept.brakeRelease (by simp [State.releasing, hstep])
      ((eventsGrow_portsKept _).ports (EventsGrow.refl _) rfl)
  rw [druReport, hdoors, runningCheck_quiet (.inr ⟨hl.2.1, hr.2.1⟩)]
  generalize brakeRelease _ = v at *
  refine ⟨by simpa using hstate', by simpa using hstep', by simpa using htimer', by simpa using henv', by simpa using hroll',
    by simpa using hslip', by simpa using hfrozen', by simpa using hcauses', fun x side => ?_,
    (eventsGrow_portsKept _).opsKept.doors hgrow⟩
  have hv : v.dru = doorsReported c r s := by simpa using hdru'
  rw [testDoors_not_stopped (by simp [hstate']), updDru_dru, get_ordered, hv]
  unfold orderClose
  rw [if_neg (by simp [hheld])]
  exact hheld x side

end

/-- The report that closes the doors of a departure in step CLOSURE (R116, R131). -/
theorem takeCarReport_closes {c : Car} {r : CarReport} {u : State} (hm : r.markerPresent = 0) (hb : r.haltButton = 0)
    (ha : r.alarmHandle = 0) (hf : r.faultFlag = 0) (hs : u.tsq.state = .departing) (hstep : u.tsq.step = some .closure)
    (hc : u.obs.causes = []) (h : u.obs.brakes.sbk.command = .applied) (hread : u.obs.brakes.sbk.reading = .dropped)
    (hp : allProven u.dru = false) (hl : closesWith (u.dru.get c).left r.leftClosed r.leftLocked)
    (hr : closesWith (u.dru.get c).right r.rightClosed r.rightLocked)
    (hx : ∀ x side, x ≠ c → ((u.dru.get x).get side).command = .holdClosed ∧
      ((u.dru.get x).get side).closed = some true ∧ ((u.dru.get x).get side).locked = some true) :
    let t := takeCarReport c r u
    t.tsq.state = .departing ∧ t.tsq.step = some .brakeRelease ∧ t.tsq.closureTimer = none ∧ t.obs.envelope = true ∧
      t.obs.rollback = .running 0 ∧ t.rmu.slipActive = true ∧ t.srg.frozen = true ∧ t.obs.causes = [] ∧
      (∀ x side, ((t.dru.get x).get side).command = .holdClosed) ∧
      (∀ q, (u.lpu.ports.get q).subs.getLsbD 5 = true → (t.lpu.ports.get q).events.getLsbD 5 = true) := by
  have hdru : (carHeard c u).dru = u.dru := by
    have hns : (raiseLink .linkUp c.port (u.updLpu (fun l =>
        { l with carLinks := l.carLinks.set c ⟨true, some ⟨0, u.lts.carLinkTo.toNat⟩⟩ }))).tsq.state ≠ .stopped := by
      simp [hs]
    unfold carHeard
    dsimp only
    split
    · rfl
    · rw [testDoors_not_stopped hns, updDru_dru]
      simpa using ordered_eq (not_released_of_closes hl hr hx)
  have hsubs (q : PortId) : ((carHeard c u).lpu.ports.get q).subs = (u.lpu.ports.get q).subs := by
    have hgrow : EventsGrow u (carHeard c u) := by
      unfold carHeard
      dsimp only
      split
      · exact (eventsGrow_portsKept u).ports (EventsGrow.refl u) rfl
      · exact (eventsGrow_portsKept u).opsKept.doors ((eventsGrow_portsKept u).raise _ _
          ((eventsGrow_portsKept u).ports (EventsGrow.refl u) rfl))
    exact (hgrow q).1
  have hbody : reportPressed c r u = reportBody c r (carHeard c u) := by
    simp [reportPressed, yes_zero hb]
  rw [takeCarReport_doors hm ha hf, hbody]
  have hports : ((reportBody c r (carHeard c u)).updObs (fun o => { o with carFault := o.carFault.set c false })).lpu =
      (carHeard c u).lpu := by simp [reportBody]
  have hbdru : ((reportBody c r (carHeard c u)).updObs (fun o => { o with carFault := o.carFault.set c false })).dru =
      u.dru := by simp [reportBody, hdru]
  obtain ⟨hstate', hstep', htimer', henv', hroll', hslip', hfrozen', hcauses', hheld', hgrow⟩ :=
    druReport_closes (c := c) (r := r)
      (s := (reportBody c r (carHeard c u)).updObs (fun o => { o with carFault := o.carFault.set c false }))
      (by rw [hbdru]; exact hl) (by rw [hbdru]; exact hr) (by rw [hbdru]; exact hx) (by simp [reportBody, hs])
      (by simp [reportBody, hstep]) (by rw [hbdru, hp]) (by simp [reportBody, hc]) (by simp [reportBody, h])
      (by simp [reportBody, hread])
  refine ⟨hstate', hstep', htimer', henv', hroll', hslip', hfrozen', hcauses', hheld', fun q hq => ?_⟩
  exact hgrow.joined (e := .doorsProvenClosed) (by rw [hports, hsubs]; exact hq)

/-! ### What every car report leaves (R179) -/

/-- A CAR_ORDER begun: the port's transmitter alone, and the order sequences counted (R129, R177). -/
theorem orderBegun_tx (c : Car) (s : State) :
    ((orderBegun c s).lpu.ports.get c.port).tx = some ⟨148, carOrder c s⟩ := by
  cases c <;> rfl

theorem orderBegun_links (c : Car) (s : State) : (orderBegun c s).lpu.carLinks = s.lpu.carLinks := rfl

theorem orderBegun_events (c : Car) (s : State) (q : PortId) :
    ((orderBegun c s).lpu.ports.get q).events = (s.lpu.ports.get q).events := by
  cases c <;> cases q <;> rfl

/-- Counted order sequences keep the commands of the sides (R129). -/
theorem orderBegun_command (c x : Car) (side : Side) (s : State) :
    (((orderBegun c s).dru.get x).get side).command = ((s.dru.get x).get side).command := by
  have hcount (d : DoorRecord) : (if d.command = .closeOrdered then { d with orders := min (d.orders + 1) 255 }
      else d).command = d.command := by
    split <;> rfl
  show (((s.dru.set c (ordersCounted (s.dru.get c))).get x).get side).command = _
  rw [PerCar.get_set]
  by_cases he : x = c
  · rw [if_pos he, he]
    cases side <;> exact hcount _
  · rw [if_neg he]

/-- The CAR_ORDER of a line and of the line with its orders counted are the same (R134). -/
theorem carOrder_orderBegun (c : Car) (s : State) : carOrder c (orderBegun c s) = carOrder c s := by
  have hl := orderBegun_command c c .left s
  have hr := orderBegun_command c c .right s
  unfold carOrder
  rw [hl, hr]
  rfl

/-- The blocks of a report change no link and no port but by events (R179). -/
theorem takeCarReport_ports (c : Car) (r : CarReport) (u : State) :
    (takeCarReport c r u).lpu.sansEvents = (carHeard c u).lpu.sansEvents := by
  have hmarker (s : State) : (takeMarker c r s).lpu.sansEvents = s.lpu.sansEvents := by
    unfold takeMarker
    split
    · rfl
    split
    · rfl
    split
    · rfl
    split
    · rfl
    unfold reconcile
    dsimp only
    split
    · simp [setLastMarker]
    · split <;> simp [setLastMarker]
  have hcpt (s : State) : (cptReport c r s).lpu.sansEvents = s.lpu.sansEvents := by
    simp only [cptReport]
    split
    · simp [hmarker]
    · rfl
  have hbutton (s : State) : (haltButton c s).lpu.sansEvents = s.lpu.sansEvents := by
    unfold haltButton
    split
    · unfold haltRequest
      split
      · rfl
      split
      · rfl
      split
      · rfl
      split <;> simp
    · rfl
  have htsq (s : State) : (tsqReport c r s).lpu.sansEvents = s.lpu.sansEvents := by
    simp only [tsqReport]
    split <;> split <;> simp [hbutton]
  have hobs (s : State) : (obsReport c r s).lpu.sansEvents = s.lpu.sansEvents := by
    simp only [obsReport]
    split <;> simp
  have hcontacts (s : State) : (doorContacts c r s).lpu.sansEvents = s.lpu.sansEvents := by
    simp only [doorContacts]
    split <;> simp
  have hrun (s : State) : (runningCheck c r s).lpu.sansEvents = s.lpu.sansEvents := by
    unfold runningCheck
    split <;> simp
  rw [takeCarReport, druReport, testDoors_ports, hrun, hcontacts, hobs, htsq, bcuReport, updBcu_lpu, hcpt]

/-- Every report's odometer, load and fault flag (R40, R138, R85), and the items it leaves alone. -/
theorem takeCarReport_kept (c : Car) (r : CarReport) (u : State) :
    let t := takeCarReport c r u
    t.lpu.carLinks = u.lpu.carLinks.set c ⟨true, some ⟨0, u.lts.carLinkTo.toNat⟩⟩ ∧
      (t.cpt.cars.get c).lastOdo = some r.odoNow ∧
      t.bcu.loads = u.bcu.loads.set c ⟨loadAfter r (u.bcu.loads.get c), some ⟨r.inCounter, r.outCounter⟩⟩ ∧
      t.obs.carFault = u.obs.carFault.set c (decide (r.faultFlag = 1)) ∧ t.lts = u.lts ∧ SameClocks u t := by
  have hload (l : LoadRecord) : l.counted r = ⟨loadAfter r l, some ⟨r.inCounter, r.outCounter⟩⟩ := by
    unfold LoadRecord.counted loadAfter
    cases l.snap <;> rfl
  have hloads (s : State) : (bcuReport c r s).bcu.loads = s.bcu.loads.set c ((s.bcu.loads.get c).counted r) := rfl
  have hflag (s : State) : (obsReport c r s).obs.carFault = s.obs.carFault.set c (yes r.faultFlag) := by
    simp only [obsReport]
    split <;> simp
  refine ⟨?_, ?_, ?_, ?_, by simp [takeCarReport], by simp [takeCarReport, SameClocks]⟩
  · rw [(sansEvents_eq (takeCarReport_ports c r u)).1]
    unfold carHeard
    dsimp only
    split
    · rfl
    · rw [(sansEvents_eq (testDoors_ports _)).1, (sansEvents_eq (raiseLink_sansEvents _ _ _)).1]
      rfl
  · obtain ⟨-, -, -, hcars⟩ := afterPosition_keeps c r (cptReport c r (carHeard c u))
    rw [takeCarReport_eq, hcars]
    cases c <;> rfl
  · rw [← hload]
    simp [takeCarReport, hloads]
  · rw [← yes_iff]
    simp [takeCarReport, hflag]

/-- Settles O51: each part of a car report, whatever it brings. -/
theorem carReportTaken : Obligations.CarReportTaken := by
  intro c r s he
  have hx := exec_carReport (c := c) he s
  dsimp only
  generalize s.ready c.port = u at hx ⊢
  obtain ⟨hlinks, hodo, hload, hfault, hlts, hclocks⟩ := takeCarReport_kept c r u
  refine ⟨_, hx, ?_, ?_, ?_, ?_, ?_, ?_, ?_, ?_, ?_, ?_, ?_, ?_⟩
  · rw [carOrder_orderBegun, orderBegun_tx]
  · exact (orderBegun_links c _).trans hlinks
  · simpa using hodo
  · simpa using hload
  · simpa using hfault
  · simpa using hlts
  · simpa [SameClocks] using hclocks
  · intro hm ha hf hq v hv
    rw [takeCarReport_quiet hm ha hf hq hv]
  · intro hm ha hf hc hs hq
    obtain ⟨hlisted, hjoined⟩ := takeCarReport_handle hm hc hq ha hf hs
    refine ⟨fun h => by simpa using hlisted h, fun h => ?_⟩
    obtain ⟨hcause, hbrakes⟩ := hjoined h
    exact ⟨by simpa [CauseJoined] using hcause, by simpa using hbrakes⟩
  · intro hm ha hf hc hq
    obtain ⟨hlisted, hjoined⟩ := takeCarReport_fault hm hc hq ha hf
    refine ⟨fun h => by simpa using hlisted h, fun h => ?_⟩
    obtain ⟨hcause, hbraked⟩ := hjoined h
    exact ⟨by simpa [CauseJoined] using hcause, fun hb => by simpa [ServiceBraked] using hbraked hb⟩
  · intro hm ha hf
    refine ⟨fun h => by simpa using takeCarReport_locked hm ha hf h, fun hw hl hc => ?_⟩
    obtain ⟨hleft, hright, hlisted, hjoined⟩ := takeCarReport_unlocked hm ha hf hw hl hc
    refine ⟨fun h => (orderBegun_command c c .left _).trans (hleft h),
      fun h => (orderBegun_command c c .right _).trans (hright h), fun h => by simpa using hlisted h, fun h => ?_⟩
    obtain ⟨hcause, hbraked⟩ := hjoined h
    exact ⟨by simpa [CauseJoined] using hcause, fun hb => by simpa [ServiceBraked] using hbraked hb⟩
  · intro hm hb ha hf hs hstep hc h hread hp hl hr hx
    obtain ⟨hstate', hstep', htimer', henv', hroll', hslip', hfrozen', hcauses', hheld', hevents'⟩ :=
      takeCarReport_closes hm hb ha hf hs hstep hc h hread hp hl hr hx
    exact ⟨by simpa using hstate', by simpa using hstep', by simpa using htimer', by simpa using henv',
      by simpa using hroll', by simpa using hslip', by simpa using hfrozen', by simpa using hcauses',
      fun x side => (orderBegun_command c x side _).trans (hheld' x side),
      fun q hq => by rw [orderBegun_events]; exact hevents' q hq⟩

end Sys2Proof.Machine
end

section
/-! The SRG at a sample (R57 to R66): the reference formed toward a target, ramped down, or at rest. -/

namespace Sys2Proof.Machine

/-! ### The reference formed (R57 to R64) -/

theorem computesReference_iff (s : State) : s.computesReference = true ↔ s.tsq.state = .running ∨
    (s.tsq.state = .inspecting ∧ (s.tsq.step = some .moving ∨ s.tsq.step = some .holding)) ∨
    (s.tsq.state = .tripped ∧ s.srg.ctlTarget.isSome = true ∧ s.den = true) := by
  unfold State.computesReference
  cases s.tsq.state <;> simp

theorem rampsDown_iff (s : State) : s.rampsDown = true ↔
    s.tsq.state = .tripped ∧ s.obs.trippedFrom = some .inspecting ∧ s.braking = .stop ∧ s.den = true := by
  simp [State.rampsDown, and_assoc]

theorem formReference_computed {s : State} {dt : Int} (hc : s.computesReference = true)
    (hd : s.targetDistance = some dt) : formReference s = computeReference dt s := by
  rw [formReference, if_pos hc, hd]

theorem formReference_ramped {s : State} (hc : s.computesReference = false) (hr : s.rampsDown = true) :
    formReference s = rampReference s := by
  rw [formReference, if_neg (by simp [hc]), if_pos hr]

theorem formReference_rest {s : State} (hc : s.computesReference = false) (hr : s.rampsDown = false) :
    formReference s = s.updSrg (fun r =>
      { r with vRef := 0, vTgt := 0, phase := if s.tsq.state = .arriving then r.phase else none }) := by
  rw [formReference, if_neg (by simp [hc]), if_neg (by simp [hr])]

/-- The target speed (R60, R61). -/
theorem targetSpeed_eq (s : State) (dt : Int) : s.targetSpeed dt =
    let stop := s.srg.ctlTarget.isSome
    if dt ≤ 0 then 0 else if stop = false ∧ dt ≤ s.lts.creepDist then s.lts.vCreep.toNat
    else isqrt (smallestTerm s.lts s.travelDirection s.xs dt s.srg.insp s.srg.fRef s.aDec
      (if stop then 2 * s.aDec * dt.toNat else s.lts.vCreep.toNat ^ 2 + 2 * s.aDec * (dt - s.lts.creepDist).toNat)) := by
  have hsquare : s.referenceSquare dt =
      smallestTerm s.lts s.travelDirection s.xs dt s.srg.insp s.srg.fRef s.aDec (s.stopTerm dt) := by
    rw [smallestTerm_eq]
    rfl
  have hnone : s.srg.ctlTarget.isNone = true ↔ s.srg.ctlTarget.isSome = false := by
    cases s.srg.ctlTarget <;> simp
  simp only [State.targetSpeed, hsquare, hnone, State.stopTerm, sq]

/-- The reference moved toward a speed (R62). -/
theorem rampTo_eq (s : State) (v : Nat) : rampTo s.aAcc s.aDec v s.srg.vRef = towardSpeed s (1000 * v) := by
  unfold rampTo towardSpeed
  split
  · rfl
  split
  · rfl
  · omega

theorem clampRef_eq (t : State) (v : Nat) : clampRef t.obs.vPerm2 v = permittedSpeed t v := rfl

/-- The phase of a reference that is not in CREEP (R64). -/
theorem phaseOf_eq (creep : Bool) (s t : State) :
    phaseOf creep s.srg.vRef t.srg.vRef = if creep = true then .creep else risingOrFalling s t := rfl

/-! ### The SRG's part of a sample -/

/-- The reference formed at a sample, with its duty (R57 to R66). -/
def formed (s : State) : State := writeDuty (formReference (referred s))

theorem formed_vRef (s : State) : (formed s).srg.vRef = (formReference (referred s)).srg.vRef := rfl

/-- A reference that is not formed, or not at its target, is not reported reached (R61). -/
theorem supervised_unreached {s : State} (h : (referred s).reached = false) : supervised s = handPhase (formed s) := by
  rw [supervised_eq, srgSample, h]
  rfl

theorem supervised_reached {s : State} (h : (referred s).reached = true) :
    supervised s = reportReached (handPhase (formed s)) := by
  rw [supervised_eq, srgSample, h]
  rfl

theorem reached_of_distance {s : State} {dt : Int} (hc : s.computesReference = true) (hd : s.targetDistance = some dt) :
    s.reached = decide (dt ≤ 0) := by
  rw [State.reached, hc, hd]
  rfl

theorem reached_of_rest {s : State} (h : s.computesReference = false) : s.reached = false := by
  rw [State.reached, h]
  rfl

/-- What the phase's report leaves alone (R48, R64). -/
theorem handPhase_left (s : State) : (handPhase s).srg = s.srg ∧ (handPhase s).obs = s.obs ∧ (handPhase s).lts = s.lts ∧
    (handPhase s).lpu = s.lpu ∧ (handPhase s).clock = s.clock ∧
    (handPhase s).tsq = { s.tsq with phase := if s.tsq.state = .running then s.srg.phase else s.tsq.phase } := by
  unfold handPhase
  split
  next h => split <;> exact ⟨rfl, rfl, rfl, rfl, rfl, by simp⟩
  next h => exact ⟨rfl, rfl, rfl, rfl, rfl, by simp⟩

/-! ### What the latch and the TSQ's end of a sample leave of the reference -/

/-- The latch stays where it was: nothing was latched (R87). -/
theorem latchStop_unlatched {s : State} (h : (sampleEnd s).obs.stopLatch = s.obs.stopLatch) :
    latchStop (counted s) = counted s := by
  obtain ⟨hb, hs, hl⟩ := sampleEnd_reads s
  rw [sampleEnd_latch] at h
  rw [latchStop_eq, hb, hs, hl, if_neg]
  intro hc
  rw [if_pos hc, hc.2.2] at h
  cases h

/-- The latch was set: STOP braking at standstill (R87). -/
theorem latchStop_latched {s : State} (h : (sampleEnd s).obs.stopLatch ≠ s.obs.stopLatch) :
    latchStop (counted s) =
      restReference (applyBrake .sbk (dropDrive ((counted s).updObs (fun o => { o with stopLatch := true })))) := by
  obtain ⟨hb, hs, hl⟩ := sampleEnd_reads s
  rw [sampleEnd_latch] at h
  rw [latchStop_eq, hb, hs, hl, if_pos]
  by_contra hc
  rw [if_neg hc] at h
  exact h rfl

/-- The reference of a tripped line rests once its latch is set (R57, R65). -/
theorem latched_rests {s : State} (h : (sampleEnd s).obs.stopLatch ≠ s.obs.stopLatch)
    (hs : (counted s).tsq.state = .tripped) :
    (latchStop (counted s)).srg.vRef = 0 ∧ (latchStop (counted s)).srg.holding = 0 := by
  rw [latchStop_latched h]
  generalize hw : applyBrake .sbk (dropDrive ((counted s).updObs (fun o => { o with stopLatch := true }))) = w
  have hstate : w.tsq.state = .tripped := by simpa [← hw] using hs
  have hden : w.den = false := by
    rw [State.den, ← hw]
    simp [dropDrive]
  have hcomputes : w.computesReference = false := by
    rw [← Bool.not_eq_true, computesReference_iff]
    simp [hstate, hden]
  have hramps : w.rampsDown = false := by
    rw [← Bool.not_eq_true, rampsDown_iff]
    simp [hden]
  rw [restReference, if_neg (by simp [hcomputes, hramps])]
  exact ⟨rfl, rfl⟩

/-- The reference of a line that runs, or inspects under way, does not hang on the latch (R57). -/
theorem latchStop_vRef {s : State} (h : s.tsq.state = .running ∨
    (s.tsq.state = .inspecting ∧ (s.tsq.step = some .moving ∨ s.tsq.step = some .holding))) :
    (latchStop s).srg.vRef = s.srg.vRef := by
  unfold latchStop
  split
  · generalize hw : applyBrake .sbk (dropDrive (s.updObs (fun o => { o with stopLatch := true }))) = w
    have hc : w.computesReference = true := by
      rw [computesReference_iff]
      rcases h with h | h
      · exact .inl (by simpa [← hw] using h)
      · exact .inr (.inl (by simpa [← hw] using h))
    rw [restReference, if_pos (by simp [hc]), ← hw]
    simp [dropDrive]
  · rfl

/-- The TSQ's part of a sample that ends no trip leaves the reference and the permitted speed (R120, R122). -/
theorem tsqSample_reference {s : State} (h : (tsqSample s).tsq.state = s.tsq.state) :
    (tsqSample s).srg = s.srg ∧ (tsqSample s).obs.vPerm2 = s.obs.vPerm2 := by
  obtain ⟨u, hu, he⟩ := tsqSample_ends s
  have hus : u.tsq.state = s.tsq.state ∧ u.srg = s.srg ∧ u.obs = s.obs := by
    rcases hu with rfl | rfl <;> exact ⟨rfl, rfl, rfl⟩
  obtain ⟨hst, hsrg, hobs⟩ := hus
  rw [← hsrg, ← hobs]
  rcases he with he | ⟨w, he⟩ | he
  · rw [he]
    exact ⟨rfl, rfl⟩
  · rw [he, (sbkRequested_record w u).2]
    exact ⟨by simp [sbkRequested], rfl⟩
  · obtain ⟨hend, -, hbefore⟩ := he.rests
    rw [h, ← hst] at hend
    rcases hend with hend | hend <;> rcases hbefore with hb | hb <;> rw [hend] at hb <;> cases hb

/-- The reference at a sample that ends no trip: as the SRG formed it, held to the permitted speed of the sample. -/
theorem sampled_vRef {s : State} (h : (sampleEnd s).obs.causes = s.obs.causes) (hr : (referred s).reached = false)
    (hl : (sampleEnd s).obs.stopLatch = s.obs.stopLatch ∨ (referred s).tsq.state = .running ∨
      ((referred s).tsq.state = .inspecting ∧
        ((referred s).tsq.step = some .moving ∨ (referred s).tsq.step = some .holding)))
    (hs : (sampleEnd s).tsq.state = (referred s).tsq.state) :
    (sampleEnd s).srg.vRef = (formReference (referred s)).srg.vRef ∧
      (sampleEnd s).obs.vPerm2 = (referred s).obs.vPerm2 := by
  obtain ⟨-, hc⟩ := sampled_quiet h
  obtain ⟨hsrg, hobs, -, -, -, htsq⟩ := handPhase_left (formed s)
  rw [← supervised_unreached hr] at hsrg hobs htsq
  have hformed : (formed s).tsq = (referred s).tsq ∧ (formed s).obs = (referred s).obs := by simp [formed]
  obtain ⟨hftsq, hfobs⟩ := hformed
  have hcs : (counted s).tsq.state = (referred s).tsq.state ∧ (counted s).tsq.step = (referred s).tsq.step := by
    rw [hc.tsq, htsq, hftsq]
    exact ⟨rfl, rfl⟩
  have hlatch : (latchStop (counted s)).srg.vRef = (counted s).srg.vRef := by
    rcases hl with hl | hl
    · rw [latchStop_unlatched hl]
    · exact latchStop_vRef (by rw [hcs.1, hcs.2]; exact hl)
  have hend := tsqSample_reference (s := followTarget (latchStop (counted s))) (by
    rw [sampleEnd_eq] at hs
    simpa [hcs.1] using hs)
  obtain ⟨hesrg, heperm⟩ := hend
  rw [sampleEnd_eq]
  refine ⟨?_, ?_⟩
  · simp only [testDoors_keeps, hesrg, followTarget_keeps, hlatch, hc.srg, hsrg, formed_vRef]
  · simp only [testDoors_keeps, heperm, followTarget_keeps]
    rw [← hfobs, ← hobs, ← hc.vPerm2]
    simp

end Sys2Proof.Machine
end

section
/-! The reference of a running trip, of a move and of a controlled stop at a sample (R58 to R64). -/

namespace Sys2Proof.Machine

/-! ### The target of the reference (R59) -/

/-- At a quiet sample the reference is formed with the accelerations, the setting and the speed of the sample before. -/
theorem referred_speeds {s : State} (hq : (rmuSample (tick s)).obs.causes = (tick s).obs.causes) :
    (referred s).aDec = s.aDec ∧ (referred s).aAcc = s.aAcc ∧ (referred s).srg.ctlTarget = s.srg.ctlTarget ∧
      (referred s).srg.insp = s.srg.insp ∧ (referred s).srg.fRef = s.srg.fRef ∧ (referred s).srg.vRef = s.srg.vRef := by
  obtain ⟨-, hsrg, -⟩ := referred_quiet hq
  have hlts := (referred_place s).1
  refine ⟨?_, ?_, by rw [hsrg], by rw [hsrg], by rw [hsrg], by rw [hsrg]⟩
  · rw [State.aDec, State.aDec, hsrg, hlts]
  · rw [State.aAcc, State.aAcc, hsrg, hlts]

/-- The target of R59 is the model's, and the reference is formed toward it (R57). -/
theorem targetAhead_formed {s : State} {d : Direction} {dt : Int}
    (hq : (rmuSample (tick s)).obs.causes = (tick s).obs.causes) (h : TargetAhead s (sampleEnd s) d dt) :
    (referred s).computesReference = true ∧ (referred s).targetDistance = some dt ∧
      (referred s).travelDirection = d := by
  obtain ⟨htsq, hsrg, hcpt, -⟩ := referred_quiet hq
  obtain ⟨-, hx⟩ := referred_place s
  obtain ⟨-, hden⟩ := referred_den hq
  rw [computesReference_iff, State.targetDistance, State.travelDirection, htsq, hsrg, hcpt, hx, hden]
  rcases h with ⟨hs, hctl, hm, hd, g, hg, hdt⟩ | ⟨hs, hstep, hctl, m, hm, hd, hend⟩ | ⟨hs, hden', hm, hd, c, hc, hdt⟩
  · refine ⟨.inl hs, ?_, by rw [hm]; exact hd.symm⟩
    simp only [hctl, hs, hg, hm, Option.map_some, Option.map_none]
    rw [hdt, hd]
  · have hway : some .moving = s.tsq.step ∨ some .holding = s.tsq.step := by
      rcases hstep with hstep | ⟨hstep, -⟩
      · exact .inl hstep.symm
      · exact .inr hstep.symm
    refine ⟨.inr (.inl ⟨hs, hway.imp Eq.symm Eq.symm⟩), ?_, by rw [hm]; exact hd.symm⟩
    simp only [hctl, hs, hm, Option.map_some]
    rcases hend with ⟨hk, e, he, hdt⟩ | ⟨hk, hdt⟩
    · rw [hk, he, hdt, hd]
    · rw [hk, hdt, hd]
  · refine ⟨.inr (.inr ⟨hs, by rw [hc]; rfl, hden'⟩), ?_, by rw [hm]; exact hd.symm⟩
    simp only [hc, hm, Option.map_none]
    rw [hdt, hd]

/-! ### The reference toward a target (R60 to R64) -/

section
variable {s : State} {d : Direction} {dt : Int} (h : (sampleEnd s).obs.causes = s.obs.causes)
  (ht : TargetAhead s (sampleEnd s) d dt)
include h ht

/-- The target speed at a sample (R60, R61). -/
theorem sampled_vTgt : (sampleEnd s).srg.vTgt =
    let stop := s.srg.ctlTarget.isSome
    let last := if stop then 2 * s.aDec * dt.toNat
      else s.lts.vCreep.toNat ^ 2 + 2 * s.aDec * (dt - s.lts.creepDist).toNat
    if dt ≤ 0 then 0 else if stop = false ∧ dt ≤ s.lts.creepDist then s.lts.vCreep.toNat
    else isqrt (smallestTerm s.lts d (sampleEnd s).xs dt s.srg.insp s.srg.fRef s.aDec last) := by
  obtain ⟨hq, -⟩ := sampled_quiet h
  obtain ⟨hc, hd, hdir⟩ := targetAhead_formed hq ht
  obtain ⟨hdec, -, hctl, hinsp, hfac, -⟩ := referred_speeds hq
  obtain ⟨hlts, hx⟩ := referred_place s
  obtain ⟨hv, -, -⟩ := sampled_reference h
  rw [hv, formReference_computed hc hd]
  have htarget := targetSpeed_eq (referred s) dt
  rw [hdec, hctl, hinsp, hfac, hdir, hlts, hx] at htarget
  exact htarget

/-- The sample leaves the line on its way, or its target is reached (R61, R120, R122). -/
theorem sampled_onWay (hdt : 0 < dt) : (sampleEnd s).tsq.state = s.tsq.state ∧
    (s.tsq.step ≠ some .holding ∨ s.tsq.state ≠ .inspecting → (sampleEnd s).tsq.step = s.tsq.step) := by
  obtain ⟨hq, hcount⟩ := sampled_quiet h
  obtain ⟨hc, hd, -⟩ := targetAhead_formed hq ht
  obtain ⟨htsq, -⟩ := referred_quiet hq
  have hr : (referred s).reached = false := by rw [reached_of_distance hc hd]; simpa using hdt
  obtain ⟨-, -, -, -, -, hphase⟩ := handPhase_left (formed s)
  have hftsq : (formed s).tsq = (referred s).tsq := by simp [formed]
  have hw : (followTarget (latchStop (counted s))).tsq.state = s.tsq.state ∧
      (followTarget (latchStop (counted s))).tsq.step = s.tsq.step := by
    simp only [followTarget_keeps, latchStop_keeps, hcount.tsq, supervised_unreached hr, hphase, hftsq, htsq, and_self]
  obtain ⟨hws, hwstep⟩ := hw
  have hidle (hn : s.tsq.step ≠ some .holding ∨ s.tsq.state ≠ .inspecting) :
      (sampleEnd s).tsq = (followTarget (latchStop (counted s))).tsq := by
    rw [(sampleEnd_latched s).1, tsqSample_idle]
    · rw [hws]
      rcases ht with ⟨hs, -⟩ | ⟨hs, -⟩ | ⟨hs, -⟩ <;> simp [hs]
    · rw [hws, hwstep]
      rintro ⟨hi, hh⟩
      exact hn.elim (fun hn => hn hh) (fun hn => hn hi)
  refine ⟨?_, fun hn => by rw [hidle hn, hwstep]⟩
  by_cases hn : s.tsq.step ≠ some .holding ∨ s.tsq.state ≠ .inspecting
  · rw [hidle hn, hws]
  · obtain ⟨hh, hi⟩ : s.tsq.step = some .holding ∧ s.tsq.state = .inspecting := by simpa [not_or] using hn
    rcases ht with ⟨hs, -⟩ | ⟨-, hstep, -⟩ | ⟨hs, -⟩
    · rw [hi] at hs; cases hs
    · rcases hstep with hstep | ⟨-, hstay⟩
      · rw [hh] at hstep; cases hstep
      · rw [hstay, hi]
    · rw [hi] at hs; cases hs

/-- The reference and its phase at a sample (R61 to R64). -/
theorem sampled_toward (hl : (sampleEnd s).obs.stopLatch = s.obs.stopLatch ∨ s.tsq.state ≠ .tripped) :
    (sampleEnd s).srg.vRef =
      (if dt ≤ 0 then 0 else permittedSpeed (sampleEnd s) (towardSpeed s (1000 * (sampleEnd s).srg.vTgt))) ∧
    (sampleEnd s).srg.phase = some (if s.srg.ctlTarget.isSome = false ∧ dt ≤ s.lts.creepDist then .creep
      else risingOrFalling s (sampleEnd s)) := by
  obtain ⟨hq, -⟩ := sampled_quiet h
  obtain ⟨hc, hd, -⟩ := targetAhead_formed hq ht
  obtain ⟨hdec, hacc, hctl, -, -, hvref⟩ := referred_speeds hq
  obtain ⟨htsq, -⟩ := referred_quiet hq
  obtain ⟨hlts, -⟩ := referred_place s
  obtain ⟨hv, hphase, hslow⟩ := sampled_reference h
  have hform := formReference_computed hc hd
  have href : (sampleEnd s).srg.vRef = (formReference (referred s)).srg.vRef ∧
      (0 < dt → (sampleEnd s).obs.vPerm2 = (referred s).obs.vPerm2) := by
    by_cases hdt : dt ≤ 0
    · have hzero : (formReference (referred s)).srg.vRef = 0 := by
        rw [hform]
        simp [computeReference, hdt]
      refine ⟨?_, fun hpos => absurd hdt (by omega)⟩
      rcases hslow.1 with hs | hs
      · exact hs
      · rw [hs, hzero]
    · have hr : (referred s).reached = false := by rw [reached_of_distance hc hd]; simpa using hdt
      have hmoves : (sampleEnd s).obs.stopLatch = s.obs.stopLatch ∨ (referred s).tsq.state = .running ∨
          ((referred s).tsq.state = .inspecting ∧
            ((referred s).tsq.step = some .moving ∨ (referred s).tsq.step = some .holding)) := by
        refine hl.imp_right fun hn => ?_
        rcases (computesReference_iff _).mp hc with hs | hs | ⟨hs, -⟩
        · exact .inl hs
        · exact .inr hs
        · rw [htsq] at hs
          exact absurd hs hn
      obtain ⟨hstate, -⟩ := sampled_onWay h ht (by omega)
      obtain ⟨hvr, hperm⟩ := sampled_vRef h hr hmoves (by rw [hstate, htsq])
      exact ⟨hvr, fun _ => hperm⟩
  obtain ⟨hvr, hperm⟩ := href
  refine ⟨?_, ?_⟩
  · rw [hvr, hv, hform]
    by_cases hdt : dt ≤ 0
    · simp [computeReference, hdt]
    · have hto := rampTo_eq (referred s) ((referred s).targetSpeed dt)
      have hsame : towardSpeed (referred s) (1000 * (referred s).targetSpeed dt) =
          towardSpeed s (1000 * (referred s).targetSpeed dt) := by
        rw [towardSpeed, towardSpeed, hdec, hacc, hvref]
      have hcomp : (computeReference dt (referred s)).srg.vTgt = (referred s).targetSpeed dt := rfl
      rw [hcomp, if_neg hdt, ← clampRef_eq, hperm (by omega), ← hsame, ← hto]
      simp [computeReference, hdt]
  · have hcreep : ((referred s).srg.ctlTarget.isNone && decide (dt ≤ (referred s).lts.creepDist)) = true ↔
        s.srg.ctlTarget.isSome = false ∧ dt ≤ s.lts.creepDist := by
      rw [hctl, hlts, Bool.and_eq_true, decide_eq_true_eq]
      cases s.srg.ctlTarget <;> simp
    have hp := phaseOf_eq ((referred s).srg.ctlTarget.isNone && decide (dt ≤ (referred s).lts.creepDist)) s (sampleEnd s)
    rw [hphase, ← if_congr hcreep rfl rfl, ← hp, ← hvref, hvr, hform]
    rfl

end

/-- A line TRIPPED before a sample that gives no cause is TRIPPED when its standstill is counted. -/
theorem counted_tripped {s : State} (h : (sampleEnd s).obs.causes = s.obs.causes) (hs : s.tsq.state = .tripped) :
    (counted s).tsq.state = .tripped := by
  obtain ⟨hq, hcount⟩ := sampled_quiet h
  obtain ⟨htsq, -⟩ := referred_quiet hq
  have href : (referred s).tsq.state = .tripped := by rw [htsq, ← hs]
  rw [hcount.tsq, supervised_eq, (srgSample_elsewhere (by simp [href]) (by simp [href])).1, href]

/-- The latch set at a sample of a tripped line: the reference rests (R65, R87). -/
theorem sampled_latched {s : State} (h : (sampleEnd s).obs.causes = s.obs.causes)
    (hl : (sampleEnd s).obs.stopLatch ≠ s.obs.stopLatch) (hs : s.tsq.state = .tripped) :
    (sampleEnd s).srg.vRef = 0 ∧ (sampleEnd s).srg.holding = 0 := by
  obtain ⟨hv, hd⟩ := latched_rests hl (counted_tripped h hs)
  obtain ⟨hslow, hslow'⟩ := tsqSample_slowed (followTarget (latchStop (counted s)))
  have hend : (sampleEnd s).srg = (tsqSample (followTarget (latchStop (counted s)))).srg := by
    rw [sampleEnd_eq]
    simp
  simp only [followTarget_keeps, hv, hd, or_self] at hslow hslow'
  rw [hend]
  exact ⟨hslow, hslow'⟩

/-! ### A move at its endpoint (R122) -/

theorem appliedBrake_applied {s : State} {b : BrakeRecord} (h : b.command = .applied) : appliedBrake s b = b := if_pos h

/-- The latch leaves the proof that an apply request would find (R87, R93). -/
theorem latchStop_proof (s : State) : (appliedBrake (latchStop s) (latchStop s).obs.brakes.sbk).proof =
    (appliedBrake s s.obs.brakes.sbk).proof := by
  have hlts : (latchStop s).lts = s.lts := by simp
  rw [appliedBrake_congr hlts]
  unfold latchStop
  split
  · have hb : (restReference (applyBrake .sbk (dropDrive (s.updObs (fun o => { o with stopLatch := true }))))).obs.brakes.sbk =
        appliedBrake s s.obs.brakes.sbk := by
      simp [applyBrake_brakes, PerBrake.set, PerBrake.get, dropDrive]
      rfl
    rw [hb, appliedBrake_applied (appliedBrake_command s _)]
  · rfl

/-- The proof that an apply request of a sample would find (R92, R93). -/
theorem sampled_proof {s : State} (h : (sampleEnd s).obs.causes = s.obs.causes) :
    let w := followTarget (latchStop (counted s))
    (appliedBrake w w.obs.brakes.sbk).proof = (appliedBrake s s.obs.brakes.sbk).proof := by
  obtain ⟨hq, hcount⟩ := sampled_quiet h
  obtain ⟨-, -, -, -, -, -, -, hbrakes⟩ := referred_quiet hq
  have hb : (counted s).obs.brakes = (tick s).obs.brakes := by
    rw [hcount.brakes, ← hbrakes, supervised_eq]
    simp
  have hf : (followTarget (latchStop (counted s))).obs.brakes = (latchStop (counted s)).obs.brakes := by simp
  have hl : (followTarget (latchStop (counted s))).lts = (latchStop (counted s)).lts := by simp
  have hlts : (counted s).lts = s.lts := by rw [hcount.lts]; simp
  dsimp only
  rw [hf, appliedBrake_congr hl, latchStop_proof, hb, appliedBrake_congr hlts]
  exact (appliedBrake_tick s s.obs.brakes.sbk _).1

/-- A move in step MOVING at a sample that gives no cause: HOLDING from its endpoint on (R122). -/
theorem sampled_move {s : State} {d : Direction} {dt : Int} (h : (sampleEnd s).obs.causes = s.obs.causes)
    (ht : TargetAhead s (sampleEnd s) d dt) (hs : s.tsq.state = .inspecting) (hstep : s.tsq.step = some .moving)
    (hp : sbkHasToProve s) : (sampleEnd s).tsq.state = .inspecting ∧
      (sampleEnd s).tsq.step = some (if dt ≤ 0 then .holding else .moving) := by
  by_cases hdt : dt ≤ 0
  · obtain ⟨hq, hcount⟩ := sampled_quiet h
    obtain ⟨hc, hd, -⟩ := targetAhead_formed hq ht
    obtain ⟨htsq, -⟩ := referred_quiet hq
    have hr : (referred s).reached = true := by rw [reached_of_distance hc hd]; simpa using hdt
    obtain ⟨-, -, -, -, -, hphase⟩ := handPhase_left (formed s)
    have hftsq : (formed s).tsq = (referred s).tsq := by simp [formed]
    have hsup : (supervised s).tsq.state = .inspecting ∧ (supervised s).tsq.step = some .holding := by
      have hstate : (handPhase (formed s)).tsq.state = .inspecting := by rw [hphase, hftsq, htsq]; exact hs
      have hmoving : (handPhase (formed s)).tsq.step = some .moving := by rw [hphase, hftsq, htsq]; exact hstep
      rw [supervised_reached hr, reportReached, if_neg (by rw [hstate]; decide), if_pos ⟨hstate, hmoving⟩]
      exact ⟨hstate, rfl⟩
    have hw : (followTarget (latchStop (counted s))).tsq.state = .inspecting ∧
        (followTarget (latchStop (counted s))).tsq.step = some .holding := by
      simpa [hcount.tsq] using hsup
    have hkeep : (tsqSample (followTarget (latchStop (counted s)))).tsq = (followTarget (latchStop (counted s))).tsq := by
      have hproof := sampled_proof h
      generalize followTarget (latchStop (counted s)) = w at hw hproof ⊢
      rw [tsqSample_eq]
      split
      · rfl
      rw [if_neg (by simp [hw.1])]
      split
      · rw [applyRequest_waits (by rw [hproof]; exact hp)]
        exact (sbkRequested_record true w).1
      · rfl
    rw [(sampleEnd_latched s).1, hkeep, if_pos hdt]
    exact hw
  · obtain ⟨hstate, hkeep⟩ := sampled_onWay h ht (by omega)
    rw [if_neg hdt, hstate, hkeep (.inl (by simp [hstep]))]
    exact ⟨hs, hstep⟩

end Sys2Proof.Machine
end

section
/-! A running trip at a sample (R61, R64, R66, R120), and the reference where none is formed (R57, R65). -/

namespace Sys2Proof.Machine

/-- A running trip's target is frozen in CREEP (R48). -/
theorem handPhase_cpt {s : State} (h : s.tsq.state = .running) : (handPhase s).cpt =
    if s.srg.phase = some .creep then { s.cpt with target := s.cpt.target.map (fun g => { g with frozen := true }) }
    else s.cpt := by
  rw [handPhase, if_pos h]
  dsimp only
  split <;> rfl

/-! ### A running trip at a sample without a cause -/

section
variable {s : State} {g : StopTarget}

/-- No cause is listed before a sample that ends without one (R83). -/
theorem sampled_uncaused (he : (sampleEnd s).obs.causes = []) : s.obs.causes = [] ∧ (sampleEnd s).obs.causes = s.obs.causes := by
  have hnone : s.obs.causes = [] := by simpa [he] using sampleEnd_prefix s
  exact ⟨hnone, he.trans hnone.symm⟩

/-- Without a cause there is no braking, and nothing is latched (R86, R87). -/
theorem latchStop_none (he : (sampleEnd s).obs.causes = []) : latchStop (counted s) = counted s := by
  have hb : (counted s).braking = .none := by
    rw [(sampleEnd_reads s).1, braking_of_no_cause he]
  rw [latchStop, if_neg (by simp [hb])]

theorem targetAhead_running (hs : s.tsq.state = .running) (hctl : s.srg.ctlTarget = none) (hm : s.tsq.move = none)
    (hg : s.cpt.target = some g) :
    TargetAhead s (sampleEnd s) s.tsq.direction (distance s.tsq.direction (sampleEnd s).xs g.position) :=
  .inl ⟨hs, hctl, hm, rfl, g, hg, rfl⟩

/-- The state of a running trip in which its phase has been handed over. -/
theorem phased_running (hs : s.tsq.state = .running) (he : (sampleEnd s).obs.causes = []) (hm : s.tsq.move = none) : (handPhase (formed s)).tsq = { s.tsq with
      phase := (formReference (referred s)).srg.phase
      closureTimer := tickTimer s.tsq.closureTimer, consoleTimer := tickTimer s.tsq.consoleTimer } := by
  obtain ⟨-, hquiet⟩ := sampled_uncaused he
  obtain ⟨hq, -⟩ := sampled_quiet hquiet
  obtain ⟨htsq, -⟩ := referred_quiet hq
  obtain ⟨-, -, -, -, -, hphase⟩ := handPhase_left (formed s)
  have hftsq : (formed s).tsq = (referred s).tsq := by simp [formed]
  rw [hphase, hftsq, htsq, if_pos hs]
  dsimp only
  rw [hm]
  rfl

/-- The duty of a state without a cause hangs on the drive request (R66, R119). -/
theorem den_uncaused {u : State} (h : u.obs.causes = []) : u.den = u.tsq.driveRequest := by
  rw [State.den, State.permission, braking_of_no_cause h, Bool.and_true]

/-- A running trip before its target: its phase, the target frozen in CREEP, and the duty (R48, R64, R66). -/
theorem sampled_running (hs : s.tsq.state = .running) (he : (sampleEnd s).obs.causes = [])
    (hctl : s.srg.ctlTarget = none) (hm : s.tsq.move = none)
    (hg : s.cpt.target = some g) (hdt : 0 < distance s.tsq.direction (sampleEnd s).xs g.position) :
    let t := sampleEnd s
    let dt := distance s.tsq.direction t.xs g.position
    t.tsq.phase = t.srg.phase ∧
    t.cpt = { s.cpt with target := some { g with frozen := g.frozen || decide (dt ≤ s.lts.creepDist) } } ∧
    t.srg.holding = if t.den then
        min (t.srg.vRef * s.lts.inForce.modulus / (s.lts.vLineMax.toNat * 1000)) (s.lts.inForce.modulus - 1)
      else 0 := by
  obtain ⟨hnone, hquiet⟩ := sampled_uncaused he
  obtain ⟨hq, hcount⟩ := sampled_quiet hquiet
  have ht := targetAhead_running hs hctl hm hg
  obtain ⟨hc, hd, -⟩ := targetAhead_formed hq ht
  obtain ⟨htsq, -, hcpt, hcauses, -⟩ := referred_quiet hq
  obtain ⟨hlts, -⟩ := referred_place s
  have hr : (referred s).reached = false := by rw [reached_of_distance hc hd]; simpa using hdt
  have hphased := phased_running hs he hm
  obtain ⟨hsrg, -⟩ := handPhase_left (formed s)
  have hsup := supervised_unreached hr
  have hw : (followTarget (counted s)).tsq = (handPhase (formed s)).tsq ∧
      (followTarget (counted s)).srg = (handPhase (formed s)).srg ∧
      (followTarget (counted s)).cpt = (handPhase (formed s)).cpt := by
    rw [← hsup, ← hcount.tsq, ← hcount.srg, ← hcount.cpt]
    simp
  obtain ⟨hwtsq, hwsrg, hwcpt⟩ := hw
  have hend : sampleEnd s = testDoors (followTarget (counted s)) := by
    have hrun : (followTarget (counted s)).tsq.state = .running := by rw [hwtsq, hphased, ← hs]
    rw [sampleEnd_eq, latchStop_none he, tsqSample_idle] <;> rw [hrun] <;> rintro ⟨hn, -⟩ <;> cases hn
  have etsq : (sampleEnd s).tsq = (handPhase (formed s)).tsq := by rw [hend, ← hwtsq]; simp
  have esrg : (sampleEnd s).srg = (formed s).srg := by rw [hend, ← hsrg, ← hwsrg]; simp
  have ecpt : (sampleEnd s).cpt = (handPhase (formed s)).cpt := by rw [hend, ← hwcpt]; simp
  obtain ⟨-, hphase⟩ := sampled_toward hquiet ht (.inr (by simp [hs]))
  have hden : (sampleEnd s).den = (formReference (referred s)).den := by
    rw [den_uncaused he, den_uncaused (by simpa [hnone] using hcauses), etsq, hphased, formReference_computed hc hd]
    exact (congrArg Tsq.driveRequest htsq).symm
  refine ⟨?_, ?_, ?_⟩
  · rw [etsq, hphased, esrg]
    rfl
  · have hcreep : (formed s).srg.phase = some .creep ↔
        distance s.tsq.direction (sampleEnd s).xs g.position ≤ s.lts.creepDist := by
      rw [← esrg, hphase, hctl]
      simp only [Option.isSome_none, true_and, Option.some.injEq]
      split
      next h => simp [h]
      next h =>
        simp only [h, iff_false]
        unfold risingOrFalling
        split
        · simp
        split <;> simp
    have hfcpt : (formed s).cpt = s.cpt := by simp [formed, hcpt]
    have hftsq : (formed s).tsq.state = .running := by simp [formed, htsq, hs]
    rw [ecpt, handPhase_cpt hftsq, hfcpt, if_congr hcreep rfl rfl]
    split
    next h => simp [hg, h]
    next h =>
      have hkeep : { g with frozen := g.frozen || decide (distance s.tsq.direction (sampleEnd s).xs g.position ≤
          s.lts.creepDist) } = g := by simp [h]
      rw [hkeep, ← hg]
  · rw [hden, esrg, ← hlts]
    have hl : (formReference (referred s)).lts = (referred s).lts := by simp
    rw [← hl]
    rfl

/-- A running trip at its target goes to ARRIVING (R61, R120). -/
theorem sampled_arrival (hs : s.tsq.state = .running) (he : (sampleEnd s).obs.causes = [])
    (hctl : s.srg.ctlTarget = none) (hm : s.tsq.move = none)
    (hg : s.cpt.target = some g) (hdt : distance s.tsq.direction (sampleEnd s).xs g.position ≤ 0) :
    let t := sampleEnd s
    (∀ p, (s.lpu.ports.get p).subs.getLsbD 0 = true → (t.lpu.ports.get p).events.getLsbD 0 = true) ∧
    (t.standstill = false ∨ sbkHasToProve s → t.tsq = { s.tsq with
      state := .arriving, step := some (if t.standstill then .apply else .standstill), resume := false, phase := none,
      lastChange := t.clock, warningEnded := false, closureTimer := none, consoleTimer := t.tsq.consoleTimer }) := by
  obtain ⟨hnone, hquiet⟩ := sampled_uncaused he
  obtain ⟨hq, hcount⟩ := sampled_quiet hquiet
  have ht := targetAhead_running hs hctl hm hg
  obtain ⟨hc, hd, -⟩ := targetAhead_formed hq ht
  have hr : (referred s).reached = true := by rw [reached_of_distance hc hd]; simpa using hdt
  have hphased := phased_running hs he hm
  obtain ⟨-, -, -, hlpu, hclock, -⟩ := handPhase_left (formed s)
  have hrun : (handPhase (formed s)).tsq.state = .running := by rw [hphased]; exact hs
  have hsup : supervised s = changeTrip .arriving (some .standstill) (handPhase (formed s)) := by
    rw [supervised_reached hr, reportReached, if_pos hrun]
  have hne : (handPhase (formed s)).tsq.state ≠ .arriving := by rw [hrun]; decide
  refine ⟨fun p hp => ?_, fun hwait => ?_⟩
  · have hsubs : ((handPhase (formed s)).lpu.ports.get p).subs.getLsbD 0 = true := by
      have hP := eventsGrow_portsKept s
      have hgrow : EventsGrow s (rmuSample (tick s)) := hP.opsKept.causeIf _ _ (hP.opsKept.testDisagreement hP.sampleKept
        (hP.sampleKept.rmu _ (hP.opsKept.tick hP.sampleKept (.refl s))))
      have hports : (handPhase (formed s)).lpu = (rmuSample (tick s)).lpu := by
        rw [hlpu]
        simp [formed, referred]
      rw [hports, (hgrow p).1]
      exact hp
    have hraised : RaisedFrom .tripStateChanged true (handPhase (formed s)) (supervised s) :=
      ⟨_, hsup ▸ changeTrip_lpu_closed (some .standstill) hne (by decide), by simp⟩
    have hbit := hraised.port p
    have hgrow : EventsGrow (supervised s) (sampleEnd s) :=
      (eventsGrow_portsKept (supervised s)).opsKept.sampleRest ((eventsGrow_portsKept (supervised s)).opsKept.testLevels (.refl _))
    refine (hgrow p).2 0 ?_
    have hzero : EventKind.tripStateChanged.code = 0 := rfl
    rw [hzero] at hbit
    rw [hbit, hsubs]
    simp
  · have hw : (followTarget (counted s)).tsq = (supervised s).tsq := by simp [hcount.tsq]
    have hwtsq : (supervised s).tsq = { s.tsq with
        state := .arriving, step := some .standstill, resume := false, phase := none, lastChange := (sampleEnd s).clock
        warningEnded := false, closureTimer := none, consoleTimer := tickTimer s.tsq.consoleTimer } := by
      have hclk : (handPhase (formed s)).clock = (sampleEnd s).clock := by
        rw [hclock]
        simp [formed, referred, sampleEnd, supervised]
      rw [hsup, changeTrip_tsq (some .standstill) hne, hphased, hclk]
      simp [TripState.keepsDrive, hm]
    have hstill : (followTarget (counted s)).standstill = (sampleEnd s).standstill := by
      rw [← (sampleEnd_reads s).2.1]
      simp [State.standstill]
    have hproof := sampled_proof hquiet
    rw [latchStop_none he] at hproof
    rw [(sampleEnd_latched s).1, latchStop_none he, ← hstill]
    rw [← hstill] at hwait
    generalize followTarget (counted s) = w at hw hstill hproof hwait ⊢
    have hstep : w.tsq.state = .arriving ∧ w.tsq.step = some .standstill := by rw [hw, hwtsq]; exact ⟨rfl, rfl⟩
    rw [tsqSample_eq, if_pos hstep]
    cases hst : w.standstill with
    | false =>
      rw [if_pos rfl, hw, hwtsq]
      rfl
    | true =>
      have hp : (appliedBrake w w.obs.brakes.sbk).proof ≠ .proven := by
        rw [hproof]
        exact hwait.resolve_left (by simp [hst])
      have hask : (applyRequest (w.updTsq (fun t => { t with step := some .apply }))).tsq =
          { w.tsq with step := some .apply } := by
        rw [applyRequest_waits (s := w.updTsq (fun t => { t with step := some .apply })) hp]
        exact (sbkRequested_record true _).1
      rw [if_neg (by simp), hask, hw, hwtsq]
      rfl

end

/-! ### No reference formed (R57, R65) -/

section
variable {s : State} (h : (sampleEnd s).obs.causes = s.obs.causes) (hc : (referred s).computesReference = false)
  (hr : (referred s).rampsDown = false)
include h hc hr

/-- Where no condition of R57 holds, the reference, the target speed and the duty are 0. -/
theorem sampled_rest : (sampleEnd s).srg.vRef = 0 ∧ (sampleEnd s).srg.vTgt = 0 ∧ (sampleEnd s).srg.holding = 0 ∧
    (sampleEnd s).srg.phase = if s.tsq.state = .arriving then s.srg.phase else none := by
  obtain ⟨hq, -⟩ := sampled_quiet h
  obtain ⟨htsq, hsrg, -⟩ := referred_quiet hq
  obtain ⟨hv, hphase, hslow, hslow'⟩ := sampled_reference h
  have hform := formReference_rest hc hr
  have hzero : (writeDuty (formReference (referred s))).srg.vRef = 0 ∧
      (writeDuty (formReference (referred s))).srg.holding = 0 := by
    rw [hform]
    refine ⟨rfl, ?_⟩
    simp [writeDuty, State.duty]
  rw [hzero.1, or_self] at hslow
  rw [hzero.2, or_self] at hslow'
  refine ⟨hslow, ?_, hslow', ?_⟩
  · rw [hv, hform]
    rfl
  · rw [hphase, hform, updSrg_srg, htsq, hsrg]

end

/-- The stop target of a line that does not run stays at a sample (R47, R48). -/
theorem sampled_target {s : State} (h : (sampleEnd s).obs.causes = s.obs.causes) (hs : s.tsq.state ≠ .running) :
    (sampleEnd s).cpt.target = s.cpt.target := by
  obtain ⟨hq, hcount⟩ := sampled_quiet h
  obtain ⟨htsq, -, hcpt, -⟩ := referred_quiet hq
  have hformed : (formed s).tsq = (referred s).tsq ∧ (formed s).cpt = (referred s).cpt := by simp [formed]
  have hhand : handPhase (formed s) = formed s := by
    rw [handPhase, if_neg]
    rw [hformed.1, htsq]
    exact hs
  have hsup : (supervised s).cpt = s.cpt := by
    have hreach (u : State) : (reportReached u).cpt = u.cpt := by simp
    have hsrg : srgSample (referred s) = if (referred s).reached then reportReached (handPhase (formed s))
      else handPhase (formed s) := rfl
    rw [supervised_eq, hsrg, hhand]
    split
    · rw [hreach, hformed.2, hcpt]
    · rw [hformed.2, hcpt]
  rw [sampleEnd_eq]
  simp [hcount.cpt, hsup]

/-- The ramp of a STOP taken in an inspection move (R57, R65). -/
theorem sampled_ramp {s : State} (h : (sampleEnd s).obs.causes = s.obs.causes)
    (hc : (referred s).computesReference = false) (hr : (referred s).rampsDown = true) (hs : s.tsq.state = .tripped) :
    (sampleEnd s).srg.vTgt = 0 ∧
    ((sampleEnd s).obs.stopLatch = s.obs.stopLatch →
      (sampleEnd s).srg.vRef = permittedSpeed (sampleEnd s) (towardSpeed s 0) ∧
      (sampleEnd s).srg.phase = some (risingOrFalling s (sampleEnd s))) := by
  obtain ⟨hq, -⟩ := sampled_quiet h
  obtain ⟨htsq, -⟩ := referred_quiet hq
  obtain ⟨hdec, hacc, -, -, -, hvref⟩ := referred_speeds hq
  obtain ⟨hv, hphase, -⟩ := sampled_reference h
  have hform := formReference_ramped hc hr
  refine ⟨by rw [hv, hform]; rfl, fun hl => ?_⟩
  have hidle : (sampleEnd s).tsq.state = (referred s).tsq.state := by
    have hct := counted_tripped h hs
    rw [(sampleEnd_latched s).1, tsqSample_idle (by simp [hct]) (by simp [hct]), htsq]
    simp [hct, hs]
  obtain ⟨hvr, hperm⟩ := sampled_vRef h (reached_of_rest hc) (.inl hl) hidle
  have hto := rampTo_eq (referred s) 0
  have hsame : towardSpeed (referred s) (1000 * 0) = towardSpeed s 0 := by
    rw [towardSpeed, towardSpeed, hdec, hacc, hvref]
  refine ⟨?_, ?_⟩
  · rw [hvr, hform, ← clampRef_eq, hperm, ← hsame, ← hto]
    rfl
  · have hp := phaseOf_eq false s (sampleEnd s)
    rw [if_neg (by simp)] at hp
    rw [hphase, ← hp, ← hvref, hvr, hform]
    rfl

/-- Settles O13: the target speed, the reference and its phase at a sample, with what a running trip, a move, a controlled
stop and a line without a reference make of them. -/
theorem runningReferenceAtSample : Obligations.RunningReferenceAtSample := by
  have hexec {s t : State} (hx : exec .measurementSample s = .next t) : t = sampleEnd s := by
    have hend : exec .measurementSample s = .next (sampleEnd s) := rfl
    rw [hend] at hx
    exact (Host.Outcome.next.inj hx).symm
  refine ⟨isqrt_spec, ?_, ?_, ?_, ?_⟩
  · intro s t d dt hx h ht
    obtain rfl := hexec hx
    exact ⟨sampled_vTgt h ht, sampled_toward h ht, sampled_latched h, fun hs hstep hp => sampled_move h ht hs hstep hp⟩
  · intro s t g hx hs he hctl hm hg
    obtain rfl := hexec hx
    obtain ⟨-, h⟩ := sampled_uncaused he
    have ht := targetAhead_running hs hctl hm hg
    obtain ⟨hv, hphase⟩ := sampled_toward h ht (.inr (by simp [hs]))
    dsimp only
    split
    next hdt =>
      have hvt := sampled_vTgt h ht
      simp only [hdt, if_true] at hv hvt
      obtain ⟨hevents, htsq⟩ := sampled_arrival hs he hctl hm hg hdt
      exact ⟨hv, hvt, hevents, htsq⟩
    next hdt =>
      obtain ⟨hstate, -⟩ := sampled_onWay h ht (by omega)
      obtain ⟨htphase, hcpt, hduty⟩ := sampled_running hs he hctl hm hg (by omega)
      simp only [hctl, Option.isSome_none, true_and] at hphase
      exact ⟨hstate.trans hs, by rw [hv, if_neg hdt], hphase, htphase, hcpt, hduty⟩
  · intro s t hx h hrun hins htrip
    obtain rfl := hexec hx
    obtain ⟨hq, -⟩ := sampled_quiet h
    obtain ⟨htsq, hsrg, -⟩ := referred_quiet hq
    obtain ⟨-, hden⟩ := referred_den hq
    have hc : (referred s).computesReference = false := by
      rw [← Bool.not_eq_true, computesReference_iff, htsq, hden]
      rintro (hs | ⟨hs, hstep⟩ | ⟨hs, -, hd⟩)
      · exact hrun hs
      · exact hins ⟨hs, by rcases hstep with hstep | hstep <;> simp [show s.tsq.step = _ from hstep]⟩
      · exact htrip ⟨hs, hd⟩
    have hr : (referred s).rampsDown = false := by
      rw [← Bool.not_eq_true, rampsDown_iff, htsq, hden]
      rintro ⟨hs, -, -, hd⟩
      exact htrip ⟨hs, hd⟩
    obtain ⟨hv, hvt, hd, hphase⟩ := sampled_rest h hc hr
    exact ⟨hv, hvt, hd, hphase, sampled_target h hrun⟩
  · intro s t hx h hs hd hctl
    obtain rfl := hexec hx
    obtain ⟨hq, -⟩ := sampled_quiet h
    obtain ⟨htsq, hsrg, -, -, -, hfrom, -⟩ := referred_quiet hq
    obtain ⟨hbraking, hden⟩ := referred_den hq
    have hc : (referred s).computesReference = false := by
      rw [← Bool.not_eq_true, computesReference_iff, htsq, hsrg]
      simp [hs, hctl]
    have hr : (referred s).rampsDown = true ↔ s.obs.trippedFrom = some .inspecting ∧ s.braking = .stop := by
      rw [rampsDown_iff, htsq, hfrom, hbraking, hden]
      simp [hs, hd]
    split
    next hstop =>
      obtain ⟨hvt, hv⟩ := sampled_ramp h hc (hr.mpr hstop) hs
      exact ⟨hvt, hv, fun hl => sampled_latched h hl hs⟩
    next hstop =>
      obtain ⟨hv, hvt, -, hphase⟩ := sampled_rest h hc (by rw [← Bool.not_eq_true, hr]; exact hstop)
      exact ⟨hv, hvt, by rw [hphase, if_neg (by simp [hs])]⟩

end Sys2Proof.Machine
end
